-- ==== Sys2Proof/Word.lean ====
section
/-! DEFINITION. The words of the device: bytes, station addresses, counters and sets written as flags. -/

namespace Sys2Proof

/-- One byte of a frame, or one data symbol (R3, R6). -/
abbrev Byte := BitVec 8

/-- A station address (R5): DEST, SRC, the agent address, a route's address. -/
abbrev Addr := BitVec 16

/-- A counter of the counter set or a hit count: 32 bits (00_scope.md, section 4). -/
abbrev Ctr := BitVec 32

/-- A class set, class k in bit k (12_formats_pins_and_straps.md, first paragraph). -/
abbrev ClassSet := BitVec 6

/-- A port set, port p in bit p (12_formats_pins_and_straps.md, first paragraph). -/
abbrev PortSet := BitVec 4

end Sys2Proof
end

