-- ==== Sys2Proof/Syntax.lean ====
section
/-! DEFINITION. The symbols of the lines (R6, R8) and the commands of the block: one constructor of Instr for each row
of spec/opcode_table.json. -/

namespace Sys2Proof

/-- An urgency class, 0 (most urgent) to 5 (00_scope.md, section 4). -/
abbrev Cls := Fin 6

/-- A tributary port, 0 to 3 (R126). -/
abbrev PortIx := Fin 4

/-- What a line receiver finds in one slot: a 10-bit code word, or none when no code word arrives (R185). -/
abbrev LineWord := Option (BitVec 10)

/-- The symbols of the trunk (R6). -/
inductive TrunkSymbol where
  | idle
  | opened (c : Cls)
  | resume (c : Cls)
  | pause
  | close
  | abort
  | fill
  | mark
  | data (b : Byte)
  deriving DecidableEq, Repr

/-- The symbols of a tributary (R8). -/
inductive TribSymbol where
  | idle
  | start
  | ended
  | abort
  | mark
  | data (b : Byte)
  deriving DecidableEq, Repr

/-- The commands of the block: the steps of spec/opcode_table.json, each whole and indivisible. -/
inductive Instr where
  /-- DEVICE_RESET (R125): the RESET pin goes low. -/
  | deviceReset
  /-- RESET_RELEASE (R186): the RESET pin goes high with this strap value on STRAP3 to STRAP0. -/
  | resetRelease (straps : BitVec 4)
  /-- TRUNK_SLOT (R20): one trunk slot. -/
  | trunkSlot
  /-- TRUNK_STALL_LIMIT (R37): the trunk slot whose FILL reaches the trunk stall limit. -/
  | trunkStallLimit
  /-- WINDOW_EDGE (R52): a trunk slot begins at the offset of a window. -/
  | windowEdge
  /-- CYCLE_WRAP (R54): a trunk slot begins by the counter's own wrap. -/
  | cycleWrap
  /-- MISSED_MARK_CHECK (R82): the missed-mark check of a trunk slot. -/
  | missedMarkCheck
  /-- TRUNK_DOWN (R2): the trunk's receiver reports DOWN. -/
  | trunkDown
  /-- TRUNK_UP (R47): the trunk's receiver reports UP. -/
  | trunkUp
  /-- TRIBUTARY_DOWN (R127): the receiver of tributary p reports DOWN. -/
  | tributaryDown (p : PortIx)
  /-- TRIBUTARY_UP (R127): the receiver of tributary p reports UP. -/
  | tributaryUp (p : PortIx)
  /-- RX_OPEN (R93): OPEN(c) received on the trunk. -/
  | rxOpen (c : Cls)
  /-- RX_RESUME (R91): RESUME(c) received on the trunk. -/
  | rxResume (c : Cls)
  /-- RX_PAUSE (R91). -/
  | rxPause
  /-- RX_DATA (R94): data b received on the trunk. -/
  | rxData (b : Byte)
  /-- RX_FILL (R91). -/
  | rxFill
  /-- RX_CLOSE (R99). -/
  | rxClose
  /-- RX_ABORT (R103). -/
  | rxAbort
  /-- RX_IDLE (R91). -/
  | rxIdle
  /-- RX_UNDECODABLE (R185): a slot of the trunk in which no trunk symbol can be decoded from w. -/
  | rxUndecodable (w : LineWord)
  /-- RX_MARK (R74): a MARK received on the trunk. -/
  | rxMark
  /-- TRIB_RX_START (R129): START from the station of port p. -/
  | tribRxStart (p : PortIx)
  /-- TRIB_RX_DATA (R130): data b from the station of port p. -/
  | tribRxData (p : PortIx) (b : Byte)
  /-- TRIB_RX_END (R132): END from the station of port p. -/
  | tribRxEnd (p : PortIx)
  /-- TRIB_RX_ABORT (R132): ABORT from the station of port p. -/
  | tribRxAbort (p : PortIx)
  /-- TRIB_RX_IDLE (R133, R185): a slot of tributary p handed to the framer as IDLE: the IDLE code word, a code word
  not marked for tributaries, or none. -/
  | tribRxIdle (p : PortIx) (w : LineWord)
  /-- TRIB_RX_MARK (R8): MARK from the station of port p. -/
  | tribRxMark (p : PortIx)
  /-- TRIBUTARY_STALL (R133): the IDLE slot of tributary p in which the gap count reaches the stall limit. -/
  | tributaryStall (p : PortIx) (w : LineWord)
  /-- TRIB_TX_SLOT (R138): one slot of the transmitter of port p. -/
  | tribTxSlot (p : PortIx)
  /-- BUILDER_CHOOSE_JOB (R162). -/
  | builderChooseJob
  /-- STORE_CLAIM_GRANTED (R163). -/
  | storeClaimGranted
  /-- QUERY (R167), and so on to TRAFFIC_RESET: the execution step of a request of that row. -/
  | query
  /-- READ (R166). -/
  | read
  /-- WRITE_CLASSIFY (R146). -/
  | writeClassify
  /-- WRITE_PORT_DEFAULT (R146). -/
  | writePortDefault
  /-- WRITE_CLASS_POLICY (R147). -/
  | writeClassPolicy
  /-- WRITE_ROUTE (R154). -/
  | writeRoute
  /-- WRITE_PORT_CONFIG (R126). -/
  | writePortConfig
  /-- WRITE_SCHEDULE_STANDBY (R58). -/
  | writeScheduleStandby
  /-- WRITE_READ_ONLY_TABLE (R59, R144). -/
  | writeReadOnlyTable
  /-- COMMIT (R60). -/
  | commit
  /-- ABANDON (R61). -/
  | abandon
  /-- SET_ALIGN (R86). -/
  | setAlign
  /-- SET_GLOBAL (R169). -/
  | setGlobal
  /-- READ_COUNTERS (R180). -/
  | readCounters
  /-- READ_COUNTERS_CLEAR (R181). -/
  | readCountersClear
  /-- FLUSH_CLASS_QUEUE (R123). -/
  | flushClassQueue
  /-- FLUSH_DELIVERY_QUEUE (R137). -/
  | flushDeliveryQueue
  /-- TRAFFIC_RESET (R173). -/
  | trafficReset
  /-- DRAIN_END (R43). -/
  | drainEnd
  deriving DecidableEq, Repr

end Sys2Proof
end

