-- ==== Sys2Proof/Decode.lean ====
section
/-! DEFINITION. The symbol code table of section 12.4 in both directions, the command that a received code word spells
(R185), and the host's decodeTableWord: the table's rows give no bits, so no word spells a row by them. -/

namespace Sys2Proof

/-- The code word of a trunk symbol (12.4). -/
def trunkCode : TrunkSymbol → BitVec 10
  | .data b => b.setWidth 10
  | .idle => 0x300
  | .opened c => BitVec.ofNat 10 (0x310 + c.val)
  | .resume c => BitVec.ofNat 10 (0x320 + c.val)
  | .pause => 0x330
  | .close => 0x331
  | .abort => 0x332
  | .fill => 0x333
  | .mark => 0x340

/-- The code word of a tributary symbol (12.4). -/
def tribCode : TribSymbol → BitVec 10
  | .data b => b.setWidth 10
  | .idle => 0x300
  | .abort => 0x332
  | .mark => 0x340
  | .start => 0x350
  | .ended => 0x351

/-- The trunk symbol of a code word, by the trunk's column of 12.4; none where the word is not marked for the trunk. -/
def trunkSymbolOf (w : BitVec 10) : Option TrunkSymbol :=
  if w.toNat < 256 then some (.data (w.setWidth 8))
  else if w.toNat = 0x300 then some .idle
  else if 0x310 ≤ w.toNat ∧ w.toNat ≤ 0x315 then some (.opened (Fin.ofNat 6 (w.toNat - 0x310)))
  else if 0x320 ≤ w.toNat ∧ w.toNat ≤ 0x325 then some (.resume (Fin.ofNat 6 (w.toNat - 0x320)))
  else if w.toNat = 0x330 then some .pause
  else if w.toNat = 0x331 then some .close
  else if w.toNat = 0x332 then some .abort
  else if w.toNat = 0x333 then some .fill
  else if w.toNat = 0x340 then some .mark
  else none

/-- The tributary symbol of a code word, by the tributary's column of 12.4. -/
def tribSymbolOf (w : BitVec 10) : Option TribSymbol :=
  if w.toNat < 256 then some (.data (w.setWidth 8))
  else if w.toNat = 0x300 then some .idle
  else if w.toNat = 0x332 then some .abort
  else if w.toNat = 0x340 then some .mark
  else if w.toNat = 0x350 then some .start
  else if w.toNat = 0x351 then some .ended
  else none

/-- Whether a slot counts as decoded toward a DOWN or UP report: the word stands in the table of 12.4, whatever its
column; a slot in which no code word arrives does not (R185). -/
def countsAsDecoded : LineWord → Bool
  | none => false
  | some w => (trunkSymbolOf w).isSome || (tribSymbolOf w).isSome

/-- The command of a trunk symbol received. -/
def rxCommand : TrunkSymbol → Instr
  | .idle => .rxIdle
  | .opened c => .rxOpen c
  | .resume c => .rxResume c
  | .pause => .rxPause
  | .close => .rxClose
  | .abort => .rxAbort
  | .fill => .rxFill
  | .mark => .rxMark
  | .data b => .rxData b

/-- The command that one slot of the trunk's receiver is (R185): a word not marked for the trunk cannot be decoded. -/
def trunkCommandOf (w : LineWord) : Instr :=
  match w.bind trunkSymbolOf with
  | some y => rxCommand y
  | none => .rxUndecodable w

/-- The command that one slot of the receiver of tributary p is (R185): a word not marked for tributaries is handed to
the framer as IDLE. -/
def tribCommandOf (p : PortIx) (w : LineWord) : Instr :=
  match w.bind tribSymbolOf with
  | some .start => .tribRxStart p
  | some .ended => .tribRxEnd p
  | some .abort => .tribRxAbort p
  | some .mark => .tribRxMark p
  | some (.data b) => .tribRxData p b
  | some .idle => .tribRxIdle p w
  | none => .tribRxIdle p w

/-- The slot of a receiver that a command stands for: its port (none: the trunk) and the code word. Commands that are
not received symbols have none, and neither has TRIBUTARY_STALL, whose slot a word spells as TRIB_RX_IDLE (log 5). -/
def receivedSlot : Instr → Option (Option PortIx × LineWord)
  | .rxOpen c => some (none, some (trunkCode (.opened c)))
  | .rxResume c => some (none, some (trunkCode (.resume c)))
  | .rxPause => some (none, some (trunkCode .pause))
  | .rxData b => some (none, some (trunkCode (.data b)))
  | .rxFill => some (none, some (trunkCode .fill))
  | .rxClose => some (none, some (trunkCode .close))
  | .rxAbort => some (none, some (trunkCode .abort))
  | .rxIdle => some (none, some (trunkCode .idle))
  | .rxUndecodable w => some (none, w)
  | .rxMark => some (none, some (trunkCode .mark))
  | .tribRxStart p => some (some p, some (tribCode .start))
  | .tribRxData p b => some (some p, some (tribCode (.data b)))
  | .tribRxEnd p => some (some p, some (tribCode .ended))
  | .tribRxAbort p => some (some p, some (tribCode .abort))
  | .tribRxIdle p w => some (some p, w)
  | .tribRxMark p => some (some p, some (tribCode .mark))
  | _ => none

/-- The command that a receiver's slot is: on the trunk or on tributary p (R185). -/
def commandOfSlot : Option PortIx × LineWord → Instr
  | (none, w) => trunkCommandOf w
  | (some p, w) => tribCommandOf p w

/-- The host's question: the command that a word spells by the table's bits. No row of spec/opcode_table.json has
bits, so none. -/
def decodeTableWord (_nbits _w : Nat) : Option Instr := none

end Sys2Proof
end

