-- ==== Sys2Proof/Config.lean ====
section
/-! DEFINITION. What the device fixes (00_scope.md, section 5), and the one free value of the model. -/

namespace Sys2Proof.Config

/-- Frame payload of a well-formed frame: at most 1024 bytes (R3). -/
def maxPayload : Nat := 1024
/-- Bytes of a cell (R108). -/
def cellBytes : Nat := 64
/-- The descriptors a line receiver leaves free (R114). -/
def reserveDescs : Nat := 2
/-- The cells a line receiver leaves free (R114). -/
def reserveCells : Nat := 34
/-- MINFRAG: the data bytes of a fragment before its frame may be suspended (R27, R29). -/
def minFrag : Nat := 32
/-- MINTAIL: the bytes that must remain of a frame for it to be suspended (R27, R29). -/
def minTail : Nat := 8
/-- The frames a delivery queue holds (R136). -/
def deliveryLimit : Nat := 32
/-- The requests the Agent Inbox holds (R160). -/
def inboxLimit : Nat := 4
/-- The entries the Replay Table holds (R172). -/
def replayLimit : Nat := 4
/-- The miss count at which alignment is lost (R84). -/
def missLimit : Nat := 4
/-- Failed code words in a row that make a receiver report its line DOWN (R185). -/
def downRun : Nat := 16
/-- Decoded code words in a row that make a receiver report its line UP again (R185). -/
def upRun : Nat := 64
/-- The broadcast address (R5). -/
def broadcast : Addr := 0xFFFF
/-- The family code and the revision that QUERY returns (12.2, QUERY data). -/
def familyCode : BitVec 16 := 0x4E4C
def revision : Byte := 0x01

/-- FREE VALUE (log 8, log 9). Where the spec says two effects inside one step are taken in either order, the answer to
the n-th such question: true when the one that the model's text puts first is taken first. It has no body, so a
claim holds whichever order the device takes. -/
opaque eitherOrder : Nat → Bool

end Sys2Proof.Config
end

