-- ==== Sys2Proof/Machine/State.lean ====
section
/-! DEFINITION. The state of the block as plain data, one structure for each block of the manual that owns it, and the
machine right after reset. -/

namespace Sys2Proof.Machine

/-- A descriptor's number, 0 to 127 (R109). -/
abbrev DescId := Fin 128

/-- A cell's number, 0 to 511 (R108). -/
abbrev CellId := Fin 512

/-- The contents of the cells: (64 x cell + position, byte), in the canonical form of Memory.wf. -/
abbrev Memory := List Host.Cell

/-! ### Lines -/

/-- A line's receiver: its report UP or DOWN (R2), and the runs of failed and of decoded code words (R185). -/
structure LineRx where
  up : Bool
  failedRun : Nat
  decodedRun : Nat
  deriving DecidableEq, Repr

/-! ### Interleaver (chapter 2) -/

/-- Why an open frame is suspended (R16). -/
inductive SuspendCause where
  | preempted
  | gated
  deriving DecidableEq, Repr

/-- ACTIVE, or SUSPENDED with its cause (R16). -/
inductive EntryState where
  | active
  | suspended (cause : SuspendCause)
  deriving DecidableEq, Repr

/-- An entry of the Preemption Stack (R16). -/
structure StackEntry where
  desc : DescId
  cls : Cls
  state : EntryState
  emitted : Nat
  fragment : Nat
  starve : Nat
  preemptible : Bool
  fitChecked : Bool
  deriving DecidableEq, Repr

/-- The Interleaver's five counters for each class (R48). -/
structure IlCounters where
  sent : Vector Ctr 6
  aborted : Vector Ctr 6
  preempted : Vector Ctr 6
  gateSuspended : Vector Ctr 6
  overruns : Vector Ctr 6
  deriving DecidableEq, Repr

/-- The Interleaver (R16): the Preemption Stack, TOP FIRST, the drain flag, the reply hold and the counters. -/
structure Interleaver where
  stack : List StackEntry
  drain : Bool
  hold : Option DescId
  counters : IlCounters
  deriving DecidableEq, Repr

/-! ### Window Schedule (chapter 3) -/

/-- A window record (R50). -/
structure Window where
  offset : Nat
  openSet : ClassSet
  deriving DecidableEq, Repr

/-- A bank (R50): L, n and sixteen window records. -/
structure Bank where
  length : Nat
  count : Nat
  windows : Vector Window 16
  deriving DecidableEq, Repr

/-- A bank's letter (R50). -/
inductive BankId where
  | a
  | b
  deriving DecidableEq, Repr

/-- The commit state (section 3.6). -/
inductive CommitState where
  | idle
  | pending
  deriving DecidableEq, Repr

/-- The Window Schedule (R49 to R53, R60, R70). `slotBegun` (log 3) says that the counter holds the value of a slot
whose trunk symbol is still to be decided; `slotByWrap`, that this slot holds 0 by the counter's own wrap (R54, R75);
`slotWidth` is the W that was in force when the slot began (R82). -/
structure Schedule where
  counter : Nat
  active : BankId
  bankA : Bank
  bankB : Bank
  window : Nat
  openBefore : ClassSet
  commit : CommitState
  unfit : Vector Ctr 6
  slotBegun : Bool
  slotByWrap : Bool
  slotWidth : Nat
  deriving DecidableEq, Repr

/-! ### Alignment Unit (chapter 4) -/

/-- The mode (R73). -/
inductive AlignMode where
  | free
  | follow
  deriving DecidableEq, Repr

/-- The alignment state (R73). -/
inductive AlignState where
  | free
  | seeking
  | locked
  | holdover
  deriving DecidableEq, Repr

/-- The mark counters (R87). -/
structure AlignCounters where
  acquired : Ctr
  onTime : Ctr
  early : Ctr
  late : Ctr
  misaligned : Ctr
  missed : Ctr
  deriving DecidableEq, Repr

/-- The Alignment Unit (R73). -/
structure Align where
  mode : AlignMode
  state : AlignState
  width : Nat
  miss : Nat
  expect : Bool
  counters : AlignCounters
  deriving DecidableEq, Repr

/-! ### Frame Store (chapter 6) -/

/-- Why a descriptor is FAILED (R117). -/
inductive FailReason where
  | noStore
  | overlong
  | short
  | badCrc
  | stationAbort
  | stall
  | lineDown
  | reset
  | trunkStall
  | unfit
  | flushed
  deriving DecidableEq, Repr

/-- A descriptor's state (R110). -/
inductive DescState where
  | free
  | filling
  | complete
  | failed (r : FailReason)
  deriving DecidableEq, Repr

/-- The block that writes a frame (R109). -/
inductive Origin where
  | tributary (p : PortIx)
  | trunk
  | agent
  deriving DecidableEq, Repr

/-- A frame's header (R3). -/
structure Header where
  dest : Addr
  src : Addr
  tag : Byte
  len : BitVec 16
  deriving DecidableEq, Repr

/-- A descriptor (R109). `origin` is absent while it is not in use. -/
structure Descriptor where
  state : DescState
  origin : Option Origin
  cls : Option Cls
  cutThrough : Bool
  header : Option Header
  stored : Nat
  chain : List CellId
  refs : Nat
  deriving DecidableEq, Repr

/-- The Frame Store (R108, R109, R111, R120): descriptors, cell contents, the two free lists (head first) and the six
class queues (oldest first). -/
structure FrameStore where
  descs : Vector Descriptor 128
  cells : Memory
  freeCells : List CellId
  freeDescs : List DescId
  queues : Vector (List DescId) 6
  deriving DecidableEq, Repr

/-! ### Deinterleaver (chapter 5) -/

/-- ACTIVE or SUSPENDED: the state of an open frame in the nesting grammar (R10). -/
inductive Activity where
  | active
  | suspended
  deriving DecidableEq, Repr

/-- An entry of an open-frame list (R10). -/
structure OpenFrame where
  cls : Cls
  state : Activity
  deriving DecidableEq, Repr

/-- The reason of a DISCARD (R89). -/
inductive DiscardReason where
  | noStore
  | unrouted
  | malformed
  | overlong
  | reset
  deriving DecidableEq, Repr

/-- What becomes of a frame when it ends (R89). -/
inductive Disposition where
  | awaitHeader
  | toPorts (ports : PortSet)
  | toAgent
  | discard (r : DiscardReason)
  deriving DecidableEq, Repr

/-- A reassembly context (R89), but for its state, whose one home is the Reassembly Stack (R88). -/
structure Context where
  storage : Option DescId
  received : Nat
  check : BitVec 16
  header : Option Header
  disposition : Disposition
  deriving DecidableEq, Repr

/-- The receiver mode (R90). -/
inductive RxMode where
  | normal
  | resync
  deriving DecidableEq, Repr

/-- The Deinterleaver's counters (R107). -/
structure RxCounters where
  accepted : Ctr
  crcErrors : Ctr
  lengthErrors : Ctr
  unrouted : Ctr
  noStore : Ctr
  violations : Ctr
  deriving DecidableEq, Repr

/-- The Deinterleaver (R88 to R90, R107): mode, the Reassembly Stack, TOP FIRST, the contexts and the counters. -/
structure Deinterleaver where
  mode : RxMode
  stack : List OpenFrame
  contexts : Vector Context 6
  counters : RxCounters
  deriving DecidableEq, Repr

/-! ### Tributary Ports (chapter 7) -/

/-- The port configuration (R126). -/
structure PortConfig where
  enabled : Bool
  markForwarding : Bool
  stallLimit : Nat
  deriving DecidableEq, Repr

/-- The framer state (R128). -/
inductive FramerState where
  | idle
  | header
  | body
  | discard
  deriving DecidableEq, Repr

/-- The receive framer (R128). -/
structure Framer where
  state : FramerState
  desc : Option DescId
  check : BitVec 16
  gap : Nat
  deriving DecidableEq, Repr

/-- A frame in sending and the position in it: the bytes sent (R138). -/
structure Sending where
  desc : DescId
  sent : Nat
  deriving DecidableEq, Repr

/-- A port's nine counters, in the order of R140. -/
structure PortCounters where
  received : Ctr
  droppedByClass : Ctr
  discarded : Ctr
  failedFormat : Ctr
  failedStation : Ctr
  failedStore : Ctr
  failedOther : Ctr
  delivered : Ctr
  refused : Ctr
  deriving DecidableEq, Repr

/-- A Tributary Port (R126 to R140). `displaced` is the symbol that a MARK sent in its place has left to be sent in the
following slot (R139; log 26). `txLine` is the symbol last placed on its line, none while the RESET pin is held. -/
structure Port where
  config : PortConfig
  rx : LineRx
  framer : Framer
  delivery : List DescId
  sending : Option Sending
  markPending : Bool
  displaced : Option TribSymbol
  txLine : Option TribSymbol
  counters : PortCounters
  deriving DecidableEq, Repr

/-! ### Classifier, Class Policy and Route Table (chapters 8 and 9) -/

/-- A class decision (R141, R145). -/
inductive Action where
  | forward (c : Cls)
  | drop
  deriving DecidableEq, Repr

/-- An entry of the Classification Table (R141). -/
structure ClassEntry where
  valid : Bool
  ports : PortSet
  tagValue : Byte
  tagMask : Byte
  srcMatch : Bool
  srcValue : Addr
  action : Action
  hits : Ctr
  deriving DecidableEq, Repr

/-- The Classifier: the Classification Table and the Port Defaults (R141, R145). -/
structure Classifier where
  entries : Vector ClassEntry 32
  defaults : Vector Action 4
  deriving DecidableEq, Repr

/-- An entry of the Class Policy (R147). -/
structure ClassPolicy where
  preemptible : Bool
  cutThrough : Bool
  queueLimit : Nat
  deriving DecidableEq, Repr

/-- An entry of the Route Table (R151). -/
structure Route where
  valid : Bool
  address : Addr
  port : PortIx
  deriving DecidableEq, Repr

/-! ### Management Agent (chapters 10 and 11) -/

/-- The statuses of a reply (R165). -/
inductive Status where
  | ok
  | badKind
  | badTable
  | badValue
  | badLength
  | badIndex
  | duplicate
  | readOnly
  | pending
  | notPending
  | badSchedule
  deriving DecidableEq, Repr

/-- An entry of the Replay Table (R171); the kind is its code. -/
structure ReplayEntry where
  requester : Addr
  seq : BitVec 16
  kind : Byte
  status : Status
  replayed : Bool
  deriving DecidableEq, Repr

/-- A line of the device (R2). -/
inductive Line where
  | trunk
  | tributary (p : PortIx)
  deriving DecidableEq, Repr

/-- The nine kinds of notice (R176). -/
inductive NoticeKind where
  | stallAbort
  | trunkGrammar
  | storeExhausted
  | alignLost
  | alignRegained
  | commitDone
  | gateOverrun
  | unfitDrop
  | lineEvent
  deriving DecidableEq, Repr

/-- A raise: its kind with the detail the kind carries (R176). -/
inductive Notice where
  | stallAbort (l : Line)
  | trunkGrammar
  | storeExhausted
  | alignLost
  | alignRegained
  | commitDone (active : BankId)
  | gateOverrun (c : Cls)
  | unfitDrop (c : Cls)
  | lineEvent (l : Line) (up : Bool)
  deriving DecidableEq, Repr

/-- A record of the Notice List (R176): the first raise with its detail, the occurrence count, the counter value. -/
structure NoticeRecord where
  first : Notice
  count : BitVec 16
  counter : Nat
  deriving DecidableEq, Repr

/-- The builder state (R162). -/
inductive BuilderState where
  | idle
  | waitingStore
  | executing
  deriving DecidableEq, Repr

/-- The builder's two kinds of job (R162). -/
inductive Job where
  | reply
  | notice
  deriving DecidableEq, Repr

/-- The reply that an executed TRAFFIC_RESET still owes (R173, R174): the claimed descriptor, and what the reply copies
from the request (R164). -/
structure OwedReply where
  desc : DescId
  dest : Addr
  tag : Byte
  seq : BitVec 16
  deriving DecidableEq, Repr

/-- The Agent's counters (R175). -/
structure AgentCounters where
  executed : Ctr
  refused : Ctr
  replays : Ctr
  unanswerable : Ctr
  overflows : Ctr
  droppedByReset : Ctr
  deriving DecidableEq, Repr

/-- The Management Agent (R159, R176). -/
structure Agent where
  address : Addr
  mgmtClass : Cls
  noticeDest : Addr
  noticeMask : BitVec 9
  stallLimit : Nat
  inbox : List DescId
  inHand : Option DescId
  builder : BuilderState
  job : Option Job
  lastBuilt : Job
  owed : Option OwedReply
  replay : List ReplayEntry
  notices : List NoticeRecord
  counters : AgentCounters
  deriving DecidableEq, Repr

/-- The state of the block, and the queue of the commands that wait, first in, first out. `freeDraws` counts the free
choices taken (the model's own field, log 23). `trunkTx` is the symbol last placed on the trunk, none while the RESET
pin is held (R1). -/
structure State where
  pending : List Instr
  resetHeld : Bool
  straps : BitVec 4
  trunkRx : LineRx
  trunkTx : Option TrunkSymbol
  il : Interleaver
  sched : Schedule
  align : Align
  rx : Deinterleaver
  store : FrameStore
  ports : Vector Port 4
  classifier : Classifier
  policy : Vector ClassPolicy 6
  routes : Vector Route 64
  agent : Agent
  freeDraws : Nat
  deriving DecidableEq, Repr

/-- Why a step could stop with a fault. No command of the block raises one: the spec names no event that stops the
device, and the type is empty. Nothing unsafe rests on it. -/
inductive Fault where
  deriving DecidableEq, Repr

/-- Why a step could be refused. -/
inductive Refusal where
  /-- Raised by exec for a command that has no meaning yet; every command has one, so nothing raises it. Safe. -/
  | notModelled (mnemonic : String)
  deriving DecidableEq, Repr

/-- What a meaning answers. -/
abbrev Answer := Host.Outcome State Fault Refusal

/-! ### Updates of one part of the state, the rest kept -/

def State.updTrunkRx (f : LineRx → LineRx) (s : State) : State := { s with trunkRx := f s.trunkRx }
def State.setTrunkTx (y : Option TrunkSymbol) (s : State) : State := { s with trunkTx := y }
def State.updIl (f : Interleaver → Interleaver) (s : State) : State := { s with il := f s.il }
def State.updSched (f : Schedule → Schedule) (s : State) : State := { s with sched := f s.sched }
def State.updAlign (f : Align → Align) (s : State) : State := { s with align := f s.align }
def State.updRx (f : Deinterleaver → Deinterleaver) (s : State) : State := { s with rx := f s.rx }
def State.updStore (f : FrameStore → FrameStore) (s : State) : State := { s with store := f s.store }
def State.updPorts (f : Vector Port 4 → Vector Port 4) (s : State) : State := { s with ports := f s.ports }
def State.updClassifier (f : Classifier → Classifier) (s : State) : State := { s with classifier := f s.classifier }
def State.setPolicy (v : Vector ClassPolicy 6) (s : State) : State := { s with policy := v }
def State.setRoutes (v : Vector Route 64) (s : State) : State := { s with routes := v }
def State.updAgent (f : Agent → Agent) (s : State) : State := { s with agent := f s.agent }
def State.setDraws (n : Nat) (s : State) : State := { s with freeDraws := n }
def State.drawFree (s : State) : State := s.setDraws (s.freeDraws + 1)

/-! ### The values after device reset, block by block -/

/-- Every class (R50, R53). -/
def allClasses : ClassSet := 0x3F

def LineRx.reset : LineRx := { up := false, failedRun := 0, decodedRun := 0 }

def IlCounters.zero : IlCounters :=
  { sent := Vector.replicate 6 0, aborted := Vector.replicate 6 0, preempted := Vector.replicate 6 0,
    gateSuspended := Vector.replicate 6 0, overruns := Vector.replicate 6 0 }

/-- R19. -/
def Interleaver.reset : Interleaver := { stack := [], drain := false, hold := none, counters := IlCounters.zero }

/-- R50: L 1,000,000, n 1, window 0 open to all six classes, the other records empty. -/
def Bank.reset : Bank :=
  { length := 1000000, count := 1,
    windows := (Vector.replicate 16 { offset := 0, openSet := 0 }).set 0 { offset := 0, openSet := allClasses } }

/-- R71. The first trunk slot holds 0 and is no boundary (R49), so it stands begun (log 3). -/
def Schedule.reset : Schedule :=
  { counter := 0, active := .a, bankA := Bank.reset, bankB := Bank.reset, window := 0, openBefore := allClasses,
    commit := .idle, unfit := Vector.replicate 6 0, slotBegun := true, slotByWrap := false, slotWidth := 16 }

def AlignCounters.zero : AlignCounters :=
  { acquired := 0, onTime := 0, early := 0, late := 0, misaligned := 0, missed := 0 }

/-- R73. -/
def Align.reset : Align :=
  { mode := .free, state := .free, width := 16, miss := 0, expect := false, counters := AlignCounters.zero }

/-- A descriptor on the free list (R109). -/
def Descriptor.unused : Descriptor :=
  { state := .free, origin := none, cls := none, cutThrough := false, header := none, stored := 0, chain := [], refs := 0 }

/-- R125. Nothing is listed of the cells' contents, which are undefined (log 10). -/
def FrameStore.reset : FrameStore :=
  { descs := Vector.replicate 128 Descriptor.unused, cells := [], freeCells := List.finRange 512,
    freeDescs := List.finRange 128, queues := Vector.replicate 6 [] }

/-- A CLOSED context (R89); its unused fields by log 17. -/
def Context.closed : Context :=
  { storage := none, received := 0, check := 0xFFFF, header := none, disposition := .awaitHeader }

def RxCounters.zero : RxCounters :=
  { accepted := 0, crcErrors := 0, lengthErrors := 0, unrouted := 0, noStore := 0, violations := 0 }

/-- R89. -/
def Deinterleaver.reset : Deinterleaver :=
  { mode := .resync, stack := [], contexts := Vector.replicate 6 Context.closed, counters := RxCounters.zero }

def PortConfig.reset : PortConfig := { enabled := true, markForwarding := false, stallLimit := 2048 }

/-- R128; the check register of a framer that has had no frame by log 17. -/
def Framer.reset : Framer := { state := .idle, desc := none, check := 0xFFFF, gap := 0 }

def PortCounters.zero : PortCounters :=
  { received := 0, droppedByClass := 0, discarded := 0, failedFormat := 0, failedStation := 0, failedStore := 0,
    failedOther := 0, delivered := 0, refused := 0 }

/-- R126 to R140. -/
def Port.reset (y : Option TribSymbol) : Port :=
  { config := PortConfig.reset, rx := LineRx.reset, framer := Framer.reset, delivery := [], sending := none,
    markPending := false, displaced := none, txLine := y, counters := PortCounters.zero }

/-- R141. -/
def ClassEntry.reset : ClassEntry :=
  { valid := false, ports := 0, tagValue := 0, tagMask := 0, srcMatch := false, srcValue := 0, action := .drop, hits := 0 }

/-- R141, R145. -/
def Classifier.reset : Classifier :=
  { entries := Vector.replicate 32 ClassEntry.reset, defaults := Vector.replicate 4 (.forward 5) }

/-- R147: class 0 alone is not preemptible. -/
def policyReset : Vector ClassPolicy 6 :=
  (Vector.replicate 6 { preemptible := true, cutThrough := false, queueLimit := 32 }).set 0
    { preemptible := false, cutThrough := false, queueLimit := 32 }

/-- R151. -/
def routesReset : Vector Route 64 := Vector.replicate 64 { valid := false, address := 0, port := 0 }

def AgentCounters.zero : AgentCounters :=
  { executed := 0, refused := 0, replays := 0, unanswerable := 0, overflows := 0, droppedByReset := 0 }

/-- The agent address that a strap value gives (R159, R186). -/
def strapAddress (straps : BitVec 4) : Addr := 0xFE00 + straps.setWidth 16

/-- R159, R176. -/
def Agent.reset (straps : BitVec 4) : Agent :=
  { address := strapAddress straps, mgmtClass := 1, noticeDest := 0, noticeMask := 0x1FF, stallLimit := 1024,
    inbox := [], inHand := none, builder := .idle, job := none, lastBuilt := .notice, owed := none, replay := [],
    notices := [], counters := AgentCounters.zero }

/-- Every block at its reset values, with the queue and the free draws given. `held` says whether the RESET pin is still
low: while it is, no transmitter sends (R1). -/
def State.blocksReset (held : Bool) (straps : BitVec 4) (pending : List Instr) (freeDraws : Nat) : State :=
  { pending := pending, resetHeld := held, straps := straps, trunkRx := LineRx.reset,
    trunkTx := if held then none else some .idle, il := Interleaver.reset, sched := Schedule.reset, align := Align.reset,
    rx := Deinterleaver.reset, store := FrameStore.reset,
    ports := Vector.replicate 4 (Port.reset (if held then none else some .idle)), classifier := Classifier.reset,
    policy := policyReset, routes := routesReset, agent := Agent.reset straps, freeDraws := freeDraws }

/-- The machine right after reset: the RESET pin released with strap value 0 (log 2), no command waiting. -/
def State.reset : State := State.blocksReset false 0 [] 0

end Sys2Proof.Machine
end

