-- ==== Sys2Proof/Machine/Memory.lean ====
section
/-! DEFINITION. The contents of the Frame Store's cells (R108), as a list in one canonical form. -/

namespace Sys2Proof.Machine

/-- The addresses of the store: 512 cells of 64 bytes (R108). -/
def storeBytes : Nat := 512 * Config.cellBytes

/-- What a byte that nothing has written since device reset reads as. DESIGN CHOICE, unsafe (log 10): R108 and R125 call
it undefined, and no block reads one. -/
def unlistedByte : Byte := 0

/-- The byte at an address. -/
def Memory.read : Memory → Nat → Byte
  | [], _ => unlistedByte
  | x :: m, a => if x.1 = a then x.2 else Memory.read m a

/-- The contents with byte b at address a. Writing what an unlisted address reads as removes the entry. -/
def Memory.write : Memory → Nat → Byte → Memory
  | [], a, b => if b = unlistedByte then [] else [(a, b)]
  | x :: m, a, b =>
    if a < x.1 then (if b = unlistedByte then x :: m else (a, b) :: x :: m)
    else if a = x.1 then (if b = unlistedByte then m else (a, b) :: m)
    else x :: Memory.write m a b

/-- The canonical form: addresses strictly rising and inside the store, and no entry equal to what an unlisted address
reads as. -/
def Memory.wf (m : Memory) : Bool :=
  decide (m.Pairwise fun x y => x.1 < y.1) && m.all fun x => decide (x.1 < storeBytes) && decide (x.2 ≠ unlistedByte)

end Sys2Proof.Machine
end

