-- ==== Sys2Proof/Machine/Flags.lean ====
section
/-! DEFINITION. Counters that saturate, the notices an event raises, and the raises of one step in any order. -/

namespace Sys2Proof.Machine

/-! ### Tables of fixed size -/

/-- Entry i of a table. -/
def vget {α : Type} {n : Nat} (v : Vector α n) (i : Fin n) : α := v[i.val]

/-- The table with x at entry i. -/
def vset {α : Type} {n : Nat} (v : Vector α n) (i : Fin n) (x : α) : Vector α n := v.set i.val x i.isLt

/-- The table with f applied to entry i. -/
def vupd {α : Type} {n : Nat} (v : Vector α n) (i : Fin n) (f : α → α) : Vector α n := vset v i (f (vget v i))

/-- f applied to the four ports. -/
def mapPorts (f : Port → Port) (v : Vector Port 4) : Vector Port 4 := vupd (vupd (vupd (vupd v 0 f) 1 f) 2 f) 3 f

/-! ### Counters -/

/-- A counter of the counter set rises by 1 and saturates at its largest value (section 11.4). -/
def ctrInc (c : Ctr) : Ctr := if c = BitVec.allOnes 32 then c else c + 1

/-- The counter of class c in a table of one counter for each class. -/
def bump (c : Cls) (v : Vector Ctr 6) : Vector Ctr 6 := vupd v c ctrInc

/-- An occurrence count rises by 1 and saturates at 65,535 (R177). -/
def countInc (n : BitVec 16) : BitVec 16 := if n = BitVec.allOnes 16 then n else n + 1

/-! ### Sets written as flags -/

/-- Class c is in a class set (section 12, class k in bit k). -/
def classIn (c : Cls) (m : ClassSet) : Bool := m.getLsbD c.val

/-- Port p is in a port set (section 12, port p in bit p). -/
def portIn (p : PortIx) (m : PortSet) : Bool := m.getLsbD p.val

/-! ### Notices -/

/-- The kind of a raise (R176). -/
def Notice.kind : Notice → NoticeKind
  | .stallAbort _ => .stallAbort
  | .trunkGrammar => .trunkGrammar
  | .storeExhausted => .storeExhausted
  | .alignLost => .alignLost
  | .alignRegained => .alignRegained
  | .commitDone _ => .commitDone
  | .gateOverrun _ => .gateOverrun
  | .unfitDrop _ => .unfitDrop
  | .lineEvent _ _ => .lineEvent

/-- The code of a notice kind (12.3). -/
def NoticeKind.code : NoticeKind → Nat
  | .stallAbort => 1
  | .trunkGrammar => 2
  | .storeExhausted => 3
  | .alignLost => 4
  | .alignRegained => 5
  | .commitDone => 6
  | .gateOverrun => 7
  | .unfitDrop => 8
  | .lineEvent => 9

/-- The notice mask enables a kind: bit k - 1 for the kind of code k (12.3). -/
def maskAllows (mask : BitVec 9) (k : NoticeKind) : Bool := mask.getLsbD (k.code - 1)

/-- A raise taken by the Notice List (R177): the record of its kind counts it, or a new record joins the tail. -/
def noteRaise (e : Notice) (counter : Nat) : List NoticeRecord → List NoticeRecord
  | [] => [{ first := e, count := 1, counter := counter }]
  | r :: rs => if r.first.kind = e.kind then { r with count := countInc r.count } :: rs else r :: noteRaise e counter rs

/-- An event raises a notice (R177), with the counter value of its slot. A kind that the mask disables is ignored. -/
def raise (e : Notice) (s : State) : State :=
  s.updAgent fun a =>
    if maskAllows a.noticeMask e.kind then { a with notices := noteRaise e s.sched.counter a.notices } else a

/-! ### The raises of one step (R177; log 8)

R177: "Two raises in one step are taken in either order." A step that may raise more than one notice gathers its raises in
a list and takes them at its end, in an order that is a free value. A raise changes the Notice List alone, which nothing
else in such a step reads. -/

/-- e put at a free place among es, the n-th free choice being the next; and the number of the choice after it. -/
def placeFree (e : Notice) : List Notice → Nat → List Notice × Nat
  | [], n => ([e], n)
  | x :: xs, n =>
    if Config.eitherOrder n then (e :: x :: xs, n + 1)
    else ((x :: (placeFree e xs (n + 1)).1), (placeFree e xs (n + 1)).2)

/-- es in a free order. -/
def freeOrder : List Notice → Nat → List Notice × Nat
  | [], n => ([], n)
  | e :: es, n => placeFree e (freeOrder es n).1 (freeOrder es n).2

/-- Raises taken one after another. -/
def raiseEach (es : List Notice) (s : State) : State := es.foldl (fun s e => raise e s) s

/-- The raises of one step, taken in any order. -/
def raiseAll (es : List Notice) (s : State) : State :=
  raiseEach (freeOrder es s.freeDraws).1 (s.setDraws (freeOrder es s.freeDraws).2)

end Sys2Proof.Machine
end

