-- ==== Sys2Proof/Machine/Ops.lean ====
section
/-! DEFINITION. The operations that several blocks share: the frame check, the Frame Store's takes, writes, references
and releases (chapter 6), and the failure of a frame (R117). -/

namespace Sys2Proof.Machine

/-- While the RESET pin is held no block acts (R1, R19, R125; log 18). -/
def whenRunning (f : State → State) (s : State) : State := if s.resetHeld then s else f s

/-! ### The frame check (R4) -/

/-- The check register before the first byte. -/
def freshCheck : BitVec 16 := 0xFFFF

/-- One bit fed into the register of the polynomial x^16 + x^12 + x^5 + 1. -/
def crcBit (r : BitVec 16) (x : Bool) : BitVec 16 := if r.msb != x then (r <<< 1) ^^^ 0x1021 else r <<< 1

/-- One byte fed, most significant bit first. -/
def crcByte (r : BitVec 16) (b : Byte) : BitVec 16 :=
  [7, 6, 5, 4, 3, 2, 1, 0].foldl (fun r i => crcBit r (b.getLsbD i)) r

/-- Bytes fed in frame order. -/
def crcBytes (r : BitVec 16) (bs : List Byte) : BitVec 16 := bs.foldl crcByte r

/-! ### Bytes of a frame -/

/-- A field of two bytes, high byte first (R3). -/
def word16 (hi lo : Byte) : BitVec 16 := hi ++ lo

/-- The high and the low byte of a field of two bytes. -/
def hiByte (w : BitVec 16) : Byte := (w >>> 8).setWidth 8
def loByte (w : BitVec 16) : Byte := w.setWidth 8

/-- The bytes of a whole frame: LEN + 9 (R3). A descriptor with no header has no frame to measure (log 20). -/
def Header.frameBytes (h : Header) : Nat := h.len.toNat + 9

def Descriptor.frameBytes (x : Descriptor) : Nat := (x.header.map Header.frameBytes).getD 0

/-- The cells that a frame of n bytes fills: n / 64, rounded up (R108). -/
def cellsFor (n : Nat) : Nat := (n + (Config.cellBytes - 1)) / Config.cellBytes

namespace FrameStore

/-- A descriptor by its number. -/
def desc (st : FrameStore) (d : DescId) : Descriptor := vget st.descs d

/-- The store with f applied to descriptor d. -/
def updDesc (d : DescId) (f : Descriptor → Descriptor) (st : FrameStore) : FrameStore :=
  { st with descs := vupd st.descs d f }

/-- The class queue of class c (R120). -/
def queue (st : FrameStore) (c : Cls) : List DescId := vget st.queues c

/-- The address in the cells of byte k of the frame in d, counted from 1 (R108); none if the chain has no such cell. -/
def byteAddr (st : FrameStore) (d : DescId) (k : Nat) : Option Nat :=
  ((st.desc d).chain[(k - 1) / Config.cellBytes]?).map fun c => c.val * Config.cellBytes + (k - 1) % Config.cellBytes

/-- Byte k of the frame in d, counted from 1. -/
def readByte (st : FrameStore) (d : DescId) (k : Nat) : Byte :=
  match st.byteAddr d k with
  | some a => Memory.read st.cells a
  | none => unlistedByte

/-- Byte k of the frame in d is written; bytes stored becomes k (R109). -/
def writeByte (d : DescId) (k : Nat) (b : Byte) (st : FrameStore) : FrameStore :=
  match st.byteAddr d k with
  | some a => { st with cells := Memory.write st.cells a b }.updDesc d fun x => { x with stored := k }
  | none => st

/-- Bytes written one after another from byte k on. -/
def writeBytes (d : DescId) : Nat → List Byte → FrameStore → FrameStore
  | _, [], st => st
  | k, b :: bs, st => writeBytes d (k + 1) bs (st.writeByte d k b)

/-- The header that bytes 1 to 7 of the frame in d hold (R3). -/
def readHeader (st : FrameStore) (d : DescId) : Header :=
  { dest := word16 (st.readByte d 1) (st.readByte d 2), src := word16 (st.readByte d 3) (st.readByte d 4),
    tag := st.readByte d 5, len := word16 (st.readByte d 6) (st.readByte d 7) }

/-! #### Takes (R112 to R114) -/

/-- The fields of a descriptor at its take (R112). -/
def begun (o : Origin) : Descriptor := { Descriptor.unused with state := .filling, origin := some o }

/-- The head of the free descriptor list is taken (R111, R112). -/
def takeDesc (o : Origin) (st : FrameStore) : Option (DescId × FrameStore) :=
  match st.freeDescs with
  | [] => none
  | d :: ds => some (d, { st with freeDescs := ds }.updDesc d fun _ => begun o)

/-- A line receiver may take a descriptor: at least 2 descriptors and 34 cells stay free (R114). -/
def descTakeAllowed (st : FrameStore) : Bool :=
  decide (Config.reserveDescs + 1 ≤ st.freeDescs.length) && decide (Config.reserveCells ≤ st.freeCells.length)

/-- A line receiver may take a cell: at least 2 descriptors and 34 cells stay free (R114). -/
def cellTakeAllowed (st : FrameStore) : Bool :=
  decide (Config.reserveDescs ≤ st.freeDescs.length) && decide (Config.reserveCells + 1 ≤ st.freeCells.length)

/-- A line receiver's descriptor take, granted or refused by the reserve; a refused take leaves the store unchanged. -/
def lineTakeDesc (o : Origin) (st : FrameStore) : Option (DescId × FrameStore) :=
  if st.descTakeAllowed then st.takeDesc o else none

/-- The head of the free cell list joins the end of the chain of d (R113). -/
def takeCell (d : DescId) (st : FrameStore) : Option FrameStore :=
  match st.freeCells with
  | [] => none
  | c :: cs => some ({ st with freeCells := cs }.updDesc d fun x => { x with chain := x.chain ++ [c] })

/-- A line receiver's cell take, granted or refused by the reserve. -/
def lineTakeCell (d : DescId) (st : FrameStore) : Option FrameStore :=
  if st.cellTakeAllowed then st.takeCell d else none

/-- A line receiver stores the next byte of the frame in d (R94, R113, R130): a cell is taken first when the bytes stored
fill the chain. None where the cell is refused; the byte is then not written. -/
def lineByte (d : DescId) (b : Byte) (st : FrameStore) : Option FrameStore :=
  if (st.desc d).stored % Config.cellBytes = 0 then
    match st.lineTakeCell d with
    | none => none
    | some st' => some (st'.writeByte d ((st.desc d).stored + 1) b)
  else some (st.writeByte d ((st.desc d).stored + 1) b)

/-- The Agent's claim of one descriptor and n cells, granted whole or refused whole; the reserve does not apply (R113). -/
def agentClaim (n : Nat) (st : FrameStore) : Option (DescId × FrameStore) :=
  if n ≤ st.freeCells.length then
    match st.takeDesc .agent with
    | none => none
    | some (d, st') =>
      some (d, { st' with freeCells := st'.freeCells.drop n }.updDesc d fun x => { x with chain := st'.freeCells.take n })
  else none

/-! #### References and release (R111, R118, R119) -/

/-- A release: the cells return to the tail of the free cell list in chain order, then the descriptor to the tail of the
free descriptor list (R111), and it becomes FREE. -/
def release (d : DescId) (st : FrameStore) : FrameStore :=
  { st with freeCells := st.freeCells ++ (st.desc d).chain, freeDescs := st.freeDescs ++ [d] }.updDesc d
    fun _ => Descriptor.unused

/-- The state of a descriptor whose filling has ended. -/
def ended : DescState → Bool
  | .complete => true
  | .failed _ => true
  | .free => false
  | .filling => false

/-- The check made at every drop, completion and failure (R119): released if the count is 0 and it is not FILLING. -/
def settle (d : DescId) (st : FrameStore) : FrameStore :=
  if (st.desc d).refs = 0 ∧ ended (st.desc d).state then st.release d else st

/-- A holder drops its reference (R119). -/
def dropRef (d : DescId) (st : FrameStore) : FrameStore :=
  (st.updDesc d fun x => { x with refs := x.refs - 1 }).settle d

/-- A holder takes a reference (R119). -/
def addRef (d : DescId) (st : FrameStore) : FrameStore := st.updDesc d fun x => { x with refs := x.refs + 1 }

/-- A writer abandons a FILLING frame that no holder has taken (R118). -/
def relinquish (d : DescId) (st : FrameStore) : FrameStore := st.release d

/-- A writer completes its frame (R116); the check of R119 follows once the frame's holders are known. -/
def complete (d : DescId) (st : FrameStore) : FrameStore := st.updDesc d fun x => { x with state := .complete }

/-! #### Class queues (R120 to R122) -/

/-- The fields an admission to class queue c records (R121). -/
def admitted (c : Cls) (cutThrough : Bool) (x : Descriptor) : Descriptor :=
  { x with cls := some c, cutThrough := cutThrough, refs := 1 }

/-- A frame joins the tail of class queue c (R121). -/
def admitTail (c : Cls) (cutThrough : Bool) (d : DescId) (st : FrameStore) : FrameStore :=
  { st with queues := vupd st.queues c (· ++ [d]) }.updDesc d (admitted c cutThrough)

/-- A frame joins the head of class queue c: the reply to a TRAFFIC_RESET (R121). -/
def admitHead (c : Cls) (cutThrough : Bool) (d : DescId) (st : FrameStore) : FrameStore :=
  { st with queues := vupd st.queues c (d :: ·) }.updDesc d (admitted c cutThrough)

/-- d stands in the class queue of its class. -/
def queued (st : FrameStore) (d : DescId) : Bool :=
  match (st.desc d).cls with
  | none => false
  | some c => (st.queue c).contains d

/-- The reference to d leaves class queue c; what becomes of the reference is the caller's (R122). -/
def unqueue (c : Cls) (d : DescId) (st : FrameStore) : FrameStore :=
  { st with queues := vupd st.queues c (·.erase d) }

/-- The class queue that holds d, if one does, lets it go and drops its reference (R117); no release yet. -/
def leaveQueue (d : DescId) (st : FrameStore) : FrameStore :=
  match (st.desc d).cls with
  | none => st
  | some c =>
    if (st.queue c).contains d then (st.unqueue c d).updDesc d fun x => { x with refs := x.refs - 1 } else st

end FrameStore

/-! ### Ports -/

/-- Port p. -/
def State.port (s : State) (p : PortIx) : Port := vget s.ports p

/-- The state with f applied to port p. -/
def State.updPort (p : PortIx) (f : Port → Port) (s : State) : State := s.updPorts fun v => vupd v p f

/-- A port is serving while it is enabled and its line is UP (R127). -/
def Port.serving (q : Port) : Bool := q.config.enabled && q.rx.up

/-- The counters of port p change. -/
def countPort (p : PortIx) (f : PortCounters → PortCounters) (s : State) : State :=
  s.updPort p fun q => { q with counters := f q.counters }

/-- The port counter that a failure raises, by the group of its reason (R140). -/
def failGroup (r : FailReason) (k : PortCounters) : PortCounters :=
  match r with
  | .short => { k with failedFormat := ctrInc k.failedFormat }
  | .overlong => { k with failedFormat := ctrInc k.failedFormat }
  | .badCrc => { k with failedFormat := ctrInc k.failedFormat }
  | .stationAbort => { k with failedStation := ctrInc k.failedStation }
  | .stall => { k with failedStation := ctrInc k.failedStation }
  | .noStore => { k with failedStore := ctrInc k.failedStore }
  | .lineDown => { k with failedOther := ctrInc k.failedOther }
  | .reset => { k with failedOther := ctrInc k.failedOther }
  | .trunkStall => { k with failedOther := ctrInc k.failedOther }
  | .unfit => { k with failedOther := ctrInc k.failedOther }
  | .flushed => { k with failedOther := ctrInc k.failedOther }

/-- The framer of a port has no frame any more and stands in state y; its gap count is over with the frame (R128, R133;
log 17). -/
def Framer.freed (y : FramerState) (f : Framer) : Framer := { f with state := y, desc := none, gap := 0 }

/-- The framer that fills d lets it go and passes over the rest of the frame in DISCARD (R134). -/
def framerLoses (p : PortIx) (d : DescId) (s : State) : State :=
  s.updPort p fun q => if q.framer.desc = some d then { q with framer := q.framer.freed .discard } else q

/-! ### The failure of a frame (R117) -/

/-- What a failure does to its descriptor's store and holders: FAILED with its reason, removed from its class queue, and
released unless the Preemption Stack still holds it. -/
def FrameStore.fail (d : DescId) (r : FailReason) (st : FrameStore) : FrameStore :=
  ((st.updDesc d fun x => { x with state := .failed r }).leaveQueue d).settle d

/-- The port that a frame came from counts its failure and its framer passes over the rest (R134, R140). -/
def failAtPort (d : DescId) (r : FailReason) (o : Option Origin) (s : State) : State :=
  match o with
  | some (.tributary p) => framerLoses p d (countPort p (failGroup r) s)
  | some .trunk => s
  | some .agent => s
  | none => s

/-- A failure of d is reported (R117). It is taken only while d is FILLING: a FAILED descriptor keeps its first reason,
and a COMPLETE one stays COMPLETE. -/
def failFrame (d : DescId) (r : FailReason) (s : State) : State :=
  if (s.store.desc d).state = .filling then
    failAtPort d r (s.store.desc d).origin (s.updStore (FrameStore.fail d r))
  else s

/-- A reference leaves a class queue without being opened (R122): it is dropped, a FILLING frame becomes FAILED(r), and
the reply hold ends if it named the frame (R44). -/
def discardQueued (d : DescId) (r : FailReason) (s : State) : State :=
  let s := failFrame d r s
  let s := s.updStore fun st => (st.leaveQueue d).settle d
  s.updIl fun il => if il.hold = some d then { il with hold := none } else il

end Sys2Proof.Machine
end

