-- ==== Sys2Proof/Machine/Schedule.lean ====
section
/-! DEFINITION. The Window Schedule (chapter 3): the cycle counter, the banks, boundaries and restarts, open runs and the
fit check; and the commands WINDOW_EDGE and CYCLE_WRAP. -/

namespace Sys2Proof.Machine

/-! ### Banks -/

/-- The other bank. -/
def BankId.other : BankId → BankId
  | .a => .b
  | .b => .a

/-- A bank by its letter (R50). -/
def Schedule.bank (c : Schedule) : BankId → Bank
  | .a => c.bankA
  | .b => c.bankB

/-- The active bank and the standby bank (R50). -/
def Schedule.activeBank (c : Schedule) : Bank := c.bank c.active
def Schedule.standbyBank (c : Schedule) : Bank := c.bank c.active.other

/-- The schedule with its standby bank replaced (R58). -/
def Schedule.setStandby (k : Bank) (c : Schedule) : Schedule :=
  match c.active with
  | .a => { c with bankB := k }
  | .b => { c with bankA := k }

/-- Window record k of a bank, 0 to 15. -/
def Bank.window (k : Bank) (i : Nat) : Window :=
  if h : i < 16 then vget k.windows ⟨i, h⟩ else { offset := 0, openSet := 0 }

/-- The offsets of windows 0 to i strictly increase and are less than L (R51). -/
def Bank.offsetsRise (k : Bank) : Nat → Bool
  | 0 => decide ((k.window 0).offset < k.length)
  | i + 1 =>
    decide ((k.window i).offset < (k.window (i + 1)).offset) && decide ((k.window (i + 1)).offset < k.length) &&
      k.offsetsRise i

/-- A bank is valid (R51). -/
def Bank.valid (k : Bank) : Bool :=
  decide (1 ≤ k.count) && decide (k.count ≤ 16) && decide (2048 ≤ k.length) && decide (k.length ≤ 1048576) &&
    decide ((k.window 0).offset = 0) && k.offsetsRise (k.count - 1)

/-- The greatest window of 0 to i whose offset is not above v; 0 if there is none. -/
def Bank.lastAtOrBelow (k : Bank) (v : Nat) : Nat → Nat
  | 0 => 0
  | i + 1 => if (k.window (i + 1)).offset ≤ v then i + 1 else k.lastAtOrBelow v i

/-- The window in force at counter value v (R52): among windows 0 to n - 1, the one with the greatest offset not above
v. The offsets of an active bank rise with the index. -/
def Bank.windowFor (k : Bank) (v : Nat) : Nat := k.lastAtOrBelow v (k.count - 1)

/-- The window of 1 to n - 1 whose offset is v: an edge is taken in the slot of that value (R52). -/
def Bank.edgeAt (k : Bank) (v : Nat) : Bool :=
  (List.range k.count).any fun i => decide (1 ≤ i) && decide ((k.window i).offset = v)

/-! ### The open set -/

/-- The open set of the window in force (R52, R53). -/
def Schedule.openSet (c : Schedule) : ClassSet := (c.activeBank.window c.window).openSet

/-- Class c is in the open set of the window in force. -/
def isOpen (s : State) (c : Cls) : Bool := classIn c s.sched.openSet

/-- Class c closes in this slot (R53). -/
def closes (s : State) (c : Cls) : Bool := classIn c s.sched.openBefore && !isOpen s c

/-! ### Boundaries and restarts -/

/-- The swap of the banks (R62). -/
def Schedule.swap (c : Schedule) : Schedule := { c with active := c.active.other, commit := .idle }

/-- Order 1 of a boundary (R54): a pending commit swaps the banks. -/
def swapIfPending (s : State) : State :=
  match s.sched.commit with
  | .idle => s
  | .pending => s.updSched Schedule.swap

/-- What a boundary raises (R54, R62): COMMIT_DONE for a swap, with the letter of the new active bank. -/
def boundaryRaises (s : State) : List Notice :=
  match s.sched.commit with
  | .idle => []
  | .pending => [.commitDone s.sched.active.other]

/-- A boundary report reaches a port: its mark is pending if it forwards marks and is serving (R54, R139). -/
def Port.markBoundary (q : Port) : Port :=
  if q.config.markForwarding && q.serving then { q with markPending := true } else q

/-- The boundary report reaches the Alignment Unit (R81): expecting a mark after the counter's own wrap in LOCKED. -/
def Align.boundaryReport (byWrap : Bool) (a : Align) : Align :=
  { a with expect := byWrap && decide (a.state = .locked) }

/-- A cycle boundary (R54), in the slot whose counter value is 0, but for what it raises. -/
def boundary (byWrap : Bool) (s : State) : State :=
  let s := s.updSched fun c => { c with counter := 0, slotByWrap := byWrap }
  let s := swapIfPending s
  let s := s.updSched fun c => { c with window := 0 }
  let s := s.updPorts (mapPorts Port.markBoundary)
  s.updAlign (Align.boundaryReport byWrap)

/-- A restart with a boundary (R56). In a slot that already holds 0 by the counter's own wrap it joins that boundary
(R54). -/
def restartWithBoundary (s : State) : State := if s.sched.slotByWrap then s else boundary false s

/-- What a restart with a boundary raises. -/
def restartRaises (s : State) : List Notice := if s.sched.slotByWrap then [] else boundaryRaises s

/-- A restart without a boundary (R55). -/
def restartWithoutBoundary (s : State) : State := s.updSched fun c => { c with counter := 0, window := 0 }

/-! ### The slots of the counter -/

/-- The next slot takes its value by the counter's own wrap (R49). -/
def wrapsNext (s : State) : Bool := decide (s.sched.activeBank.length ≤ s.sched.counter + 1)

/-- A new slot begins, with W in force (R82): the open set of the slot before is renewed (R53). -/
def Schedule.nextSlot (w : Nat) (c : Schedule) : Schedule :=
  { c with openBefore := c.openSet, slotBegun := true, slotByWrap := false, slotWidth := w }

/-- The counter advances by 1 (R49), and the window of its value comes in force (R52). -/
def Schedule.advance (c : Schedule) : Schedule :=
  { c with counter := c.counter + 1, window := c.activeBank.windowFor (c.counter + 1) }

/-- The slot whose symbol is to be decided next has begun (R49; log 3): unless it has already, the counter takes its value
by advancing or by its wrap, a wrap being a boundary. -/
def beginSlot (s : State) : State :=
  if s.sched.slotBegun then s
  else if wrapsNext s then boundary true (s.updSched (Schedule.nextSlot s.align.width))
  else s.updSched fun c => (c.nextSlot s.align.width).advance

/-- What the beginning of the slot raises: what the boundary of a wrap does (R54). -/
def beginRaises (s : State) : List Notice :=
  if s.sched.slotBegun then [] else if wrapsNext s then boundaryRaises s else []

/-- WINDOW_EDGE (R52): a slot begins whose counter value is the offset of a window k, k from 1 to n - 1. Not due
otherwise (log 4). -/
def windowEdge (s : State) : State :=
  if !s.sched.slotBegun && !wrapsNext s && s.sched.activeBank.edgeAt (s.sched.counter + 1) then beginSlot s else s

def execWindowEdge (s : State) : Answer := .next (whenRunning windowEdge s)

/-- CYCLE_WRAP (R54): a slot begins by the counter's own wrap from L - 1 to 0, and takes a boundary. Not due otherwise
(log 4). -/
def cycleWrap (s : State) : State :=
  if !s.sched.slotBegun && wrapsNext s then raiseAll (beginRaises s) (beginSlot s) else s

def execCycleWrap (s : State) : Answer := .next (whenRunning cycleWrap s)

/-! ### Open runs and the fit check (R64, R65) -/

/-- The start of the run of class c that reaches back from window i: it stops at the first window that lacks c, or at
window 0. -/
def Bank.runStart (k : Bank) (c : Cls) : Nat → Nat
  | 0 => (k.window 0).offset
  | i + 1 => if classIn c (k.window i).openSet then k.runStart c i else (k.window (i + 1)).offset

/-- The end of the run of class c: the offset of the first of the next `left` windows from i on that lacks c, or L. -/
def Bank.runEnd (k : Bank) (c : Cls) : Nat → Nat → Nat
  | _, 0 => k.length
  | i, left + 1 =>
    if classIn c (k.window i).openSet then k.runEnd c (i + 1) left else (k.window i).offset

/-- The outcomes of a fit check (R65). -/
inductive Fit where
  | fits
  | waits
  | unfit
  deriving DecidableEq, Repr

/-- The fit check of a frame of class c with payload length len, at the counter value of the slot (R65). -/
def fitCheck (c : Cls) (len : Nat) (s : State) : Fit :=
  let k := s.sched.activeBank
  let w := s.sched.window
  let runEnd := k.runEnd c (w + 1) (k.count - (w + 1))
  let runStart := k.runStart c w
  if s.sched.counter + len + 11 ≤ runEnd then .fits
  else if len + 11 ≤ runEnd - runStart then .waits
  else .unfit

end Sys2Proof.Machine
end

