-- ==== Sys2Proof/Machine/Operands.lean ====
section
/-! DEFINITION. The formats of chapter 12: the bytes of a request and of a reply, the code tables, the parameter and entry
layouts in both directions, the QUERY data, the notice payload and the counter order. -/

namespace Sys2Proof.Machine

/-! ### Numbers and flags as bytes -/

/-- n in k bytes, high byte first (R3). -/
def natBytes : Nat → Nat → List Byte
  | 0, _ => []
  | k + 1, n => natBytes k (n / 256) ++ [BitVec.ofNat 8 n]

/-- The number that bytes hold, high byte first. -/
def bytesNat (bs : List Byte) : Nat := bs.foldl (fun n b => n * 256 + b.toNat) 0

/-- A flag byte: 0x00 for no and 0x01 for yes (section 12). -/
def flagByte (b : Bool) : Byte := if b then 0x01 else 0x00

/-- The flag that a byte holds; none for any other value (R184). -/
def flagOf (b : Byte) : Option Bool := if b = 0x00 then some false else if b = 0x01 then some true else none

/-- Byte i of a list of bytes. -/
def byteAt (bs : List Byte) (i : Nat) : Byte := bs.getD i 0

/-- The field of two bytes at byte i. -/
def wordAt (bs : List Byte) (i : Nat) : BitVec 16 := word16 (byteAt bs i) (byteAt bs (i + 1))

/-- The field of three bytes at byte i. -/
def tripleAt (bs : List Byte) (i : Nat) : Nat := bytesNat [byteAt bs i, byteAt bs (i + 1), byteAt bs (i + 2)]

/-- A class number in a byte; none above 5. -/
def classOf (b : Byte) : Option Cls := if h : b.toNat < 6 then some ⟨b.toNat, h⟩ else none

/-- A port number in a byte; none above 3. -/
def portOf (b : Byte) : Option PortIx := if h : b.toNat < 4 then some ⟨b.toNat, h⟩ else none

/-! ### Request kinds, tables, statuses (12.1) -/

/-- The ten request kinds. -/
inductive ReqKind where
  | query
  | read
  | write
  | commit
  | abandon
  | setAlign
  | setGlobal
  | readCounters
  | flush
  | trafficReset
  deriving DecidableEq, Repr

/-- The kind of a kind code; none outside 0x01 to 0x0A (R183). -/
def kindOf (b : Byte) : Option ReqKind :=
  match b.toNat with
  | 1 => some .query
  | 2 => some .read
  | 3 => some .write
  | 4 => some .commit
  | 5 => some .abandon
  | 6 => some .setAlign
  | 7 => some .setGlobal
  | 8 => some .readCounters
  | 9 => some .flush
  | 10 => some .trafficReset
  | _ => none

/-- The eight tables (R166). -/
inductive TableId where
  | classify
  | portDefault
  | classPolicy
  | route
  | portConfig
  | scheduleActive
  | scheduleStandby
  | hits
  deriving DecidableEq, Repr

/-- The table of a TABLE byte; none outside 0x01 to 0x08 (R183). -/
def tableOf (b : Byte) : Option TableId :=
  match b.toNat with
  | 1 => some .classify
  | 2 => some .portDefault
  | 3 => some .classPolicy
  | 4 => some .route
  | 5 => some .portConfig
  | 6 => some .scheduleActive
  | 7 => some .scheduleStandby
  | 8 => some .hits
  | _ => none

/-- The number of entries of a table (12.1). -/
def TableId.entries : TableId → Nat
  | .classify => 32
  | .portDefault => 4
  | .classPolicy => 6
  | .route => 64
  | .portConfig => 4
  | .scheduleActive => 17
  | .scheduleStandby => 17
  | .hits => 32

/-- The size of an entry of a table in bytes (12.1). -/
def TableId.entrySize : TableId → Nat
  | .classify => 7
  | .portDefault => 1
  | .classPolicy => 3
  | .route => 4
  | .portConfig => 3
  | .scheduleActive => 4
  | .scheduleStandby => 4
  | .hits => 4

/-- The code of a status (12.1). -/
def Status.code : Status → Byte
  | .ok => 0x00
  | .badKind => 0x01
  | .badTable => 0x02
  | .badValue => 0x03
  | .badLength => 0x04
  | .badIndex => 0x05
  | .duplicate => 0x06
  | .readOnly => 0x07
  | .pending => 0x08
  | .notPending => 0x09
  | .badSchedule => 0x0A

/-! ### A request as the Agent reads it (10.3, 12.1) -/

/-- The fields of a request frame. LEN is 6 or more in every request that is answered; a byte that the payload lacks reads
as 0 here and is looked at by no check. -/
structure Request where
  src : Addr
  tag : Byte
  len : Nat
  seq : BitVec 16
  kind : Byte
  table : Byte
  index : Nat
  count : Nat
  params : List Byte
  deriving DecidableEq, Repr

/-- The payload of the frame in d: bytes 8 to LEN + 7 of the frame (R3). -/
def FrameStore.payload (st : FrameStore) (d : DescId) (len : Nat) : List Byte :=
  (List.range len).map fun i => st.readByte d (8 + i)

/-- The request that the frame in d holds. -/
def FrameStore.request (st : FrameStore) (d : DescId) : Request :=
  let h := (st.desc d).header.getD { dest := 0, src := 0, tag := 0, len := 0 }
  let bs := st.payload d h.len.toNat
  { src := h.src, tag := h.tag, len := h.len.toNat, seq := wordAt bs 0, kind := byteAt bs 2, table := byteAt bs 3,
    index := (byteAt bs 4).toNat, count := (byteAt bs 5).toNat, params := bs.drop 6 }

/-- Entry j of the parameters of a WRITE. -/
def Request.entry (r : Request) (size j : Nat) : List Byte := (r.params.drop (j * size)).take size

/-- The COUNT entries of a WRITE, each decoded; none if one of them fails (R165, R184). -/
def decodeEntries {α : Type} (r : Request) (size : Nat) (f : Nat → List Byte → Option α) : Nat → Option (List α)
  | 0 => some []
  | j + 1 =>
    match decodeEntries r size f j, f j (r.entry size j) with
    | some xs, some x => some (xs ++ [x])
    | _, _ => none

/-- Entries written from index i upward. -/
def writeFrom {α : Type} {n : Nat} (v : Vector α n) : Nat → List α → Vector α n
  | _, [] => v
  | i, x :: xs => writeFrom (if h : i < n then vset v ⟨i, h⟩ x else v) (i + 1) xs

/-! ### Entry layouts (12.2) -/

/-- An action byte: 0x00 to 0x05 FORWARD(class), 0x80 DROP. -/
def Action.code : Action → Byte
  | .forward c => BitVec.ofNat 8 c.val
  | .drop => 0x80

def actionOf (b : Byte) : Option Action := if b = 0x80 then some .drop else (classOf b).map .forward

/-- A CLASSIFY entry, without its hit count. -/
def ClassEntry.bytes (e : ClassEntry) : List Byte :=
  [(if e.valid then 0x80 else 0x00) ||| e.ports.setWidth 8, e.tagValue, e.tagMask, flagByte e.srcMatch,
    hiByte e.srcValue, loByte e.srcValue, e.action.code]

/-- A written CLASSIFY entry; its hit count is 0 (R144). Bits 4 to 6 of byte 0 are port flags beyond port 3 (R184). -/
def classEntryOf (bs : List Byte) : Option ClassEntry :=
  if (byteAt bs 0) &&& 0x70 ≠ 0 then none
  else
    match flagOf (byteAt bs 3), actionOf (byteAt bs 6) with
    | some m, some act =>
      some { valid := (byteAt bs 0).getLsbD 7, ports := (byteAt bs 0).setWidth 4, tagValue := byteAt bs 1,
             tagMask := byteAt bs 2, srcMatch := m, srcValue := wordAt bs 4, action := act, hits := 0 }
    | _, _ => none

/-- A CLASS_POLICY entry. -/
def ClassPolicy.bytes (e : ClassPolicy) : List Byte :=
  [flagByte e.preemptible, flagByte e.cutThrough, BitVec.ofNat 8 e.queueLimit]

/-- A written CLASS_POLICY entry: its queue limit is 1 to 128 (R147). -/
def classPolicyOf (bs : List Byte) : Option ClassPolicy :=
  match flagOf (byteAt bs 0), flagOf (byteAt bs 1) with
  | some p, some k =>
    if 1 ≤ (byteAt bs 2).toNat ∧ (byteAt bs 2).toNat ≤ 128 then
      some { preemptible := p, cutThrough := k, queueLimit := (byteAt bs 2).toNat }
    else none
  | _, _ => none

/-- A ROUTE entry. -/
def Route.bytes (e : Route) : List Byte :=
  [flagByte e.valid, hiByte e.address, loByte e.address, BitVec.ofNat 8 e.port.val]

/-- A written ROUTE entry, while g is the agent address in force: a valid entry holds no forbidden address (R153). -/
def routeOf (g : Addr) (bs : List Byte) : Option Route :=
  match flagOf (byteAt bs 0), portOf (byteAt bs 3) with
  | some v, some p =>
    if v ∧ (wordAt bs 1 = 0x0000 ∨ wordAt bs 1 = 0xFFFF ∨ wordAt bs 1 = g) then none
    else some { valid := v, address := wordAt bs 1, port := p }
  | _, _ => none

/-- A PORT_CONFIG entry. -/
def PortConfig.bytes (e : PortConfig) : List Byte :=
  ((if e.enabled then (0x01 : Byte) else 0x00) ||| (if e.markForwarding then 0x02 else 0x00)) :: natBytes 2 e.stallLimit

/-- A written PORT_CONFIG entry: its stall limit is 16 to 65,535 (R126); bits 2 to 7 of byte 0 are ignored. -/
def portConfigOf (bs : List Byte) : Option PortConfig :=
  if 16 ≤ (wordAt bs 1).toNat then
    some { enabled := (byteAt bs 0).getLsbD 0, markForwarding := (byteAt bs 0).getLsbD 1,
           stallLimit := (wordAt bs 1).toNat }
  else none

/-- A window record (index 1 to 16 of a schedule table). -/
def Window.bytes (w : Window) : List Byte := natBytes 3 w.offset ++ [w.openSet.setWidth 8]

/-- Entry i of a schedule table: the header at index 0, window k at index k + 1 (R57). -/
def Bank.entryBytes (k : Bank) (i : Nat) : List Byte :=
  match i with
  | 0 => natBytes 3 k.length ++ [BitVec.ofNat 8 k.count]
  | j + 1 => (k.window j).bytes

/-- A written entry of a schedule table (R57). -/
inductive ScheduleEntry where
  | header (length count : Nat)
  | window (w : Window)
  deriving DecidableEq, Repr

/-- A written header: L within 2,048 to 1,048,576 and n within 1 to 16. -/
def scheduleHeaderOf (bs : List Byte) : Option ScheduleEntry :=
  if 2048 ≤ tripleAt bs 0 ∧ tripleAt bs 0 ≤ 1048576 ∧ 1 ≤ (byteAt bs 3).toNat ∧ (byteAt bs 3).toNat ≤ 16 then
    some (.header (tripleAt bs 0) (byteAt bs 3).toNat)
  else none

/-- A written window record: an offset of at most 1,048,575, and no class above 5. -/
def windowOf (bs : List Byte) : Option ScheduleEntry :=
  if tripleAt bs 0 ≤ 1048575 ∧ (byteAt bs 3) &&& 0xC0 = 0 then
    some (.window { offset := tripleAt bs 0, openSet := (byteAt bs 3).setWidth 6 })
  else none

/-- A written entry at index i (R57). -/
def scheduleEntryOf (i : Nat) (bs : List Byte) : Option ScheduleEntry :=
  match i with
  | 0 => scheduleHeaderOf bs
  | _ + 1 => windowOf bs

/-- A bank with the entry written at index i. -/
def Bank.writeEntry (i : Nat) (e : ScheduleEntry) (k : Bank) : Bank :=
  match e with
  | .header l n => { k with length := l, count := n }
  | .window w => if h : i - 1 < 16 then { k with windows := vset k.windows ⟨i - 1, h⟩ w } else k

/-- A bank with the entries written from index i upward. -/
def Bank.writeEntries : Nat → List ScheduleEntry → Bank → Bank
  | _, [], k => k
  | i, e :: es, k => Bank.writeEntries (i + 1) es (k.writeEntry i e)

/-- Entry i of a table of fixed size, as bytes. -/
def tableEntry {α : Type} {n : Nat} (v : Vector α n) (f : α → List Byte) (i : Nat) : List Byte :=
  if h : i < n then f (vget v ⟨i, h⟩) else []

/-- Entry i of a table as a READ returns it (R166). -/
def readEntry (s : State) (t : TableId) (i : Nat) : List Byte :=
  match t with
  | .classify => tableEntry s.classifier.entries ClassEntry.bytes i
  | .portDefault => tableEntry s.classifier.defaults (fun a => [a.code]) i
  | .classPolicy => tableEntry s.policy ClassPolicy.bytes i
  | .route => tableEntry s.routes Route.bytes i
  | .portConfig => tableEntry s.ports (fun q => q.config.bytes) i
  | .scheduleActive => s.sched.activeBank.entryBytes i
  | .scheduleStandby => s.sched.standbyBank.entryBytes i
  | .hits => tableEntry s.classifier.entries (fun e => natBytes 4 e.hits.toNat) i

/-- COUNT entries of a table from INDEX upward (R166). -/
def readEntries (s : State) (t : TableId) (index count : Nat) : List Byte :=
  (List.range count).flatMap fun j => readEntry s t (index + j)

/-! ### QUERY data, notice payload, counter set (12.2, 12.3) -/

def AlignState.code : AlignState → Byte
  | .free => 0x00
  | .seeking => 0x01
  | .locked => 0x02
  | .holdover => 0x03

def BankId.code : BankId → Byte
  | .a => 0x00
  | .b => 0x01

def CommitState.code : CommitState → Byte
  | .idle => 0x00
  | .pending => 0x01

/-- The 12 bytes of QUERY data (R167). -/
def queryData (s : State) : List Byte :=
  [hiByte Config.familyCode, loByte Config.familyCode, Config.revision, hiByte s.agent.address, loByte s.agent.address,
    flagByte s.trunkRx.up, s.align.state.code, s.sched.active.code, s.sched.commit.code] ++
    natBytes 2 s.store.freeCells.length ++ natBytes 1 s.store.freeDescs.length

/-- The number of a line in a notice's detail: 0 to 3 tributary, 4 trunk. -/
def Line.code : Line → Byte
  | .tributary p => BitVec.ofNat 8 p.val
  | .trunk => 0x04

/-- The detail byte of a notice (12.3). -/
def Notice.detail : Notice → Byte
  | .stallAbort l => l.code
  | .trunkGrammar => 0x00
  | .storeExhausted => 0x00
  | .alignLost => 0x00
  | .alignRegained => 0x00
  | .commitDone k => k.code
  | .gateOverrun c => BitVec.ofNat 8 c.val
  | .unfitDrop c => BitVec.ofNat 8 c.val
  | .lineEvent l up => l.code ||| (if up then 0x80 else 0x00)

/-- The 10 bytes of a notice payload (12.3). -/
def NoticeRecord.payload (r : NoticeRecord) : List Byte :=
  [0x00, 0x00, 0xFF, BitVec.ofNat 8 r.first.kind.code, hiByte r.count, loByte r.count, r.first.detail] ++
    natBytes 3 r.counter

/-- A counter for each class, class 0 to 5 in turn. -/
def classCounters (v : Vector Ctr 6) : List Ctr := [vget v 0, vget v 1, vget v 2, vget v 3, vget v 4, vget v 5]

/-- A port's nine counters in the order of R140. -/
def PortCounters.list (k : PortCounters) : List Ctr :=
  [k.received, k.droppedByClass, k.discarded, k.failedFormat, k.failedStation, k.failedStore, k.failedOther, k.delivered,
    k.refused]

/-- The 90 counters in the order of the READ_COUNTERS reply (12.3). -/
def counterSet (s : State) : List Ctr :=
  classCounters s.il.counters.sent ++ classCounters s.il.counters.aborted ++ classCounters s.il.counters.preempted ++
    classCounters s.il.counters.gateSuspended ++ classCounters s.il.counters.overruns ++ classCounters s.sched.unfit ++
    [s.align.counters.acquired, s.align.counters.onTime, s.align.counters.early, s.align.counters.late,
      s.align.counters.misaligned, s.align.counters.missed] ++
    [s.rx.counters.accepted, s.rx.counters.crcErrors, s.rx.counters.lengthErrors, s.rx.counters.unrouted,
      s.rx.counters.noStore, s.rx.counters.violations] ++
    (s.port 0).counters.list ++ (s.port 1).counters.list ++ (s.port 2).counters.list ++ (s.port 3).counters.list ++
    [s.agent.counters.executed, s.agent.counters.refused, s.agent.counters.replays, s.agent.counters.unanswerable,
      s.agent.counters.overflows, s.agent.counters.droppedByReset]

/-- The counter set as bytes, 4 for each counter (R180). -/
def counterBytes (s : State) : List Byte := (counterSet s).flatMap fun k => natBytes 4 k.toNat

/-! ### Frames the Agent builds (R164, R179) -/

/-- The bytes of a frame with this header and payload, CHECK computed over header and payload (R4). -/
def frameOf (dest src : Addr) (tag : Byte) (payload : List Byte) : List Byte :=
  let body := [hiByte dest, loByte dest, hiByte src, loByte src, tag] ++ natBytes 2 payload.length ++ payload
  let check := crcBytes freshCheck body
  body ++ [hiByte check, loByte check]

/-- The payload of a reply (12.1): SEQ, the request's KIND with bit 7 set, STATUS, FLAGS, data. -/
def replyPayload (seq : BitVec 16) (kind : Byte) (status : Status) (replayed again : Bool) (data : List Byte) :
    List Byte :=
  [hiByte seq, loByte seq, kind ||| 0x80, status.code,
    (if replayed then (0x01 : Byte) else 0x00) ||| (if again then 0x02 else 0x00)] ++ data

end Sys2Proof.Machine
end

