-- ==== Sys2Proof/Machine/Builder.lean ====
section
/-! DEFINITION. The Agent's frame builder as other blocks reach it: the admission of a frame the Agent has built (R116,
R121, R164, R179), and the end of a traffic-reset drain with the reply it releases (R43, R174). -/

namespace Sys2Proof.Machine

/-- The class queue of the management class, in force now. -/
def mgmtQueue (s : State) : List DescId := s.store.queue s.agent.mgmtClass

/-- The bytes of a frame stored in the claimed descriptor d: COMPLETE, with its header (R116). -/
def FrameStore.build (d : DescId) (bytes : List Byte) (st : FrameStore) : FrameStore :=
  let st := st.writeBytes d 1 bytes
  (st.updDesc d fun x => { x with header := some (st.readHeader d) }).complete d

/-- A frame the Agent has built joins the class queue of the management class (R121): never refused, its cut-through
field recorded from the policy of that class (R149). The builder is IDLE again and has built a frame of this kind
(R162). -/
def admitBuilt (kind : Job) (atHead : Bool) (d : DescId) (bytes : List Byte) (s : State) : State :=
  let c := s.agent.mgmtClass
  let k := (vget s.policy c).cutThrough
  let s := s.updStore fun st =>
    if atHead then (st.build d bytes).admitHead c k d else (st.build d bytes).admitTail c k d
  s.updAgent fun a => { a with lastBuilt := kind, builder := .idle, job := none }

/-- The bytes of the reply to a TRAFFIC_RESET (R164, R174): status OK. KIND is TRAFFIC_RESET's code 0x0A. -/
def resetReply (s : State) (r : OwedReply) : List Byte :=
  frameOf r.dest s.agent.address r.tag (replyPayload r.seq 0x0A .ok false false [])

/-- The drain ends (R43, R174): the flag is cleared; the Agent builds the reply that the TRAFFIC_RESET owes, admits it at
the head of the management class queue, and the Interleaver holds for it. -/
def endDrain (s : State) : State :=
  let s := s.updIl fun il => { il with drain := false }
  match s.agent.owed with
  | none => s
  | some r =>
    let s := admitBuilt .reply true r.desc (resetReply s r) s
    let s := s.updAgent fun a => { a with owed := none }
    s.updIl fun il => { il with hold := some r.desc }

end Sys2Proof.Machine
end

