-- ==== Sys2Proof/Machine/Classifier.lean ====
section
/-! DEFINITION. The Classifier's lookup (R142 to R145). -/

namespace Sys2Proof.Machine

/-- A frame from port p with tag t and source a matches an entry (R142). -/
def ClassEntry.matchesFrame (e : ClassEntry) (p : PortIx) (t : Byte) (a : Addr) : Bool :=
  e.valid && portIn p e.ports && decide (t &&& e.tagMask = e.tagValue &&& e.tagMask) &&
    (!e.srcMatch || decide (e.srcValue = a))

/-- The entry that decides: the first that matches, in index order (R143). -/
def Classifier.decidingEntry (k : Classifier) (p : PortIx) (t : Byte) (a : Addr) : Option (Fin 32) :=
  (List.finRange 32).find? fun i => (vget k.entries i).matchesFrame p t a

/-- A lookup (R143): the decision, and the Classifier with the hit counted (R144). Where no entry matches the Port Default
decides, and no hit count rises (R145). -/
def Classifier.lookup (p : PortIx) (t : Byte) (a : Addr) (k : Classifier) : Action × Classifier :=
  match k.decidingEntry p t a with
  | some i =>
    ((vget k.entries i).action, { k with entries := vupd k.entries i fun e => { e with hits := ctrInc e.hits } })
  | none => (vget k.defaults p, k)

end Sys2Proof.Machine
end

