-- ==== Sys2Proof/Machine/Framer.lean ====
section
/-! DEFINITION. The Tributary Ports (chapter 7): the receive framer, the delivery queue, the transmitter, and a port's
start and stop of serving. The command TRIB_TX_SLOT. -/

namespace Sys2Proof.Machine

/-! ### The receive framer (7.2) -/

/-- The framer of port p. -/
def State.framer (s : State) (p : PortIx) : Framer := (s.port p).framer

/-- The framer of port p changes. -/
def updFramer (p : PortIx) (f : Framer → Framer) (s : State) : State :=
  s.updPort p fun q => { q with framer := f q.framer }

/-- A new frame begins at port p (R129): a descriptor is taken, or the frame is passed over in DISCARD. -/
def framerBegin (p : PortIx) (s : State) : State :=
  match s.store.lineTakeDesc (.tributary p) with
  | some (d, st) =>
    updFramer p (fun _ => { state := .header, desc := some d, check := freshCheck, gap := 0 }) (s.updStore fun _ => st)
  | none =>
    raise .storeExhausted
      (countPort p (fun k => { k with discarded := ctrInc k.discarded }) (updFramer p (Framer.freed .discard) s))

/-- The frame in reception at port p becomes FAILED(r), and the framer stands in state y. -/
def framerFails (p : PortIx) (r : FailReason) (y : FramerState) (s : State) : State :=
  match (s.framer p).desc with
  | none => s
  | some d => updFramer p (Framer.freed y) (failFrame d r s)

/-- The frame in d is relinquished at its header, and the rest of it passed over (R131). -/
def framerRelinquishes (p : PortIx) (d : DescId) (f : PortCounters → PortCounters) (s : State) : State :=
  countPort p f (updFramer p (Framer.freed .discard) (s.updStore (FrameStore.relinquish d)))

/-- A frame with FORWARD(c) asks for admission to class queue c (R121, R131). -/
def framerAdmit (p : PortIx) (d : DescId) (c : Cls) (s : State) : State :=
  if (vget s.policy c).queueLimit ≤ (s.store.queue c).length then
    framerRelinquishes p d (fun k => { k with discarded := ctrInc k.discarded }) s
  else
    updFramer p (fun f => { f with state := .body })
      (s.updStore (FrameStore.admitTail c (vget s.policy c).cutThrough d))

/-- Header completion (R131): the header is written to the descriptor, and the frame's fate is decided. -/
def tribHeaderComplete (p : PortIx) (d : DescId) (s : State) : State :=
  let h := s.store.readHeader d
  let s := s.updStore (FrameStore.updDesc d fun x => { x with header := some h })
  if Config.maxPayload < h.len.toNat then
    framerRelinquishes p d (fun k => { k with discarded := ctrInc k.discarded }) s
  else if h.dest = s.agent.address then
    framerRelinquishes p d (fun k => { k with discarded := ctrInc k.discarded }) s
  else
    let out := s.classifier.lookup p h.tag h.src
    let s := s.updClassifier fun _ => out.2
    match out.1 with
    | .drop => framerRelinquishes p d (fun k => { k with droppedByClass := ctrInc k.droppedByClass }) s
    | .forward c => framerAdmit p d c s

/-- A descriptor holds all the LEN + 9 bytes of its frame. -/
def Descriptor.isFull (x : Descriptor) : Bool := decide (x.header.map Header.frameBytes = some x.stored)

/-- A data byte in HEADER or BODY, the frame's descriptor being d (R130). -/
def framerByte (p : PortIx) (d : DescId) (b : Byte) (s : State) : State :=
  if (s.store.desc d).isFull then framerFails p .overlong .discard s
  else
    match s.store.lineByte d b with
    | none => raise .storeExhausted (framerFails p .noStore .discard s)
    | some st =>
      let k := (s.store.desc d).stored + 1
      let s := updFramer p (fun f => { f with check := crcByte f.check b, gap := 0 }) (s.updStore fun _ => st)
      if k = 7 then tribHeaderComplete p d s else s

/-- An END in HEADER or BODY (R132). -/
def framerEnd (p : PortIx) (d : DescId) (s : State) : State :=
  if !(s.store.desc d).isFull then framerFails p .short .idle s
  else if (s.framer p).check ≠ 0 then framerFails p .badCrc .idle s
  else
    countPort p (fun k => { k with received := ctrInc k.received })
      (updFramer p (Framer.freed .idle) (s.updStore fun st => (st.complete d).settle d))

/-- A frame is in reception at port p: HEADER or BODY. -/
def Framer.receiving (f : Framer) : Bool :=
  match f.state with
  | .header => true
  | .body => true
  | .idle => false
  | .discard => false

/-- The next IDLE slot of tributary p reaches the port's stall limit (R133). -/
def stallDueAt (p : PortIx) (s : State) : Bool :=
  (s.port p).serving && (s.framer p).receiving && decide ((s.port p).config.stallLimit ≤ (s.framer p).gap + 1)

/-- An IDLE slot of tributary p at its framer (R129, R133), but for the STALL_ABORT it raises. -/
def idleSlot (p : PortIx) (s : State) : State :=
  if stallDueAt p s then framerFails p .stall .idle s
  else if (s.port p).serving && (s.framer p).receiving then updFramer p (fun f => { f with gap := f.gap + 1 }) s
  else s

/-- What an IDLE slot of tributary p raises (R133). -/
def idleRaises (p : PortIx) (s : State) : List Notice :=
  if stallDueAt p s then [.stallAbort (.tributary p)] else []

/-- The framer acts on a symbol, by R129 in IDLE and DISCARD and by R130 to R133 in HEADER and BODY. A MARK is taken away
before it (R8). -/
def framerSymbol (p : PortIx) (y : TribSymbol) (s : State) : State :=
  match y, (s.framer p).receiving with
  | .mark, _ => s
  | .start, false => framerBegin p s
  | .start, true => framerBegin p (framerFails p .short .discard s)
  | .data _, false => s
  | .data b, true =>
    match (s.framer p).desc with
    | none => s
    | some d => framerByte p d b s
  | .ended, false => updFramer p (fun f => { f with state := .idle }) s
  | .ended, true =>
    match (s.framer p).desc with
    | none => s
    | some d => framerEnd p d s
  | .abort, false => updFramer p (fun f => { f with state := .idle }) s
  | .abort, true => framerFails p .stationAbort .idle s
  | .idle, _ => raiseAll (idleRaises p s) (idleSlot p s)

/-- A symbol that the receiver of an UP line hands on: a framer that is not serving passes it over (R127). -/
def tribSymbol (p : PortIx) (y : TribSymbol) (s : State) : State :=
  if (s.port p).serving then framerSymbol p y s else s

/-! ### The delivery queue and the transmitter (7.3, 7.4) -/

/-- References to descriptors dropped one after another. -/
def dropRefs (ds : List DescId) (s : State) : State := s.updStore fun st => ds.foldl (fun st d => st.dropRef d) st

/-- The delivery queue of port p is emptied (R137). -/
def emptyDelivery (p : PortIx) (s : State) : State :=
  dropRefs (s.port p).delivery (s.updPort p fun q => { q with delivery := [] })

/-- The frame in sending at port p is abandoned (R138), with a symbol of it that a MARK has displaced, and no mark stays
pending (R139). -/
def abandonSending (p : PortIx) (s : State) : State :=
  match (s.port p).sending with
  | none => s.updPort p fun q => { q with markPending := false, displaced := none }
  | some x => dropRefs [x.desc] (s.updPort p fun q => { q with sending := none, markPending := false, displaced := none })

/-- Port p stops serving (R127, R135, R137, R138, R139). -/
def stopServing (p : PortIx) (s : State) : State :=
  let s := if (s.framer p).receiving then framerFails p .lineDown .idle s else s
  let s := updFramer p (Framer.freed .idle) s
  abandonSending p (emptyDelivery p s)

/-- Port p starts serving (R127, R128). Its delivery queue is empty and its transmitter has no frame already. -/
def startServing (p : PortIx) (s : State) : State := updFramer p (Framer.freed .idle) s

/-- A change of port p that may make it start or stop serving. -/
def changePort (p : PortIx) (f : Port → Port) (s : State) : State :=
  let before := (s.port p).serving
  let s := s.updPort p f
  match before, (s.port p).serving with
  | true, false => stopServing p s
  | false, true => startServing p s
  | true, true => s
  | false, false => s

/-- A traffic reset reaches the framer of port p (R135). -/
def framerTrafficReset (p : PortIx) (s : State) : State :=
  if (s.framer p).receiving then framerFails p .reset .discard s else s

/-- The symbol placed on the line of port p. -/
def txSend (p : PortIx) (y : TribSymbol) (s : State) : State := s.updPort p fun q => { q with txLine := some y }

/-- The symbol that a transmitter with nothing displaced sends in this slot if no MARK takes its place (R138), and the
state in which it has been chosen: the head of the queue has passed to the transmitter where the symbol is its START. -/
def txChoose (p : PortIx) (s : State) : State × TribSymbol :=
  match (s.port p).sending, (s.port p).delivery with
  | some x, _ =>
    (s, if x.sent < (s.store.desc x.desc).frameBytes then .data (s.store.readByte x.desc (x.sent + 1)) else .ended)
  | none, [] => (s, .idle)
  | none, d :: ds => (s.updPort p fun q => { q with delivery := ds, sending := some ⟨d, 0⟩ }, .start)

/-- The symbol of this slot: one that a MARK has displaced goes first (R139). -/
def txNext (p : PortIx) (s : State) : State × TribSymbol :=
  match (s.port p).displaced with
  | some y => (s, y)
  | none => txChoose p s

/-- What the sending of a symbol does to the frame in sending (R138): a byte moves the position on, and END ends the
passage. -/
def txSent (p : PortIx) (y : TribSymbol) (s : State) : State :=
  match y, (s.port p).sending with
  | .data _, some x => s.updPort p fun q => { q with sending := some { x with sent := x.sent + 1 } }
  | .ended, some x =>
    countPort p (fun k => { k with delivered := ctrInc k.delivered })
      (dropRefs [x.desc] (s.updPort p fun q => { q with sending := none }))
  | .data _, none => s
  | .ended, none => s
  | .start, _ => s
  | .abort, _ => s
  | .idle, _ => s
  | .mark, _ => s

/-- One slot of a serving transmitter (R138, R139): a pending MARK takes the place of the symbol, which is sent in the
following slot. A START so displaced has been chosen: its frame has left the queue (log 26). -/
def txServe (p : PortIx) (s : State) : State :=
  match txNext p s with
  | (t, y) =>
    if (s.port p).markPending then
      txSend p .mark (t.updPort p fun q => { q with markPending := false, displaced := some y })
    else txSend p y (txSent p y (t.updPort p fun q => { q with displaced := none }))

/-- TRIB_TX_SLOT (R138, R139). A port that is not serving has IDLE on its line (R1, R127). -/
def tribTxSlot (p : PortIx) (s : State) : State :=
  if (s.port p).serving then txServe p s else txSend p .idle s

def execTribTxSlot (p : PortIx) (s : State) : Answer := .next (whenRunning (tribTxSlot p) s)

end Sys2Proof.Machine
end

