-- ==== Sys2Proof/Machine/Alignment.lean ====
section
/-! DEFINITION. The Alignment Unit (chapter 4): the classification of marks, loss and regain, missed-mark checks; and the
command MISSED_MARK_CHECK. The command RX_MARK stands in RxCommands.lean. -/

namespace Sys2Proof.Machine

/-- The classes of a mark in LOCKED (R75). -/
inductive MarkClass where
  | onTime
  | early
  | late
  | misaligned
  deriving DecidableEq, Repr

/-- The class of a mark that arrives in LOCKED in the present slot, the first line of R75's table that matches. -/
def markClass (s : State) : MarkClass :=
  let v := s.sched.counter
  if v = 0 ∧ s.sched.slotByWrap then .onTime
  else if s.sched.activeBank.length - s.align.width ≤ v then .early
  else if 1 ≤ v ∧ v ≤ s.align.width ∧ s.align.expect then .late
  else .misaligned

/-- The mark counters change. -/
def countMark (f : AlignCounters → AlignCounters) (s : State) : State :=
  s.updAlign fun a => { a with counters := f a.counters }

/-- What every accepted mark leaves in the unit (R76 to R79): LOCKED, no misses, nothing expected. -/
def Align.accepted (a : Align) : Align := { a with state := .locked, miss := 0, expect := false }

/-- A miss in LOCKED (R80, R82), and at the fourth the loss of R84. -/
def takeMiss (s : State) : State :=
  let s := s.updAlign fun a => { a with miss := a.miss + 1 }
  if Config.missLimit ≤ s.align.miss then s.updAlign fun a => { a with state := .holdover, expect := false } else s

/-- What a miss raises: ALIGN_LOST at the fourth (R84). -/
def missRaises (s : State) : List Notice := if Config.missLimit ≤ s.align.miss + 1 then [.alignLost] else []

/-! ### Marks -/

/-- A mark accepted in SEEKING or HOLDOVER (R76). -/
def acceptAnywhere (s : State) : State :=
  restartWithBoundary (countMark (fun k => { k with acquired := ctrInc k.acquired }) (s.updAlign Align.accepted))

/-- A mark in LOCKED, by its class (R77 to R80). -/
def markLocked (s : State) : State :=
  match markClass s with
  | .onTime => countMark (fun k => { k with onTime := ctrInc k.onTime }) (s.updAlign Align.accepted)
  | .early =>
    restartWithBoundary (countMark (fun k => { k with early := ctrInc k.early }) (s.updAlign Align.accepted))
  | .late =>
    restartWithoutBoundary (countMark (fun k => { k with late := ctrInc k.late }) (s.updAlign Align.accepted))
  | .misaligned => takeMiss (countMark (fun k => { k with misaligned := ctrInc k.misaligned }) s)

/-- What a mark in LOCKED raises. -/
def markLockedRaises (s : State) : List Notice :=
  match markClass s with
  | .onTime => []
  | .early => restartRaises s
  | .late => []
  | .misaligned => missRaises s

/-- A mark in the present slot, but for what it raises. In FREE it changes nothing (R74). -/
def takeMark (s : State) : State :=
  match s.align.state with
  | .free => s
  | .seeking => acceptAnywhere s
  | .locked => markLocked s
  | .holdover => acceptAnywhere s

/-- What a mark in the present slot raises (R76 to R80, R84). -/
def markRaises (s : State) : List Notice :=
  match s.align.state with
  | .free => []
  | .seeking => restartRaises s
  | .locked => markLockedRaises s
  | .holdover => .alignRegained :: restartRaises s

/-- A MARK reaches the Alignment Unit (R74). It arrives in the slot whose symbol is to be decided next, so that the window
in force after a restart governs that slot (R22; log 3). Where the wrap that begins the slot, or the restart, raises
COMMIT_DONE beside ALIGN_REGAINED, the two go in either order (R54, R177; log 8). -/
def markArrives (s : State) : State :=
  if s.align.state = .free then s
  else raiseAll (beginRaises s ++ markRaises (beginSlot s)) (takeMark (beginSlot s))

/-! ### Missed marks -/

/-- A missed-mark check is due in the present slot (R82): the counter is above W, and above the W with which the slot
began, since a check that a SET_ALIGN in the slot makes due is taken in the next slot. -/
def missedDue (s : State) : Bool :=
  decide (s.align.state = .locked) && s.align.expect &&
    decide (s.align.width < s.sched.counter) && decide (s.sched.slotWidth < s.sched.counter)

/-- The missed-mark check, if it is due in the present slot (R82), but for what it raises. -/
def missedCheck (s : State) : State :=
  if missedDue s then
    takeMiss (countMark (fun k => { k with missed := ctrInc k.missed }) (s.updAlign fun a => { a with expect := false }))
  else s

/-- What the missed-mark check raises. -/
def missedRaises (s : State) : List Notice := if missedDue s then missRaises s else []

/-- MISSED_MARK_CHECK (R82): the check of the slot whose symbol is to be decided next. Not due otherwise (log 4). -/
def missedMarkCheck (s : State) : State :=
  if missedDue (beginSlot s) then
    raiseAll (beginRaises s ++ missedRaises (beginSlot s)) (missedCheck (beginSlot s))
  else s

def execMissedMarkCheck (s : State) : Answer := .next (whenRunning missedMarkCheck s)

/-- A trunk DOWN event reaches the unit (R85). -/
def Align.trunkDown (a : Align) : Align :=
  match a.mode with
  | .free => a
  | .follow => { a with state := .seeking, miss := 0, expect := false }

end Sys2Proof.Machine
end

