-- ==== Sys2Proof/Machine/Interleaver.lean ====
section
/-! DEFINITION. The Interleaver (chapter 2): the arbiter, the decision of each trunk slot, the drain; and the commands
TRUNK_SLOT, TRUNK_STALL_LIMIT and DRAIN_END. -/

namespace Sys2Proof.Machine

/-! ### The Preemption Stack -/

/-- The entry is ACTIVE. -/
def StackEntry.isActive (e : StackEntry) : Bool := decide (e.state = .active)

/-- LEN + 9 less the bytes emitted (R16). -/
def remaining (s : State) (e : StackEntry) : Nat := (s.store.desc e.desc).frameBytes - e.emitted

/-- The frame of an entry is FAILED. -/
def frameFailed (s : State) (d : DescId) : Bool :=
  match (s.store.desc d).state with
  | .failed _ => true
  | .free => false
  | .filling => false
  | .complete => false

/-- The fragment limits hold: MINFRAG and MINTAIL (R27, R29). -/
def limitsHold (s : State) (e : StackEntry) : Bool :=
  decide (Config.minFrag ≤ e.fragment) && decide (Config.minTail ≤ remaining s e)

/-- The Interleaver's counters change. -/
def countIl (f : IlCounters → IlCounters) (s : State) : State :=
  s.updIl fun il => { il with counters := f il.counters }

/-- The top of the stack replaced. -/
def setTop (e : StackEntry) (s : State) : State :=
  s.updIl fun il =>
    match il.stack with
    | [] => il
    | _ :: es => { il with stack := e :: es }

/-- The symbol the Interleaver gives in this slot (R20). -/
def send (y : TrunkSymbol) (s : State) : State := s.setTrunkTx (some y)

/-! ### Candidates and the arbiter (2.3) -/

/-- The nesting test of R23. -/
def nests (s : State) (c : Cls) : Bool :=
  match s.il.stack with
  | [] => true
  | e :: _ => decide (c < e.cls)

/-- The ready test of R23. -/
def ready (x : Descriptor) : Bool :=
  match x.state with
  | .complete => true
  | .filling => x.cutThrough && x.header.isSome
  | .free => false
  | .failed _ => false

/-- The hold test of R23. -/
def holdAllows (s : State) (d : DescId) : Bool :=
  match s.il.hold with
  | none => true
  | some h => decide (h = d)

/-- The arbiter examines class c: it nests, and while the reply hold is present c is the class of the held reply (R25,
R44). -/
def examines (s : State) (c : Cls) : Bool :=
  nests s c &&
    match s.il.hold with
    | none => true
    | some h => decide ((s.store.desc h).cls = some c)

/-- A frame the arbiter names, and whether the fit check was applied to it (R24, R28). -/
structure Candidate where
  cls : Cls
  desc : DescId
  fitChecked : Bool
  deriving DecidableEq, Repr

/-- An UNFIT discard of a head of class c (R67), but for the UNFIT_DROP it raises. -/
def unfitDiscard (c : Cls) (d : DescId) (s : State) : State :=
  (discardQueued d .unfit s).updSched fun k => { k with unfit := bump c k.unfit }

/-- What the arbiter leaves: the state; the class of each UNFIT discard, in the order made; and the candidate named. -/
abbrev Arbitrated := State × List Cls × Option Candidate

/-- The examination of class c, whose queue is the list given (R23, R24): the head is a candidate, or blocks its class, or
is discarded as UNFIT and the next head is examined. -/
def examineQueue (c : Cls) : List DescId → State → Arbitrated
  | [], s => (s, [], none)
  | d :: ds, s =>
    if !isOpen s c then (s, [], none)
    else if (vget s.policy c).preemptible then
      (s, [], if ready (s.store.desc d) && holdAllows s d then some ⟨c, d, false⟩ else none)
    else
      match fitCheck c ((s.store.desc d).frameBytes - 9) s with
      | .fits => (s, [], if ready (s.store.desc d) && holdAllows s d then some ⟨c, d, true⟩ else none)
      | .waits => (s, [], none)
      | .unfit =>
        match examineQueue c ds (unfitDiscard c d s) with
        | (s', us, x) => (s', c :: us, x)

/-- The classes examined in order; the first eligible head found is the candidate (R25). -/
def arbitrate : List Cls → State → Arbitrated
  | [], s => (s, [], none)
  | c :: cs, s =>
    if examines s c then
      match examineQueue c (s.store.queue c) s with
      | (s', us, some x) => (s', us, some x)
      | (s', us, none) =>
        match arbitrate cs s' with
        | (s'', us', x) => (s'', us ++ us', x)
    else arbitrate cs s

/-- The one arbiter over the trunk (R25). -/
def arbiter (s : State) : Arbitrated := arbitrate [0, 1, 2, 3, 4, 5] s

/-- What the UNFIT discards of a slot raise (R67). -/
def unfitRaises (us : List Cls) : List Notice := us.map Notice.unfitDrop

/-! ### The symbols of the decision (R17) -/

/-- OPEN(l) of the candidate (R26, R27): the head's reference passes to a new ACTIVE top; an ACTIVE former top is
suspended as PREEMPTED and counted; the reply hold ends at the OPEN of the reply. -/
def openFrame (x : Candidate) (s : State) : State :=
  let entry : StackEntry :=
    { desc := x.desc, cls := x.cls, state := .active, emitted := 0, fragment := 0, starve := 0,
      preemptible := (vget s.policy x.cls).preemptible, fitChecked := x.fitChecked }
  let s := s.updStore (FrameStore.unqueue x.cls x.desc)
  let s := s.updIl fun il =>
    let il := if il.hold = some x.desc then { il with hold := none } else il
    match il.stack with
    | [] => { il with stack := [entry] }
    | e :: es =>
      if e.isActive then
        { il with stack := entry :: { e with state := .suspended .preempted } :: es,
                  counters := { il.counters with preempted := bump e.cls il.counters.preempted } }
      else { il with stack := entry :: e :: es }
  send (.opened x.cls) s

/-- RESUME of the top (R17, R32, R39, R42). -/
def resumeTop (e : StackEntry) (s : State) : State :=
  send (.resume e.cls) (setTop { e with state := .active, fragment := 0 } s)

/-- PAUSE of the top (R29). -/
def pauseTop (e : StackEntry) (s : State) : State :=
  send .pause
    (countIl (fun k => { k with gateSuspended := bump e.cls k.gateSuspended })
      (setTop { e with state := .suspended .gated } s))

/-- The top leaves the stack and its reference is dropped (R18). -/
def popTop (e : StackEntry) (s : State) : State :=
  (s.updIl fun il => { il with stack := il.stack.tail }).updStore (FrameStore.dropRef e.desc)

/-- CLOSE of the top (R35). -/
def closeTop (e : StackEntry) (s : State) : State :=
  send .close (countIl (fun k => { k with sent := bump e.cls k.sent }) (popTop e s))

/-- ABORT of the top (R38, R42). -/
def abortTop (e : StackEntry) (s : State) : State :=
  send .abort (countIl (fun k => { k with aborted := bump e.cls k.aborted }) (popTop e s))

/-- The next byte of the top (R34). -/
def sendByte (e : StackEntry) (s : State) : State :=
  send (.data (s.store.readByte e.desc (e.emitted + 1)))
    (setTop { e with emitted := e.emitted + 1, fragment := e.fragment + 1, starve := 0 } s)

/-- FILL for the top (R36). -/
def fillTop (e : StackEntry) (s : State) : State := send .fill (setTop { e with starve := e.starve + 1 } s)

/-- A FILL of the top reaches the trunk stall limit, in a frame that is not FAILED yet (R37). -/
def stallsTrunk (e : StackEntry) (s : State) : Bool :=
  decide (s.agent.stallLimit ≤ e.starve + 1) && decide ((s.store.desc e.desc).state = .filling)

/-! ### The decision (R20) -/

/-- What the decision leaves: the state, and the raises of the slot, which go in any order (R177; log 8). -/
abbrev Decided := State × List Notice

/-- Steps 5c to 5e for an ACTIVE top: CLOSE, data or FILL. -/
def continueTop (e : StackEntry) (s : State) : Decided :=
  if remaining s e = 0 ∧ (s.store.desc e.desc).state = .complete then (closeTop e s, [])
  else if e.emitted < (s.store.desc e.desc).stored then (sendByte e s, [])
  else if stallsTrunk e s then (failFrame e.desc .trunkStall (fillTop e s), [.stallAbort .trunk])
  else (fillTop e s, [])

/-- Step 5 for an ACTIVE top that is not FAILED. -/
def decideActive (e : StackEntry) (s : State) : Decided :=
  if e.preemptible && limitsHold s e then
    match arbiter s with
    | (s', us, some x) => (openFrame x s', unfitRaises us)
    | (s', us, none) =>
      if isOpen s' e.cls then ((continueTop e s').1, unfitRaises us ++ (continueTop e s').2)
      else (pauseTop e s', unfitRaises us)
  else continueTop e s

/-- A top suspended as PREEMPTED whose class is closed in a slot decided at step 6 is GATED from then on (R32). -/
def gateTop (s : State) : State :=
  match s.il.stack with
  | [] => s
  | e :: _ =>
    if e.state = .suspended .preempted ∧ isOpen s e.cls = false then
      countIl (fun k => { k with gateSuspended := bump e.cls k.gateSuspended })
        (setTop { e with state := .suspended .gated } s)
    else s

/-- Steps 6b and 6c, with no candidate named. -/
def resumeOrIdle (s : State) : State :=
  match s.il.stack with
  | [] => send .idle s
  | e :: _ => if isOpen s e.cls then resumeTop e s else send .idle s

/-- Step 6: the stack is empty or its top is SUSPENDED and not FAILED. -/
def decideIdle (s : State) : Decided :=
  match arbiter (gateTop s) with
  | (s', us, some x) => (openFrame x s', unfitRaises us)
  | (s', us, none) => (resumeOrIdle s', unfitRaises us)

/-- Step 2: a slot of the drain (R42), and its end at the ABORT of the last entry (R43). A set flag over an empty stack
stands in no run; IDLE is sent (log 15). -/
def drainStep (s : State) : State :=
  match s.il.stack with
  | [] => send .idle s
  | e :: es =>
    if e.isActive then (if es.isEmpty then endDrain (abortTop e s) else abortTop e s) else resumeTop e s

/-- The first step of R20's table whose condition holds, the trunk being UP. -/
def decide20 (s : State) : Decided :=
  if s.il.drain then (drainStep s, [])
  else
    match s.il.stack with
    | [] => decideIdle s
    | e :: _ =>
      if e.isActive then
        if frameFailed s e.desc then (abortTop e s, []) else decideActive e s
      else if frameFailed s e.desc then (resumeTop e s, [])
      else decideIdle s

/-- The class of a gate overrun taken in this slot (R31). -/
def overrunClass (s : State) : Option Cls :=
  match s.il.stack with
  | [] => none
  | e :: _ => if e.isActive && e.fitChecked && closes s e.cls then some e.cls else none

/-- The gate overrun of the slot is counted (R31). -/
def countOverrun (x : Option Cls) (s : State) : State :=
  match x with
  | none => s
  | some c => countIl (fun k => { k with overruns := bump c k.overruns }) s

/-- What the gate overrun raises (R31). -/
def overrunRaises (x : Option Cls) : List Notice := x.toList.map Notice.gateOverrun

/-- The Interleaver's part of a slot in which the trunk is UP: the gate overrun of R31 and the decision of R20. -/
def trunkDecision (s : State) : Decided :=
  let late := overrunClass s
  let out := decide20 (countOverrun late s)
  (out.1, overrunRaises late ++ out.2)

/-- The slot that has begun is decided: step 1 of R20 while the trunk is DOWN, when the line carries IDLE (R1). The slot
is then over. -/
def decideSlot (s : State) : Decided :=
  let out := if s.trunkRx.up then trunkDecision s else (send .idle s, [])
  (out.1.updSched fun c => { c with slotBegun := false }, out.2)

/-- TRUNK_SLOT (R20, R49): the slot begins, unless it has; the missed-mark check is taken if it is due (R82); and the
Interleaver decides. All that the slot raises goes in any order (R177; log 8). -/
def trunkSlot (s : State) : State :=
  let begun := beginSlot s
  let out := decideSlot (missedCheck begun)
  raiseAll (beginRaises s ++ missedRaises begun ++ out.2) out.1

def execTrunkSlot (s : State) : Answer := .next (whenRunning trunkSlot s)

/-- The slot to be decided next sends a FILL that reaches the trunk stall limit (R37). -/
def stallDue (s : State) : Bool :=
  s.trunkRx.up && decide (Notice.stallAbort .trunk ∈ (trunkDecision s).2)

/-- TRUNK_STALL_LIMIT (R37): the trunk slot whose FILL reaches the trunk stall limit. Not due otherwise (log 4, log 5). -/
def trunkStallLimit (s : State) : State :=
  if stallDue (missedCheck (beginSlot s)) then trunkSlot s else s

def execTrunkStallLimit (s : State) : Answer := .next (whenRunning trunkStallLimit s)

/-- The next trunk slot is the one in which the drain ends: the flag is set, the trunk is UP and the one entry left is
ACTIVE (R42, R43). -/
def drainEndsNext (s : State) : Bool :=
  s.il.drain && s.trunkRx.up &&
    match s.il.stack with
    | [e] => e.isActive
    | _ => false

/-- DRAIN_END (R43): the step in which the stack becomes empty during a drain and the reply is admitted and held for: the
trunk slot of the last ABORT, or at once where the stack is empty already. Not due otherwise (log 4, log 5). -/
def drainEnd (s : State) : State :=
  if s.il.stack.isEmpty && decide (s.agent.builder = .executing) then endDrain s
  else if drainEndsNext s then trunkSlot s
  else s

def execDrainEnd (s : State) : Answer := .next (whenRunning drainEnd s)

/-! ### Trunk DOWN (R46) -/

/-- The entries of the stack are removed one by one, top first: each reference dropped, each counted aborted. -/
def dropEntries : List StackEntry → State → State
  | [], s => s
  | e :: es, s =>
    dropEntries es
      (countIl (fun k => { k with aborted := bump e.cls k.aborted }) (s.updStore (FrameStore.dropRef e.desc)))

/-- A trunk DOWN event reaches the Interleaver (R46): the stack is emptied, and a drain ends. -/
def interleaverDown (s : State) : State :=
  let es := s.il.stack
  let s := dropEntries es (s.updIl fun il => { il with stack := [] })
  if s.il.drain then endDrain s else s

end Sys2Proof.Machine
end

