-- ==== Sys2Proof/Machine/Grammar.lean ====
section
/-! DEFINITION. The nesting grammar of the trunk (R10, R11, R14), on an open-frame list written top first. -/

namespace Sys2Proof.Machine

/-- The open-frame list after a symbol that is legal against it (R11); none where the symbol is a grammar violation
(R14). -/
def grammarStep (y : TrunkSymbol) (l : List OpenFrame) : Option (List OpenFrame) :=
  match y, l with
  | .mark, l => some l
  | .opened c, [] => some [⟨c, .active⟩]
  | .opened c, f :: fs => if c < f.cls then some (⟨c, .active⟩ :: { f with state := .suspended } :: fs) else none
  | .resume c, ⟨k, .suspended⟩ :: fs => if c = k then some (⟨k, .active⟩ :: fs) else none
  | .resume _, ⟨_, .active⟩ :: _ => none
  | .resume _, [] => none
  | .pause, ⟨k, .active⟩ :: fs => some (⟨k, .suspended⟩ :: fs)
  | .pause, ⟨_, .suspended⟩ :: _ => none
  | .pause, [] => none
  | .data _, ⟨k, .active⟩ :: fs => some (⟨k, .active⟩ :: fs)
  | .data _, ⟨_, .suspended⟩ :: _ => none
  | .data _, [] => none
  | .fill, ⟨k, .active⟩ :: fs => some (⟨k, .active⟩ :: fs)
  | .fill, ⟨_, .suspended⟩ :: _ => none
  | .fill, [] => none
  | .close, ⟨_, .active⟩ :: fs => some fs
  | .close, ⟨_, .suspended⟩ :: _ => none
  | .close, [] => none
  | .abort, ⟨_, .active⟩ :: fs => some fs
  | .abort, ⟨_, .suspended⟩ :: _ => none
  | .abort, [] => none
  | .idle, [] => some []
  | .idle, ⟨k, .suspended⟩ :: fs => some (⟨k, .suspended⟩ :: fs)
  | .idle, ⟨_, .active⟩ :: _ => none

/-- The two laws of an open-frame list (R10, R15), on its classes and states: the classes strictly rise from top to bottom,
and every entry below the top is SUSPENDED. -/
def stackLawful : List OpenFrame → Bool
  | [] => true
  | f :: fs => fs.all (fun g => decide (f.cls < g.cls) && decide (g.state = .suspended)) && stackLawful fs

end Sys2Proof.Machine
end

