-- ==== Sys2Proof/Machine/Reception.lean ====
section
/-! DEFINITION. The Deinterleaver (chapter 5) and the Route Table's lookup (chapter 9): what a decoded trunk symbol, an
undecodable word and a trunk DOWN event do to the Reassembly Stack and the contexts. -/

namespace Sys2Proof.Machine

/-! ### Routes (R152) -/

/-- The port of the valid entry that holds an address; no two valid entries hold one address (R151). -/
def routeLookup (a : Addr) (v : Vector Route 64) : Option PortIx :=
  (v.toList.find? fun e => e.valid && decide (e.address = a)).map Route.port

/-! ### Contexts -/

/-- Context c (R89). -/
def State.context (s : State) (c : Cls) : Context := vget s.rx.contexts c

/-- Context c replaced. -/
def setContext (c : Cls) (x : Context) (s : State) : State :=
  s.updRx fun r => { r with contexts := vset r.contexts c x }

/-- The Deinterleaver's counters change. -/
def countRx (f : RxCounters → RxCounters) (s : State) : State := s.updRx fun r => { r with counters := f r.counters }

/-- The storage of context c, if present, is relinquished (R98, R118). -/
def releaseStorage (c : Cls) (s : State) : State :=
  match (s.context c).storage with
  | none => s
  | some d => setContext c { s.context c with storage := none } (s.updStore (FrameStore.relinquish d))

/-- The disposition of context c becomes DISCARD(r), its storage released in the same step (R98). -/
def discardContext (c : Cls) (r : DiscardReason) (s : State) : State :=
  let s := releaseStorage c s
  setContext c { s.context c with disposition := .discard r } s

/-- Context c is closed, its storage released (R92, R102, R103, R105). -/
def closeContext (c : Cls) (s : State) : State := setContext c Context.closed (releaseStorage c s)

/-- Every context is closed, in class order (log 11). -/
def closeAll (s : State) : State := [0, 1, 2, 3, 4, 5].foldl (fun s c => closeContext c s) s

/-! ### Opening a frame (R93) -/

/-- Context c is opened; it takes a descriptor, or it is a storage-less context. -/
def openContext (c : Cls) (s : State) : State :=
  match s.store.lineTakeDesc .trunk with
  | some (d, st) => setContext c { Context.closed with storage := some d } (s.updStore fun _ => st)
  | none =>
    raise .storeExhausted
      (countRx (fun k => { k with noStore := ctrInc k.noStore })
        (setContext c { Context.closed with disposition := .discard .noStore } s))

/-! ### Header disposition (R96) -/

/-- The ports that are enabled and UP (R96, R157). -/
def servingPorts (s : State) : PortSet :=
  (if (s.port 0).serving then (0x1 : PortSet) else 0) ||| (if (s.port 1).serving then 0x2 else 0) |||
    (if (s.port 2).serving then 0x4 else 0) ||| (if (s.port 3).serving then 0x8 else 0)

/-- The set of one port. -/
def portSingle (p : PortIx) : PortSet := 1 <<< p.val

/-- The disposition of a header: the first line of R96's table whose test holds. -/
def headerDisposition (s : State) (h : Header) : Disposition :=
  if Config.maxPayload < h.len.toNat then .discard .malformed
  else if h.dest = s.agent.address then .toAgent
  else if h.dest = Config.broadcast then .toPorts (servingPorts s)
  else
    match routeLookup h.dest s.routes with
    | some p => .toPorts (portSingle p)
    | none => .discard .unrouted

/-- The counter of a DISCARD's reason (R98). -/
def countDiscard (r : DiscardReason) (s : State) : State :=
  match r with
  | .noStore => countRx (fun k => { k with noStore := ctrInc k.noStore }) s
  | .unrouted => countRx (fun k => { k with unrouted := ctrInc k.unrouted }) s
  | .malformed => countRx (fun k => { k with lengthErrors := ctrInc k.lengthErrors }) s
  | .overlong => countRx (fun k => { k with lengthErrors := ctrInc k.lengthErrors }) s
  | .reset => s

/-- Byte 7 has been taken: the header is recorded in the context and in the descriptor, and the disposition is decided. -/
def rxHeaderComplete (c : Cls) (d : DescId) (s : State) : State :=
  let h := s.store.readHeader d
  let s := s.updStore (FrameStore.updDesc d fun x => { x with header := some h })
  let s := setContext c { s.context c with header := some h } s
  match headerDisposition s h with
  | .discard r => countDiscard r (discardContext c r s)
  | .toPorts m => setContext c { s.context c with disposition := .toPorts m } s
  | .toAgent => setContext c { s.context c with disposition := .toAgent } s
  | .awaitHeader => s

/-! ### Bytes (R94, R95) -/

/-- The disposition is a DISCARD. -/
def Disposition.isDiscard : Disposition → Bool
  | .discard _ => true
  | .awaitHeader => false
  | .toPorts _ => false
  | .toAgent => false

/-- The frame of a context has all its LEN + 9 bytes. -/
def Context.isFull (x : Context) : Bool := decide (x.header.map Header.frameBytes = some x.received)

/-- A data byte for the ACTIVE top of class c (R94). A context that takes bytes has storage (R89; log 20). -/
def rxByte (c : Cls) (b : Byte) (s : State) : State :=
  let x := s.context c
  if x.disposition.isDiscard then s
  else if x.isFull then countDiscard .overlong (discardContext c .overlong s)
  else
    match x.storage with
    | none => s
    | some d =>
      match s.store.lineByte d b with
      | none => raise .storeExhausted (countDiscard .noStore (discardContext c .noStore s))
      | some st =>
        let s := setContext c { x with received := x.received + 1, check := crcByte x.check b } (s.updStore fun _ => st)
        if x.received + 1 = 7 then rxHeaderComplete c d s else s

/-! ### Ends (R99 to R103) -/

/-- The frame in d is offered to the delivery queue of port p (R100, R136). -/
def offer (d : DescId) (p : PortIx) (s : State) : State :=
  if (s.port p).serving && decide ((s.port p).delivery.length < Config.deliveryLimit) then
    (s.updPort p fun q => { q with delivery := q.delivery ++ [d] }).updStore (FrameStore.addRef d)
  else countPort p (fun k => { k with refused := ctrInc k.refused }) s

/-- The frame in d is offered to each port of a set; taken by none, it is released (R100). -/
def offerAll (d : DescId) (m : PortSet) (s : State) : State :=
  (([0, 1, 2, 3].filter fun p => portIn p m).foldl (fun s p => offer d p s) s).updStore (FrameStore.settle d)

/-- The frame in d is offered to the Agent Inbox (R101, R160). -/
def inboxOffer (d : DescId) (s : State) : State :=
  if s.agent.inbox.length < Config.inboxLimit then
    (s.updAgent fun a => { a with inbox := a.inbox ++ [d] }).updStore (FrameStore.addRef d)
  else
    (s.updAgent fun a => { a with counters := { a.counters with overflows := ctrInc a.counters.overflows } }).updStore
      (FrameStore.settle d)

/-- The frame of context c is accepted (R99): COMPLETE, counted, its context closed, and handed on as given. -/
def acceptFrame (c : Cls) (handOn : DescId → State → State) (s : State) : State :=
  match (s.context c).storage with
  | none => setContext c Context.closed s
  | some d =>
    handOn d
      (countRx (fun k => { k with accepted := ctrInc k.accepted })
        (setContext c Context.closed (s.updStore (FrameStore.complete d))))

/-- A CLOSE of a context whose header is complete and whose frame has a destination: the tests of R99, the length first. -/
def judgeFrame (c : Cls) (handOn : DescId → State → State) (s : State) : State :=
  if !(s.context c).isFull then
    closeContext c (countRx (fun k => { k with lengthErrors := ctrInc k.lengthErrors }) s)
  else if (s.context c).check ≠ 0 then
    closeContext c (countRx (fun k => { k with crcErrors := ctrInc k.crcErrors }) s)
  else acceptFrame c handOn s

/-- A CLOSE ends context c (R99, R102). -/
def rxCloseFrame (c : Cls) (s : State) : State :=
  match (s.context c).disposition with
  | .discard _ => closeContext c s
  | .awaitHeader => closeContext c (countRx (fun k => { k with lengthErrors := ctrInc k.lengthErrors }) s)
  | .toPorts m => judgeFrame c (fun d s => offerAll d m s) s
  | .toAgent => judgeFrame c inboxOffer s

/-! ### Symbols (R90 to R92) -/

/-- What a grammar violation and a trunk DOWN event share (R92, R105): every context closed, the stack empty, RESYNC. -/
def enterResync (s : State) : State := (closeAll s).updRx fun r => { r with stack := [], mode := .resync }

/-- A grammar violation in mode NORMAL (R92), but for the TRUNK_GRAMMAR it raises. -/
def breakStream (s : State) : State := countRx (fun k => { k with violations := ctrInc k.violations }) (enterResync s)

/-- A grammar violation in mode NORMAL (R92). -/
def violation (s : State) : State := raise .trunkGrammar (breakStream s)

/-- What a legal symbol does to the context it concerns (R91); f is the top before the symbol. -/
def actOn (y : TrunkSymbol) (f : Option OpenFrame) (s : State) : State :=
  match y, f with
  | .opened c, _ => openContext c s
  | .data b, some f => rxByte f.cls b s
  | .close, some f => rxCloseFrame f.cls s
  | .abort, some f => closeContext f.cls s
  | .data _, none => s
  | .close, none => s
  | .abort, none => s
  | .resume _, _ => s
  | .pause, _ => s
  | .fill, _ => s
  | .idle, _ => s
  | .mark, _ => s

/-- A symbol in mode RESYNC (R90). -/
def rxInResync (y : TrunkSymbol) (s : State) : State :=
  match y with
  | .opened c => openContext c (s.updRx fun r => { r with mode := .normal, stack := [⟨c, .active⟩] })
  | .idle => s
  | .resume _ => s
  | .pause => s
  | .close => s
  | .abort => s
  | .fill => s
  | .mark => s
  | .data _ => s

/-- A symbol in mode NORMAL (R91). -/
def rxInNormal (y : TrunkSymbol) (s : State) : State :=
  match grammarStep y s.rx.stack with
  | none => violation s
  | some l => actOn y s.rx.stack.head? (s.updRx fun r => { r with stack := l })

/-- A decoded trunk symbol reaches the Deinterleaver. -/
def rxSymbol (y : TrunkSymbol) (s : State) : State :=
  match s.rx.mode with
  | .resync => rxInResync y s
  | .normal => rxInNormal y s

/-- A word that cannot be decoded as a trunk symbol (R14, R90, R185), but for what it raises. -/
def undecodedWord (s : State) : State :=
  match s.rx.mode with
  | .resync => s
  | .normal => breakStream s

/-- What a word that cannot be decoded raises (R92). -/
def undecodedRaises (s : State) : List Notice :=
  match s.rx.mode with
  | .resync => []
  | .normal => [.trunkGrammar]

/-- A word that cannot be decoded as a trunk symbol (R14, R90, R185). -/
def rxUndecodable (s : State) : State := raiseAll (undecodedRaises s) (undecodedWord s)

/-- A trunk DOWN event reaches the Deinterleaver (R105). -/
def deinterleaverDown (s : State) : State := enterResync s

/-- A traffic reset reaches the Deinterleaver (R106): every open context is discarded, stack and mode kept. -/
def deinterleaverTrafficReset (s : State) : State :=
  (s.rx.stack.map OpenFrame.cls).foldl (fun s c => discardContext c .reset s) s

end Sys2Proof.Machine
end

