-- ==== Sys2Proof/Machine/Requests.lean ====
section
/-! DEFINITION. The execution of a request (10.4 to 10.9): the checks of R165, the Replay Table, what each kind does, and
the reply. -/

namespace Sys2Proof.Machine

/-! ### Answerable requests and the checks 1 to 5 (R161, R165, R183) -/

/-- A request can be answered (R161). -/
def Request.answerable (r : Request) : Bool :=
  decide (6 ≤ r.len) && decide (r.src ≠ 0x0000) && decide (r.src ≠ 0xFFFF) && !r.kind.getLsbD 7

/-- The parameter length that check 3 requires (R165, 12.1). -/
def Request.requiredLength (r : Request) (k : ReqKind) (t : TableId) : Nat :=
  match k with
  | .query => 0
  | .read => 0
  | .write => r.count * t.entrySize
  | .commit => 0
  | .abandon => 0
  | .setAlign => 3
  | .setGlobal => 14
  | .readCounters => 1
  | .flush => 2
  | .trafficReset => 0

/-- The request is a READ or a WRITE, for which TABLE, INDEX and COUNT are read. -/
def ReqKind.usesTable : ReqKind → Bool
  | .read => true
  | .write => true
  | .query => false
  | .commit => false
  | .abandon => false
  | .setAlign => false
  | .setGlobal => false
  | .readCounters => false
  | .flush => false
  | .trafficReset => false

/-- A table that may not be written (R165, check 5). -/
def TableId.readOnly : TableId → Bool
  | .scheduleActive => true
  | .hits => true
  | .classify => false
  | .portDefault => false
  | .classPolicy => false
  | .route => false
  | .portConfig => false
  | .scheduleStandby => false

/-- Checks 3 to 5 of R165 for a known kind; t is the table of a READ or WRITE. -/
def Request.laterChecks (r : Request) (k : ReqKind) (t : TableId) : Status :=
  if r.len - 6 ≠ r.requiredLength k t then .badLength
  else if k.usesTable && !(decide (1 ≤ r.count) && decide (r.index + r.count ≤ t.entries)) then .badIndex
  else if decide (k = .write) && t.readOnly then .readOnly
  else .ok

/-- Checks 1 to 5 of R165: the status of the first that fails, else OK. -/
def Request.preCheck (r : Request) : Status :=
  match kindOf r.kind with
  | none => .badKind
  | some k =>
    if k.usesTable then
      match tableOf r.table with
      | none => .badTable
      | some t => r.laterChecks k t
    else r.laterChecks k .classify

/-! ### Replay (R171, R172) -/

/-- The clear flag of a READ_COUNTERS of the right length (12.2). -/
def Request.clears (r : Request) : Bool := decide (r.len = 7) && (byteAt r.params 0).getLsbD 0

/-- A request is replay-protected (R171). -/
def Request.isProtected (r : Request) : Bool :=
  match kindOf r.kind with
  | none => false
  | some .query => false
  | some .read => false
  | some .readCounters => r.clears
  | some .write => true
  | some .commit => true
  | some .abandon => true
  | some .setAlign => true
  | some .setGlobal => true
  | some .flush => true
  | some .trafficReset => true

/-- The entry that answers a request from the Replay Table (R171). -/
def replayEntry (r : Request) (l : List ReplayEntry) : Option ReplayEntry :=
  if r.isProtected then
    l.find? fun e => decide (e.requester = r.src) && decide (e.seq = r.seq) && decide (e.kind = r.kind)
  else none

/-- The table with the entry of its requester brought to the most recently used place (R171, R172): at most one entry for
each requester, at most four in all. -/
def replayPut (e : ReplayEntry) (l : List ReplayEntry) : List ReplayEntry :=
  (e :: l.filter fun x => decide (x.requester ≠ e.requester)).take Config.replayLimit

/-- The entry that records an executed request (R172). -/
def Request.outcome (r : Request) (x : Status) : ReplayEntry :=
  { requester := r.src, seq := r.seq, kind := r.kind, status := x, replayed := false }

/-- The Replay Table changes. -/
def updReplay (f : List ReplayEntry → List ReplayEntry) (s : State) : State :=
  s.updAgent fun a => { a with replay := f a.replay }

/-- An executed request is recorded, if it is protected (R172). -/
def recordOutcome (r : Request) (x : Status) (s : State) : State :=
  if r.isProtected then updReplay (replayPut (r.outcome x)) s else s

/-! ### The size of a reply (R163) -/

/-- The data bytes of the reply to a request that is executed with status OK. -/
def Request.dataLength (r : Request) : Nat :=
  match kindOf r.kind with
  | some .query => 12
  | some .read => (tableOf r.table).elim 0 fun t => r.count * t.entrySize
  | some .readCounters => 360
  | some .write => 0
  | some .commit => 0
  | some .abandon => 0
  | some .setAlign => 0
  | some .setGlobal => 0
  | some .flush => 0
  | some .trafficReset => 0
  | none => 0

/-- The cells of the reply to a request, the Replay Table being l. -/
def replyCells (r : Request) (l : List ReplayEntry) : Nat :=
  cellsFor (5 + (if (replayEntry r l).isNone && decide (r.preCheck = .ok) then r.dataLength else 0) + 9)

/-! ### What each kind does: check 6 and the effects (R165, R166 to R170) -/

/-- What the execution of a request answers: the status, the data of the reply, the state. -/
structure Done where
  status : Status
  data : List Byte
  state : State

/-- A refusal has no effect (R165). -/
def Done.refuse (x : Status) (s : State) : Done := { status := x, data := [], state := s }

/-- OK without data. -/
def Done.ok (s : State) : Done := { status := .ok, data := [], state := s }

/-- QUERY (R167). -/
def performQuery (s : State) : Done := { status := .ok, data := queryData s, state := s }

/-- READ of a table (R166). -/
def performRead (t : TableId) (r : Request) (s : State) : Done :=
  { status := .ok, data := readEntries s t r.index r.count, state := s }

/-- WRITE to CLASSIFY (R146): the hit counts of the entries written become 0 (R144). -/
def performWriteClassify (r : Request) (s : State) : Done :=
  match decodeEntries r TableId.classify.entrySize (fun _ bs => classEntryOf bs) r.count with
  | none => .refuse .badValue s
  | some es => .ok (s.updClassifier fun k => { k with entries := writeFrom k.entries r.index es })

/-- WRITE to PORT_DEFAULT (R146). -/
def performWritePortDefault (r : Request) (s : State) : Done :=
  match decodeEntries r TableId.portDefault.entrySize (fun _ bs => actionOf (byteAt bs 0)) r.count with
  | none => .refuse .badValue s
  | some es => .ok (s.updClassifier fun k => { k with defaults := writeFrom k.defaults r.index es })

/-- WRITE to CLASS_POLICY (R147). -/
def performWriteClassPolicy (r : Request) (s : State) : Done :=
  match decodeEntries r TableId.classPolicy.entrySize (fun _ bs => classPolicyOf bs) r.count with
  | none => .refuse .badValue s
  | some es => .ok (s.setPolicy (writeFrom s.policy r.index es))

/-- The addresses of the valid entries of the Route Table. -/
def routeAddresses (v : Vector Route 64) : List Addr := (v.toList.filter Route.valid).map Route.address

/-- WRITE to ROUTE (R153, R154): the value checks, then the uniqueness test on the table as it would stand. -/
def performWriteRoute (r : Request) (s : State) : Done :=
  match decodeEntries r TableId.route.entrySize (fun _ bs => routeOf s.agent.address bs) r.count with
  | none => .refuse .badValue s
  | some es =>
    if (routeAddresses (writeFrom s.routes r.index es)).Nodup then .ok (s.setRoutes (writeFrom s.routes r.index es))
    else .refuse .duplicate s

/-- Port configurations take effect from port i upward, each with what it makes its port stop or start (R126, R127). -/
def applyConfigs : Nat → List PortConfig → State → State
  | _, [], s => s
  | i, x :: xs, s =>
    applyConfigs (i + 1) xs (if h : i < 4 then changePort ⟨i, h⟩ (fun q => { q with config := x }) s else s)

/-- WRITE to PORT_CONFIG (R126). -/
def performWritePortConfig (r : Request) (s : State) : Done :=
  match decodeEntries r TableId.portConfig.entrySize (fun _ bs => portConfigOf bs) r.count with
  | none => .refuse .badValue s
  | some es => .ok (applyConfigs r.index es s)

/-- WRITE to SCHEDULE_STANDBY (R57, R58): the PENDING test, then the value checks. -/
def performWriteStandby (r : Request) (s : State) : Done :=
  match s.sched.commit with
  | .pending => .refuse .pending s
  | .idle =>
    match decodeEntries r TableId.scheduleStandby.entrySize (fun j bs => scheduleEntryOf (r.index + j) bs) r.count with
    | none => .refuse .badValue s
    | some es => .ok (s.updSched fun k => k.setStandby (k.standbyBank.writeEntries r.index es))

/-- WRITE to a table; the tables that may not be written are refused by check 5. -/
def performWrite (t : TableId) (r : Request) (s : State) : Done :=
  match t with
  | .classify => performWriteClassify r s
  | .portDefault => performWritePortDefault r s
  | .classPolicy => performWriteClassPolicy r s
  | .route => performWriteRoute r s
  | .portConfig => performWritePortConfig r s
  | .scheduleStandby => performWriteStandby r s
  | .scheduleActive => .refuse .readOnly s
  | .hits => .refuse .readOnly s

/-- COMMIT (R60). -/
def performCommit (s : State) : Done :=
  match s.sched.commit with
  | .pending => .refuse .pending s
  | .idle =>
    if s.sched.standbyBank.valid then .ok (s.updSched fun k => { k with commit := .pending })
    else .refuse .badSchedule s

/-- ABANDON (R61). -/
def performAbandon (s : State) : Done :=
  match s.sched.commit with
  | .pending => .ok (s.updSched fun k => { k with commit := .idle })
  | .idle => .refuse .notPending s

/-- The mode of a mode byte (12.2). -/
def alignModeOf (b : Byte) : Option AlignMode :=
  if b = 0x00 then some .free else if b = 0x01 then some .follow else none

/-- A mode set by SET_ALIGN (R86). -/
def Align.setMode (m : AlignMode) (a : Align) : Align :=
  { a with mode := m, state := (match m with | .free => .free | .follow => .seeking), miss := 0, expect := false }

/-- SET_ALIGN (R86, R184): a field is validated only where its present bit is set. -/
def performSetAlign (r : Request) (s : State) : Done :=
  let modePresent := (byteAt r.params 0).getLsbD 0
  let widthPresent := (byteAt r.params 0).getLsbD 1
  let w := (byteAt r.params 2).toNat
  if widthPresent && decide (w = 0) then .refuse .badValue s
  else
    let s' := if widthPresent then s.updAlign fun a => { a with width := w } else s
    if modePresent then
      match alignModeOf (byteAt r.params 1) with
      | none => .refuse .badValue s
      | some m => .ok (s'.updAlign (Align.setMode m))
    else .ok s'

/-- A field of SET_GLOBAL: none where its flag or its value is refused; some none where it is absent. -/
def globalField {α : Type} (flag : Byte) (value : Option α) : Option (Option α) :=
  match flagOf flag with
  | none => none
  | some false => some none
  | some true => value.map some

/-- x, where a test of it holds. -/
def when {α : Type} (x : α) (b : Bool) : Option α := if b then some x else none

/-- SET_GLOBAL (R169, R184). -/
def performSetGlobal (r : Request) (s : State) : Done :=
  let b := byteAt r.params
  let w := wordAt r.params
  match
    globalField (b 0) (when (w 1) (decide (w 1 ≠ 0x0000) && decide (w 1 ≠ 0xFFFF) && (routeLookup (w 1) s.routes).isNone)),
    globalField (b 3) (classOf (b 4)),
    globalField (b 5) (some (w 6)),
    globalField (b 8) (when (w 9).toNat (decide (16 ≤ (w 9).toNat))),
    globalField (b 11) (when ((w 12).setWidth 9) (decide (w 12 &&& 0xFE00 = 0))) with
  | some g, some c, some d, some l, some m =>
    .ok (s.updAgent fun a =>
      { a with address := g.getD a.address, mgmtClass := c.getD a.mgmtClass, noticeDest := d.getD a.noticeDest,
               stallLimit := l.getD a.stallLimit, noticeMask := m.getD a.noticeMask })
  | _, _, _, _, _ => .refuse .badValue s

/-- Every counter of the counter set and all 32 hit counts become 0 (R170, R181). -/
def clearCounters (s : State) : State :=
  let s := s.updIl fun il => { il with counters := IlCounters.zero }
  let s := s.updSched fun k => { k with unfit := Vector.replicate 6 0 }
  let s := s.updAlign fun a => { a with counters := AlignCounters.zero }
  let s := s.updRx fun x => { x with counters := RxCounters.zero }
  let s := s.updPorts (mapPorts fun q => { q with counters := PortCounters.zero })
  let s := s.updAgent fun a => { a with counters := AgentCounters.zero }
  s.updClassifier fun k => { k with entries := k.entries.map fun e => { e with hits := 0 } }

/-- READ_COUNTERS (R170, R180, R181). -/
def performReadCounters (r : Request) (s : State) : Done :=
  { status := .ok, data := counterBytes s, state := if r.clears then clearCounters s else s }

/-- Class queue c is emptied, each reference by R122, with reason r for a frame still FILLING. -/
def emptyClassQueue (c : Cls) (r : FailReason) (s : State) : State :=
  (s.store.queue c).foldl (fun s d => discardQueued d r s) s

/-- FLUSH of class queue c (R123, R168). -/
def performFlushClass (c : Cls) (s : State) : Done := .ok (emptyClassQueue c .flushed s)

/-- FLUSH of the delivery queue of port p (R137, R168). -/
def performFlushDelivery (p : PortIx) (s : State) : Done := .ok (emptyDelivery p s)

/-- FLUSH (R168). -/
def performFlush (r : Request) (s : State) : Done :=
  if byteAt r.params 0 = 0x00 then
    match classOf (byteAt r.params 1) with
    | none => .refuse .badValue s
    | some c => performFlushClass c s
  else if byteAt r.params 0 = 0x01 then
    match portOf (byteAt r.params 1) with
    | none => .refuse .badValue s
    | some p => performFlushDelivery p s
  else .refuse .badValue s

/-- A traffic reset reaches port p (R135, R137, R138, R139). -/
def portTrafficReset (p : PortIx) (s : State) : State := abandonSending p (emptyDelivery p s)

/-- A traffic reset drops the requests that wait in the inbox (R173). -/
def dropInbox (s : State) : State :=
  let ds := s.agent.inbox
  let s := s.updAgent fun a =>
    { a with inbox := [], counters := { a.counters with droppedByReset := ds.foldl (fun k _ => ctrInc k) a.counters.droppedByReset } }
  dropRefs ds s

/-- TRAFFIC_RESET (R173) but for the drain and the reply. The frames in reception fail before the class queues are emptied,
so that each carries its reason RESET (R124); the releases are ordered by log 11. -/
def performTrafficReset (s : State) : Done :=
  let s := [0, 1, 2, 3].foldl (fun s p => framerTrafficReset p s) s
  let s := [0, 1, 2, 3, 4, 5].foldl (fun s c => emptyClassQueue c .reset s) s
  let s := [0, 1, 2, 3].foldl (fun s p => portTrafficReset p s) s
  let s := deinterleaverTrafficReset s
  .ok (dropInbox s)

/-- A request that has passed the checks 1 to 5 is carried out, by its kind. -/
def performKind (k : ReqKind) (r : Request) (s : State) : Done :=
  match k with
  | .query => performQuery s
  | .read =>
    match tableOf r.table with
    | none => .refuse .badTable s
    | some t => performRead t r s
  | .write =>
    match tableOf r.table with
    | none => .refuse .badTable s
    | some t => performWrite t r s
  | .commit => performCommit s
  | .abandon => performAbandon s
  | .setAlign => performSetAlign r s
  | .setGlobal => performSetGlobal r s
  | .readCounters => performReadCounters r s
  | .flush => performFlush r s
  | .trafficReset => performTrafficReset s

/-- The execution of a request by the checks of R165, the counting of R175 left out. -/
def perform (r : Request) (s : State) : Done :=
  match r.preCheck, kindOf r.kind with
  | .ok, some k => performKind k r s
  | .ok, none => .refuse .badKind s
  | x, _ => .refuse x s

/-! ### The execution step (R164) -/

/-- The Agent's counters change. -/
def countAgent (f : AgentCounters → AgentCounters) (s : State) : State :=
  s.updAgent fun a => { a with counters := f a.counters }

/-- Requests executed rises (R175). -/
def countExecuted (s : State) : State := countAgent (fun k => { k with executed := ctrInc k.executed }) s

/-- Requests refused rises, if the status is not OK (R175). -/
def countRefused (x : Status) (s : State) : State :=
  if x = .ok then s else countAgent (fun k => { k with refused := ctrInc k.refused }) s

/-- The request is carried out and counted. Whether a READ_COUNTERS that is carried out counts itself before or after it
reads is a free value (R164, R175, R180; log 9); for every other request the order has no effect. -/
def performCounted (r : Request) (s : State) : Done :=
  if decide (kindOf r.kind = some .readCounters) && decide (r.preCheck = .ok) && !Config.eitherOrder s.freeDraws then
    let o := perform r s.drawFree
    { o with state := countExecuted o.state }
  else if decide (kindOf r.kind = some .readCounters) && decide (r.preCheck = .ok) then
    perform r (countExecuted s.drawFree)
  else perform r (countExecuted s)

/-- The request in hand leaves the Agent's hand, its reference dropped (R160, R164). -/
def dropRequest (s : State) : State :=
  match s.agent.inHand with
  | none => s
  | some d => (s.updAgent fun a => { a with inHand := none }).updStore (FrameStore.dropRef d)

/-- The reply to a request is built in d and admitted to the tail of the management class queue (R164). SRC and the
management class are those after the execution. -/
def reply (d : DescId) (r : Request) (x : Status) (replayed again : Bool) (data : List Byte) (s : State) : State :=
  admitBuilt .reply false d
    (frameOf r.src s.agent.address r.tag (replyPayload r.seq r.kind x replayed again data)) s

/-- A replay is answered from the Replay Table (R171). -/
def answerReplay (d : DescId) (r : Request) (e : ReplayEntry) (s : State) : State :=
  let s := updReplay (replayPut { e with replayed := true }) s
  let s := countAgent (fun k => { k with replays := ctrInc k.replays }) s
  reply d r e.status true e.replayed [] s

/-- The drain of an executed TRAFFIC_RESET begins; over an empty stack it ends at once (R41, R43, R173). -/
def beginDrain (s : State) : State :=
  if s.il.stack.isEmpty then endDrain s else s.updIl fun il => { il with drain := true }

/-- An executed TRAFFIC_RESET owes its reply until the drain has ended (R174). -/
def oweReply (d : DescId) (r : Request) (s : State) : State :=
  s.updAgent fun a =>
    { a with builder := .executing, job := some .reply,
             owed := some { desc := d, dest := r.src, tag := r.tag, seq := r.seq } }

/-- A request that is not a replay is executed (R164, R172, R174). A TRAFFIC_RESET refused with BAD_LENGTH drains nothing,
and its reply joins the tail like any other (log 27). -/
def execute (d : DescId) (r : Request) (s : State) : State :=
  let o := performCounted r s
  let s := recordOutcome r o.status (countRefused o.status o.state)
  if o.status = .ok ∧ kindOf r.kind = some .trafficReset then beginDrain (oweReply d r s)
  else reply d r o.status false false o.data s

/-- The execution step of a request whose claim d has been granted (R164, R167, R171): its reference is dropped first; it
is answered from the Replay Table or executed. -/
def serve (d : DescId) (r : Request) (s : State) : State :=
  let s := dropRequest s
  match replayEntry r s.agent.replay with
  | some e => answerReplay d r e s
  | none => execute d r s

/-! ### The rows of the command table -/

/-- The rows that are the execution of a request. -/
inductive RequestRow where
  | query
  | read
  | writeClassify
  | writePortDefault
  | writeClassPolicy
  | writeRoute
  | writePortConfig
  | writeScheduleStandby
  | writeReadOnlyTable
  | commit
  | abandon
  | setAlign
  | setGlobal
  | readCounters
  | readCountersClear
  | flushClassQueue
  | flushDeliveryQueue
  | trafficReset
  deriving DecidableEq, Repr

/-- The row of a WRITE to a table. -/
def TableId.writeRow : TableId → RequestRow
  | .classify => .writeClassify
  | .portDefault => .writePortDefault
  | .classPolicy => .writeClassPolicy
  | .route => .writeRoute
  | .portConfig => .writePortConfig
  | .scheduleStandby => .writeScheduleStandby
  | .scheduleActive => .writeReadOnlyTable
  | .hits => .writeReadOnlyTable

/-- The row that a request is. A request of an unknown kind, a WRITE to an unknown table and a FLUSH of an unknown target
belong to none; BUILDER_CHOOSE_JOB and STORE_CLAIM_GRANTED execute them like every other (log 21). -/
def Request.row (r : Request) : Option RequestRow :=
  match kindOf r.kind with
  | none => none
  | some .query => some .query
  | some .read => some .read
  | some .write => (tableOf r.table).map TableId.writeRow
  | some .commit => some .commit
  | some .abandon => some .abandon
  | some .setAlign => some .setAlign
  | some .setGlobal => some .setGlobal
  | some .readCounters => some (if r.clears then .readCountersClear else .readCounters)
  | some .flush =>
    if byteAt r.params 0 = 0x00 then some .flushClassQueue
    else if byteAt r.params 0 = 0x01 then some .flushDeliveryQueue
    else none
  | some .trafficReset => some .trafficReset

end Sys2Proof.Machine
end

