-- ==== Sys2Proof/Machine/Agent.lean ====
section
/-! DEFINITION. The builder's turns (R161 to R164, R179): the commands BUILDER_CHOOSE_JOB and STORE_CLAIM_GRANTED, and the
eighteen commands that are the execution step of a request (log 6). -/

namespace Sys2Proof.Machine

/-! ### Jobs -/

/-- A notice job waits (R162). -/
def noticeWaits (s : State) : Bool := !s.agent.notices.isEmpty && decide (s.agent.noticeDest ≠ 0x0000)

/-- A reply job waits (R162). -/
def replyWaits (s : State) : Bool := !s.agent.inbox.isEmpty

/-- The kind of job an IDLE builder chooses; none if no job waits (R162). -/
def chosenJob (s : State) : Option Job :=
  match replyWaits s, noticeWaits s with
  | false, false => none
  | true, false => some .reply
  | false, true => some .notice
  | true, true =>
    match s.agent.lastBuilt with
    | .reply => some .notice
    | .notice => some .reply

/-- The builder waits for store with the job in hand (R163). -/
def waitForStore (s : State) : State := s.updAgent fun a => { a with builder := .waitingStore }

/-- The frame of a notice record is built and admitted, and the record leaves the list (R179). -/
def buildNotice (d : DescId) (x : NoticeRecord) (s : State) : State :=
  let s := admitBuilt .notice false d (frameOf s.agent.noticeDest s.agent.address 0x00 x.payload) s
  s.updAgent fun a => { a with notices := a.notices.tail }

/-- The claim of a notice job (R163): one cell. A notice job is in hand only while a record stands in the list. -/
def claimNotice (s : State) : State :=
  match s.agent.notices with
  | [] => s
  | x :: _ =>
    match s.store.agentClaim 1 with
    | none => waitForStore s
    | some (d, st) => buildNotice d x (s.updStore fun _ => st)

/-- The claim of a reply job (R163), and the execution step where it is granted (R164). -/
def claimReply (s : State) : State :=
  match s.agent.inHand with
  | none => s
  | some q =>
    let r := s.store.request q
    match s.store.agentClaim (replyCells r s.agent.replay) with
    | none => waitForStore s
    | some (d, st) => serve d r (s.updStore fun _ => st)

/-- The claim of the job in hand. -/
def claimJob (s : State) : State :=
  match s.agent.job with
  | none => s
  | some .reply => claimReply s
  | some .notice => claimNotice s

/-- The head of the inbox becomes the request in hand (R160, R162). -/
def takeRequest (s : State) : State :=
  match s.agent.inbox with
  | [] => s
  | q :: qs => s.updAgent fun a => { a with inbox := qs, inHand := some q, job := some .reply }

/-- An unanswerable request is dropped, and the builder is IDLE (R161). -/
def dropUnanswerable (s : State) : State :=
  let s := countAgent (fun k => { k with unanswerable := ctrInc k.unanswerable }) (dropRequest s)
  s.updAgent fun a => { a with builder := .idle, job := none }

/-- The request in hand can be answered (R161). -/
def handAnswerable (s : State) : Bool :=
  match s.agent.inHand with
  | none => false
  | some q => (s.store.request q).answerable

/-- A reply job is chosen (R160 to R163): one drop of an unanswerable request ends the turn (log 22). -/
def chooseReply (s : State) : State :=
  let s := takeRequest s
  if handAnswerable s then claimReply s else dropUnanswerable s

/-- A notice job is chosen (R162, R163). -/
def chooseNotice (s : State) : State := claimNotice (s.updAgent fun a => { a with job := some .notice })

/-- An IDLE builder chooses a job, if one waits (R162). -/
def chooseJob (s : State) : State :=
  match chosenJob s with
  | none => s
  | some .reply => chooseReply s
  | some .notice => chooseNotice s

/-- BUILDER_CHOOSE_JOB (R162). Not due unless the builder is IDLE (log 4). -/
def builderChooseJob (s : State) : State :=
  match s.agent.builder with
  | .idle => chooseJob s
  | .waitingStore => s
  | .executing => s

def execBuilderChooseJob (s : State) : Answer := .next (whenRunning builderChooseJob s)

/-- STORE_CLAIM_GRANTED (R163): the claim of a builder in WAITING_STORE is made again. Refused, it leaves the state as it
was (log 4, log 7). It is a command after the one that released the store, so what that one raised stands in the Notice
List already (log 28). -/
def storeClaimGranted (s : State) : State :=
  match s.agent.builder with
  | .waitingStore => claimJob s
  | .idle => s
  | .executing => s

def execStoreClaimGranted (s : State) : Answer := .next (whenRunning storeClaimGranted s)

/-! ### The execution step of a request, by its row (log 6) -/

/-- The request that the builder's next turn would execute, if its claim is granted. -/
def nextRequest (s : State) : Option DescId :=
  match s.agent.builder, chosenJob s, s.agent.job with
  | .idle, some .reply, _ => s.agent.inbox.head?
  | .waitingStore, _, some .reply => s.agent.inHand
  | _, _, _ => none

/-- The builder's next turn executes a request of this row. -/
def requestDue (k : RequestRow) (s : State) : Bool :=
  match nextRequest s with
  | none => false
  | some q =>
    let r := s.store.request q
    r.answerable && decide (r.row = some k) && (s.store.agentClaim (replyCells r s.agent.replay)).isSome

/-- The builder's next turn: its choice, or its claim made again. -/
def builderTurn (s : State) : State :=
  match s.agent.builder with
  | .idle => builderChooseJob s
  | .waitingStore => storeClaimGranted s
  | .executing => s

/-- The execution step of a request of this row. Not due otherwise (log 4). -/
def requestStep (k : RequestRow) (s : State) : State :=
  if requestDue k s then builderTurn s else s

/-- QUERY (R167). -/
def execQuery (s : State) : Answer := .next (whenRunning (requestStep .query) s)

/-- READ (R166). -/
def execRead (s : State) : Answer := .next (whenRunning (requestStep .read) s)

/-- WRITE_CLASSIFY (R146). -/
def execWriteClassify (s : State) : Answer := .next (whenRunning (requestStep .writeClassify) s)

/-- WRITE_PORT_DEFAULT (R146). -/
def execWritePortDefault (s : State) : Answer := .next (whenRunning (requestStep .writePortDefault) s)

/-- WRITE_CLASS_POLICY (R147). -/
def execWriteClassPolicy (s : State) : Answer := .next (whenRunning (requestStep .writeClassPolicy) s)

/-- WRITE_ROUTE (R154). -/
def execWriteRoute (s : State) : Answer := .next (whenRunning (requestStep .writeRoute) s)

/-- WRITE_PORT_CONFIG (R126). -/
def execWritePortConfig (s : State) : Answer := .next (whenRunning (requestStep .writePortConfig) s)

/-- WRITE_SCHEDULE_STANDBY (R58). -/
def execWriteScheduleStandby (s : State) : Answer := .next (whenRunning (requestStep .writeScheduleStandby) s)

/-- WRITE_READ_ONLY_TABLE (R59, R144). -/
def execWriteReadOnlyTable (s : State) : Answer := .next (whenRunning (requestStep .writeReadOnlyTable) s)

/-- COMMIT (R60). -/
def execCommit (s : State) : Answer := .next (whenRunning (requestStep .commit) s)

/-- ABANDON (R61). -/
def execAbandon (s : State) : Answer := .next (whenRunning (requestStep .abandon) s)

/-- SET_ALIGN (R86). -/
def execSetAlign (s : State) : Answer := .next (whenRunning (requestStep .setAlign) s)

/-- SET_GLOBAL (R169). -/
def execSetGlobal (s : State) : Answer := .next (whenRunning (requestStep .setGlobal) s)

/-- READ_COUNTERS (R180). -/
def execReadCounters (s : State) : Answer := .next (whenRunning (requestStep .readCounters) s)

/-- READ_COUNTERS_CLEAR (R181). -/
def execReadCountersClear (s : State) : Answer := .next (whenRunning (requestStep .readCountersClear) s)

/-- FLUSH_CLASS_QUEUE (R123). -/
def execFlushClassQueue (s : State) : Answer := .next (whenRunning (requestStep .flushClassQueue) s)

/-- FLUSH_DELIVERY_QUEUE (R137). -/
def execFlushDeliveryQueue (s : State) : Answer := .next (whenRunning (requestStep .flushDeliveryQueue) s)

/-- TRAFFIC_RESET (R173). -/
def execTrafficReset (s : State) : Answer := .next (whenRunning (requestStep .trafficReset) s)

end Sys2Proof.Machine
end

