-- ==== Sys2Proof/Machine/Reset.lean ====
section
/-! DEFINITION. The commands DEVICE_RESET and RESET_RELEASE (R19, R71, R73, R89, R125, R128, R141, R151, R159, R186). -/

namespace Sys2Proof.Machine

/-- DEVICE_RESET (R125, R186): the RESET pin goes low. Every block takes its reset values, every line is DOWN and no
transmitter sends. The agent address stays at the base value until the straps are sampled. -/
def execDeviceReset (s : State) : Answer := .next (State.blocksReset true 0 s.pending s.freeDraws)

/-- RESET_RELEASE (R186): the RESET pin goes high, the straps are sampled and the blocks start from their reset state. A
release of a pin that is high changes nothing (log 4). -/
def execResetRelease (straps : BitVec 4) (s : State) : Answer :=
  .next (if s.resetHeld then State.blocksReset false straps s.pending s.freeDraws else s)

end Sys2Proof.Machine
end

