-- ==== Sys2Proof/Machine/Lines.lean ====
section
/-! DEFINITION. The line receivers: line events (R2, R46, R47, R85, R105, R127), the runs of code words that make them
(R185); and the commands TRUNK_DOWN, TRUNK_UP, TRIBUTARY_DOWN and TRIBUTARY_UP. -/

namespace Sys2Proof.Machine

/-- A report of a receiver: the condition, with both runs begun again (log 12). -/
def LineRx.report (up : Bool) : LineRx := { up := up, failedRun := 0, decodedRun := 0 }

/-! ### The trunk -/

/-- What a trunk DOWN event does (R2), but for the LINE_EVENT it raises: the blocks that react, each by its own rule. The
Interleaver's descriptors are released before the contexts' (log 11). -/
def trunkFalls (s : State) : State :=
  let s := s.updTrunkRx fun _ => LineRx.report false
  let s := interleaverDown s
  let s := deinterleaverDown s
  s.updAlign Align.trunkDown

/-- A trunk DOWN event (R2). A report that repeats the condition is no event. -/
def trunkDown (s : State) : State :=
  if s.trunkRx.up then raise (.lineEvent .trunk false) (trunkFalls s) else s

/-- A trunk UP event (R2, R47): a new transmit epoch, from the stack as it stands. -/
def trunkUp (s : State) : State :=
  if s.trunkRx.up then s else raise (.lineEvent .trunk true) (s.updTrunkRx fun _ => LineRx.report true)

def execTrunkDown (s : State) : Answer := .next (whenRunning trunkDown s)

def execTrunkUp (s : State) : Answer := .next (whenRunning trunkUp s)

/-- One slot of the trunk's receiver whose word counts as decoded (R185): handled while the line is UP; while it is DOWN
nothing is handed on, and the 64th decoded word in a row makes the line UP. -/
def trunkDecoded (handle : State → State) (s : State) : State :=
  if s.trunkRx.up then (handle s).updTrunkRx fun r => { r with failedRun := 0 }
  else
    let s := s.updTrunkRx fun r => { r with decodedRun := r.decodedRun + 1 }
    if Config.upRun ≤ s.trunkRx.decodedRun then trunkUp s else s

/-- One slot of the trunk's receiver whose word fails to decode (R185): while the line is UP the word is handled, and the
16th failure in a row makes the line DOWN. What the word and the event raise goes in either order (R177; log 8). -/
def trunkFailed (s : State) : State :=
  if s.trunkRx.up then
    let t := (undecodedWord s).updTrunkRx fun r => { r with failedRun := r.failedRun + 1 }
    if Config.downRun ≤ t.trunkRx.failedRun then
      raiseAll (undecodedRaises s ++ [.lineEvent .trunk false]) (trunkFalls t)
    else raiseAll (undecodedRaises s) t
  else s.updTrunkRx fun r => { r with decodedRun := 0 }

/-! ### The tributaries -/

/-- The receiver of port p changes. -/
def updPortRx (p : PortIx) (f : LineRx → LineRx) (s : State) : State := s.updPort p fun q => { q with rx := f q.rx }

/-- What a DOWN event of tributary p does (R2, R127), but for the LINE_EVENT it raises. -/
def tributaryFalls (p : PortIx) (s : State) : State := changePort p (fun q => { q with rx := LineRx.report false }) s

/-- A DOWN event of tributary p (R2, R127). -/
def tributaryDown (p : PortIx) (s : State) : State :=
  if (s.port p).rx.up then raise (.lineEvent (.tributary p) false) (tributaryFalls p s) else s

/-- An UP event of tributary p (R2, R127). -/
def tributaryUp (p : PortIx) (s : State) : State :=
  if (s.port p).rx.up then s
  else raise (.lineEvent (.tributary p) true) (changePort p (fun q => { q with rx := LineRx.report true }) s)

def execTributaryDown (p : PortIx) (s : State) : Answer := .next (whenRunning (tributaryDown p) s)

def execTributaryUp (p : PortIx) (s : State) : Answer := .next (whenRunning (tributaryUp p) s)

/-- One slot of the receiver of tributary p whose word counts as decoded (R185). -/
def tribDecoded (p : PortIx) (y : TribSymbol) (s : State) : State :=
  if (s.port p).rx.up then updPortRx p (fun r => { r with failedRun := 0 }) (tribSymbol p y s)
  else
    let s := updPortRx p (fun r => { r with decodedRun := r.decodedRun + 1 }) s
    if Config.upRun ≤ (s.port p).rx.decodedRun then tributaryUp p s else s

/-- One slot of the receiver of tributary p whose word fails to decode (R185), handed to the framer as IDLE. What the gap
and the DOWN event raise goes in either order (R177; log 8). -/
def tribFailed (p : PortIx) (s : State) : State :=
  if (s.port p).rx.up then
    let t := updPortRx p (fun r => { r with failedRun := r.failedRun + 1 }) (idleSlot p s)
    if Config.downRun ≤ (t.port p).rx.failedRun then
      raiseAll (idleRaises p s ++ [.lineEvent (.tributary p) false]) (tributaryFalls p t)
    else raiseAll (idleRaises p s) t
  else updPortRx p (fun r => { r with decodedRun := 0 }) s

end Sys2Proof.Machine
end

