-- ==== Sys2Proof/Machine/RxCommands.lean ====
section
/-! DEFINITION. The commands that are received symbols: one slot of the trunk's receiver or of a tributary's. A symbol
counts as decoded toward the line reports of R185; a word that cannot be decoded counts by the table of 12.4. -/

namespace Sys2Proof.Machine

/-- A decoded symbol received on the trunk. -/
def trunkSymbol (y : TrunkSymbol) (s : State) : State := trunkDecoded (rxSymbol y) s

/-- RX_OPEN (R90, R91, R93). -/
def execRxOpen (c : Cls) (s : State) : Answer := .next (whenRunning (trunkSymbol (.opened c)) s)

/-- RX_RESUME (R91). -/
def execRxResume (c : Cls) (s : State) : Answer := .next (whenRunning (trunkSymbol (.resume c)) s)

/-- RX_PAUSE (R91). -/
def execRxPause (s : State) : Answer := .next (whenRunning (trunkSymbol .pause) s)

/-- RX_DATA (R94). -/
def execRxData (b : Byte) (s : State) : Answer := .next (whenRunning (trunkSymbol (.data b)) s)

/-- RX_FILL (R91). -/
def execRxFill (s : State) : Answer := .next (whenRunning (trunkSymbol .fill) s)

/-- RX_CLOSE (R99). -/
def execRxClose (s : State) : Answer := .next (whenRunning (trunkSymbol .close) s)

/-- RX_ABORT (R103). -/
def execRxAbort (s : State) : Answer := .next (whenRunning (trunkSymbol .abort) s)

/-- RX_IDLE (R91). -/
def execRxIdle (s : State) : Answer := .next (whenRunning (trunkSymbol .idle) s)

/-- RX_UNDECODABLE (R185): the word w, or none, cannot be decoded as a trunk symbol. -/
def execRxUndecodable (w : LineWord) (s : State) : Answer :=
  .next (whenRunning (if countsAsDecoded w then trunkDecoded rxUndecodable else trunkFailed) s)

/-- RX_MARK (R7, R74): the Deinterleaver passes it over, and the Alignment Unit receives it. -/
def execRxMark (s : State) : Answer :=
  .next (whenRunning (trunkDecoded fun s => markArrives (rxSymbol .mark s)) s)

/-- TRIB_RX_START (R129, R132). -/
def execTribRxStart (p : PortIx) (s : State) : Answer := .next (whenRunning (tribDecoded p .start) s)

/-- TRIB_RX_DATA (R130). -/
def execTribRxData (p : PortIx) (b : Byte) (s : State) : Answer := .next (whenRunning (tribDecoded p (.data b)) s)

/-- TRIB_RX_END (R129, R132). -/
def execTribRxEnd (p : PortIx) (s : State) : Answer := .next (whenRunning (tribDecoded p .ended) s)

/-- TRIB_RX_ABORT (R129, R132). -/
def execTribRxAbort (p : PortIx) (s : State) : Answer := .next (whenRunning (tribDecoded p .abort) s)

/-- The slot of tributary p whose word is handed on as IDLE (R133, R185). -/
def tribIdle (p : PortIx) (w : LineWord) (s : State) : State :=
  if countsAsDecoded w then tribDecoded p .idle s else tribFailed p s

/-- TRIB_RX_IDLE (R133, R185). -/
def execTribRxIdle (p : PortIx) (w : LineWord) (s : State) : Answer := .next (whenRunning (tribIdle p w) s)

/-- TRIB_RX_MARK (R8): taken away before the framer. -/
def execTribRxMark (p : PortIx) (s : State) : Answer := .next (whenRunning (tribDecoded p .mark) s)

/-- TRIBUTARY_STALL (R133): the IDLE slot in which the gap count reaches the stall limit. Not due otherwise (log 4,
log 5). -/
def tributaryStall (p : PortIx) (w : LineWord) (s : State) : State := if stallDueAt p s then tribIdle p w s else s

def execTributaryStall (p : PortIx) (w : LineWord) (s : State) : Answer := .next (whenRunning (tributaryStall p w) s)

end Sys2Proof.Machine
end

