-- ==== Sys2Proof/Machine/Dispatch.lean ====
section
/-! DEFINITION. The meaning of each command, one arm for each row of spec/opcode_table.json. -/

namespace Sys2Proof.Machine

def exec (i : Instr) (s : State) : Host.Outcome State Fault Refusal :=
  match i with
  | .deviceReset => Sys2Proof.Machine.execDeviceReset s
  | .resetRelease straps => Sys2Proof.Machine.execResetRelease straps s
  | .trunkSlot => Sys2Proof.Machine.execTrunkSlot s
  | .trunkStallLimit => Sys2Proof.Machine.execTrunkStallLimit s
  | .windowEdge => Sys2Proof.Machine.execWindowEdge s
  | .cycleWrap => Sys2Proof.Machine.execCycleWrap s
  | .missedMarkCheck => Sys2Proof.Machine.execMissedMarkCheck s
  | .trunkDown => Sys2Proof.Machine.execTrunkDown s
  | .trunkUp => Sys2Proof.Machine.execTrunkUp s
  | .tributaryDown p => Sys2Proof.Machine.execTributaryDown p s
  | .tributaryUp p => Sys2Proof.Machine.execTributaryUp p s
  | .rxOpen c => Sys2Proof.Machine.execRxOpen c s
  | .rxResume c => Sys2Proof.Machine.execRxResume c s
  | .rxPause => Sys2Proof.Machine.execRxPause s
  | .rxData b => Sys2Proof.Machine.execRxData b s
  | .rxFill => Sys2Proof.Machine.execRxFill s
  | .rxClose => Sys2Proof.Machine.execRxClose s
  | .rxAbort => Sys2Proof.Machine.execRxAbort s
  | .rxIdle => Sys2Proof.Machine.execRxIdle s
  | .rxUndecodable w => Sys2Proof.Machine.execRxUndecodable w s
  | .rxMark => Sys2Proof.Machine.execRxMark s
  | .tribRxStart p => Sys2Proof.Machine.execTribRxStart p s
  | .tribRxData p b => Sys2Proof.Machine.execTribRxData p b s
  | .tribRxEnd p => Sys2Proof.Machine.execTribRxEnd p s
  | .tribRxAbort p => Sys2Proof.Machine.execTribRxAbort p s
  | .tribRxIdle p w => Sys2Proof.Machine.execTribRxIdle p w s
  | .tribRxMark p => Sys2Proof.Machine.execTribRxMark p s
  | .tributaryStall p w => Sys2Proof.Machine.execTributaryStall p w s
  | .tribTxSlot p => Sys2Proof.Machine.execTribTxSlot p s
  | .builderChooseJob => Sys2Proof.Machine.execBuilderChooseJob s
  | .storeClaimGranted => Sys2Proof.Machine.execStoreClaimGranted s
  | .query => Sys2Proof.Machine.execQuery s
  | .read => Sys2Proof.Machine.execRead s
  | .writeClassify => Sys2Proof.Machine.execWriteClassify s
  | .writePortDefault => Sys2Proof.Machine.execWritePortDefault s
  | .writeClassPolicy => Sys2Proof.Machine.execWriteClassPolicy s
  | .writeRoute => Sys2Proof.Machine.execWriteRoute s
  | .writePortConfig => Sys2Proof.Machine.execWritePortConfig s
  | .writeScheduleStandby => Sys2Proof.Machine.execWriteScheduleStandby s
  | .writeReadOnlyTable => Sys2Proof.Machine.execWriteReadOnlyTable s
  | .commit => Sys2Proof.Machine.execCommit s
  | .abandon => Sys2Proof.Machine.execAbandon s
  | .setAlign => Sys2Proof.Machine.execSetAlign s
  | .setGlobal => Sys2Proof.Machine.execSetGlobal s
  | .readCounters => Sys2Proof.Machine.execReadCounters s
  | .readCountersClear => Sys2Proof.Machine.execReadCountersClear s
  | .flushClassQueue => Sys2Proof.Machine.execFlushClassQueue s
  | .flushDeliveryQueue => Sys2Proof.Machine.execFlushDeliveryQueue s
  | .trafficReset => Sys2Proof.Machine.execTrafficReset s
  | .drainEnd => Sys2Proof.Machine.execDrainEnd s

end Sys2Proof.Machine
end

