-- ==== Sys2Proof/Machine/Step.lean ====
section
/-! DEFINITION. One step of the block: the command at the front of the queue, or idling on an empty queue (log 1). -/

namespace Sys2Proof.Machine

/-- One step. The command leaves the queue and exec gives its effect; on an empty queue the block idles. -/
def step (s : State) : Host.Outcome State Fault Refusal :=
  match s.pending with
  | [] => .next s
  | c :: rest => exec c { s with pending := rest }

/-- The command that a word spells by the table's bits, put at the front of the queue. The rows have no bits, so the state
is unchanged. -/
def State.withFetchWord (s : State) (nbits w : Nat) : State :=
  match Sys2Proof.decodeTableWord nbits w with
  | none => s
  | some c => { s with pending := c :: s.pending }

end Sys2Proof.Machine
end

