-- ==== Sys2Proof/Safety.lean ====
section
/-! DEFINITION. What stays true of the block in every step: one predicate for each invariant the spec states. -/

namespace Sys2Proof.Machine

/-! ### The two stacks (R10, R15, R16, R21, R88, R89) -/

/-- An entry of the Preemption Stack as the nesting grammar sees it (R10, R16). -/
def StackEntry.view (e : StackEntry) : OpenFrame :=
  { cls := e.cls, state := if e.isActive then .active else .suspended }

/-- The Preemption Stack as an open-frame list, top first. -/
def State.openFrames (s : State) : List OpenFrame := s.il.stack.map StackEntry.view

/-- The Preemption Stack obeys the two laws of the open-frame list (R15, R16). -/
def TransmitStackOk (s : State) : Prop := stackLawful s.openFrames = true

/-- Class c is on the Reassembly Stack (R88). -/
def rxOpenClass (s : State) (c : Cls) : Bool := s.rx.stack.any fun f => decide (f.cls = c)

/-- The Reassembly Stack obeys the two laws (R88) and is empty in RESYNC (R90); a context off the stack is CLOSED, and a
context on it has storage exactly when its disposition is no DISCARD (R89, R93, R98). -/
def ReceiveStackOk (s : State) : Prop :=
  stackLawful s.rx.stack = true ∧ (s.rx.mode = .resync → s.rx.stack = []) ∧
    ∀ c : Cls,
      if rxOpenClass s c then (s.context c).storage.isSome = !(s.context c).disposition.isDiscard
      else s.context c = Context.closed

/-! ### The schedule and the alignment (R49 to R52, R63, R73, R83) -/

/-- The active bank is valid and the counter runs below its L (R49, R51); the window in force is the one of the counter's
value (R52); a pending commit has a valid standby bank (R60, R63); a slot that came by the wrap holds 0 (R54). -/
def ScheduleOk (s : State) : Prop :=
  s.sched.activeBank.valid = true ∧ s.sched.counter < s.sched.activeBank.length ∧
    s.sched.window = s.sched.activeBank.windowFor s.sched.counter ∧
      (s.sched.commit = .pending → s.sched.standbyBank.valid = true) ∧ (s.sched.slotByWrap = true → s.sched.counter = 0)

/-- Mode and state agree (R73, R86); the miss count by R83; the expect flag stands only in LOCKED (R81); W is 1 to 255. -/
def AlignOk (s : State) : Prop :=
  (s.align.mode = .free ↔ s.align.state = .free) ∧ (s.align.expect = true → s.align.state = .locked) ∧
    (match s.align.state with
      | .free => s.align.miss = 0
      | .seeking => s.align.miss = 0
      | .locked => s.align.miss < Config.missLimit
      | .holdover => s.align.miss = Config.missLimit) ∧
      1 ≤ s.align.width ∧ s.align.width ≤ 255

/-! ### Lines and ports (R127, R185) -/

/-- The runs of a receiver stand below the lengths that make a report (R185). -/
def LineRx.ok (r : LineRx) : Bool :=
  if r.up then decide (r.failedRun < Config.downRun) && decide (r.decodedRun = 0)
  else decide (r.failedRun = 0) && decide (r.decodedRun < Config.upRun)

def LinesOk (s : State) : Prop := s.trunkRx.ok = true ∧ ∀ p : PortIx, (s.port p).rx.ok = true

/-- A port that is not serving has no frame in reception, nothing to deliver, nothing in sending and no mark pending
(R127, R128, R136, R138, R139); a delivery queue holds at most 32 frames (R136). -/
def PortsOk (s : State) : Prop :=
  ∀ p : PortIx,
    ((s.port p).serving = false →
      (s.framer p).state = .idle ∧ (s.framer p).desc = none ∧ (s.framer p).gap = 0 ∧ (s.port p).delivery = [] ∧
        (s.port p).sending = none ∧ (s.port p).markPending = false ∧ (s.port p).displaced = none) ∧
      (s.port p).delivery.length ≤ Config.deliveryLimit

/-! ### Memory, routes and the Agent (R108, R151, R162, R171, R176) -/

/-- The cells' contents keep their canonical form. -/
def MemoryOk (s : State) : Prop := Memory.wf s.store.cells = true

/-- No two valid routes hold one address, and none holds 0x0000, 0xFFFF or the agent address (R151), which itself is
neither 0x0000 nor 0xFFFF (R159). -/
def RoutesOk (s : State) : Prop :=
  (routeAddresses s.routes).Nodup ∧ (∀ a ∈ routeAddresses s.routes, a ≠ 0x0000 ∧ a ≠ 0xFFFF ∧ a ≠ s.agent.address) ∧
    s.agent.address ≠ 0x0000 ∧ s.agent.address ≠ 0xFFFF

/-- The Notice List holds at most one record of each kind (R176). -/
def NoticesOk (s : State) : Prop := (s.agent.notices.map fun r => r.first.kind).Nodup

/-- The Replay Table holds at most one entry for each requester, and at most four (R171, R172); the inbox holds at most
four requests (R160). -/
def ReplayOk (s : State) : Prop :=
  (s.agent.replay.map ReplayEntry.requester).Nodup ∧ s.agent.replay.length ≤ Config.replayLimit ∧
    s.agent.inbox.length ≤ Config.inboxLimit

/-- The builder and the drain (R41 to R46, R162, R174): the builder is EXECUTING exactly while the drain flag is set, and
exactly while a reply is owed; the stack then holds an entry; it is empty while the trunk is DOWN; an IDLE builder has
nothing in hand, and one in WAITING_STORE has a job, with a request in hand exactly for a REPLY. -/
def BuilderOk (s : State) : Prop :=
  (s.agent.builder = .executing ↔ s.il.drain = true) ∧ (s.agent.builder = .executing ↔ s.agent.owed.isSome = true) ∧
    (s.il.drain = true → s.il.stack ≠ []) ∧ (s.trunkRx.up = false → s.il.stack = []) ∧
      (match s.agent.builder with
        | .idle => s.agent.job = none ∧ s.agent.inHand = none
        | .waitingStore => s.agent.job.isSome = true ∧ (s.agent.job = some .reply ↔ s.agent.inHand.isSome = true)
        | .executing => s.agent.job = some .reply ∧ s.agent.inHand = none)

/-! ### The Frame Store (R108, R109, R111, R119, R120) -/

/-- The number of holders of a reference to d: class queues, Preemption Stack entries, delivery queues, transmitters, the
Agent Inbox and the request in hand (R119). -/
def State.holders (s : State) (d : DescId) : Nat :=
  (∑ c : Cls, (s.store.queue c).count d) + (s.il.stack.map StackEntry.desc).count d +
    (∑ p : PortIx, ((s.port p).delivery.count d +
      (s.port p).sending.elim 0 fun x => if x.desc = d then 1 else 0)) +
    s.agent.inbox.count d + (if s.agent.inHand = some d then 1 else 0)

/-- The Frame Store and its users agree. -/
structure StoreOk (s : State) : Prop where
  /-- A descriptor is on the free list exactly while it is FREE (R111, R119), once. -/
  freeList : ∀ d, d ∈ s.store.freeDescs ↔ (s.store.desc d).state = .free
  freeNodup : s.store.freeDescs.Nodup
  /-- A FREE descriptor has no field in use (R109). -/
  unused : ∀ d, (s.store.desc d).state = .free → s.store.desc d = Descriptor.unused
  /-- The reference count is the number of holders (R119). -/
  refs : ∀ d, (s.store.desc d).refs = s.holders d
  /-- A descriptor that is neither FREE nor FILLING has a holder (R119). -/
  held : ∀ d, FrameStore.ended (s.store.desc d).state = true → (s.store.desc d).refs ≠ 0
  /-- A frame in class queue c has class c, and stands there once (R109, R120). -/
  queued : ∀ c, ∀ d ∈ s.store.queue c, (s.store.desc d).cls = some c
  queueNodup : ∀ c, (s.store.queue c).Nodup
  /-- The frame that the Interleaver holds for is COMPLETE and waits in a class queue (R43, R44). -/
  heldReply : ∀ h, s.il.hold = some h → (s.store.desc h).state = .complete ∧ ∃ c, h ∈ s.store.queue c
  /-- A framer in HEADER or BODY has a FILLING descriptor of its port, with the cells that its bytes fill (R113); in HEADER
  no holder has it, and in BODY it has its header's seven bytes (R128, R131). -/
  framer : ∀ p, (s.framer p).receiving = (s.framer p).desc.isSome
  framed : ∀ p d, (s.framer p).desc = some d → (s.store.desc d).state = .filling ∧
    (s.store.desc d).origin = some (.tributary p) ∧ (s.store.desc d).chain.length = cellsFor (s.store.desc d).stored ∧
    ((s.framer p).state = .header → (s.store.desc d).refs = 0 ∧ (s.store.desc d).cls = none) ∧
    ((s.framer p).state = .body → 7 ≤ (s.store.desc d).stored)
  /-- A context's storage is FILLING, of origin TRUNK, and no holder or other context has it (R89, R93). -/
  stored : ∀ c d, (s.context c).storage = some d → (s.store.desc d).state = .filling ∧
    (s.store.desc d).origin = some .trunk ∧ (s.store.desc d).refs = 0 ∧ (s.store.desc d).cls = none
  storedOnce : ∀ c c' d, (s.context c).storage = some d → (s.context c').storage = some d → c = c'
  /-- The descriptor claimed for an owed reply is FILLING, of origin AGENT, with no holder, and has the one cell that the
  reply's 14 bytes fill (R124, R163). -/
  owed : ∀ r, s.agent.owed = some r → (s.store.desc r.desc).state = .filling ∧
    (s.store.desc r.desc).origin = some .agent ∧ (s.store.desc r.desc).refs = 0 ∧
    (s.store.desc r.desc).cls = none ∧ (s.store.desc r.desc).chain.length = 1
  /-- A cell is either on the free cell list or on the chain of exactly one descriptor (R108). -/
  cells : ∀ k : CellId, s.store.freeCells.count k + ∑ d : DescId, (s.store.desc d).chain.count k = 1

end Sys2Proof.Machine
end

