-- ==== Sys2Proof/WellFormed.lean ====
section
/-! DEFINITION. Which commands are well formed. Classes, ports and strap values are bounded by their types; what is left
is the code word that RX_UNDECODABLE, TRIB_RX_IDLE and TRIBUTARY_STALL carry (R185). -/

namespace Sys2Proof

/-- The word of an undecodable trunk slot is none, or is not marked for the trunk (R185). -/
def undecodableOnTrunk (w : LineWord) : Bool := (w.bind trunkSymbolOf).isNone

/-- The word of a tributary slot handed on as IDLE: none, the IDLE code word, or one not marked for tributaries
(R185). -/
def handedOnAsIdle (w : LineWord) : Bool :=
  match w.bind tribSymbolOf with
  | none => true
  | some y => y == .idle

/-- A well-formed command. -/
def WellFormed : Instr → Bool
  | .rxUndecodable w => undecodableOnTrunk w
  | .tribRxIdle _ w => handedOnAsIdle w
  | .tributaryStall _ w => handedOnAsIdle w
  | .deviceReset => true
  | .resetRelease _ => true
  | .trunkSlot => true
  | .trunkStallLimit => true
  | .windowEdge => true
  | .cycleWrap => true
  | .missedMarkCheck => true
  | .trunkDown => true
  | .trunkUp => true
  | .tributaryDown _ => true
  | .tributaryUp _ => true
  | .rxOpen _ => true
  | .rxResume _ => true
  | .rxPause => true
  | .rxData _ => true
  | .rxFill => true
  | .rxClose => true
  | .rxAbort => true
  | .rxIdle => true
  | .rxMark => true
  | .tribRxStart _ => true
  | .tribRxData _ _ => true
  | .tribRxEnd _ => true
  | .tribRxAbort _ => true
  | .tribRxMark _ => true
  | .tribTxSlot _ => true
  | .builderChooseJob => true
  | .storeClaimGranted => true
  | .query => true
  | .read => true
  | .writeClassify => true
  | .writePortDefault => true
  | .writeClassPolicy => true
  | .writeRoute => true
  | .writePortConfig => true
  | .writeScheduleStandby => true
  | .writeReadOnlyTable => true
  | .commit => true
  | .abandon => true
  | .setAlign => true
  | .setGlobal => true
  | .readCounters => true
  | .readCountersClear => true
  | .flushClassQueue => true
  | .flushDeliveryQueue => true
  | .trafficReset => true
  | .drainEnd => true

end Sys2Proof
end

