-- ==== Sys2Proof/Certificates/Slice0/Obligations.lean ====
section
/-! DEFINITION. The statements for the provers, with the conditions on a state that they share. -/

namespace Sys2Proof.Machine

/-! ### Conditions the statements share -/

/-- The RESET pin is high and the trunk is UP. -/
def TrunkUp (s : State) : Prop := s.resetHeld = false ∧ s.trunkRx.up = true

/-- The RESET pin is high and port p is serving (R127). -/
def Serving (p : PortIx) (s : State) : Prop := s.resetHeld = false ∧ (s.port p).serving = true

/-- A word has been handled on the trunk: its run of failures is over (R185). -/
def heard (s : State) : State := s.updTrunkRx fun r => { r with failedRun := 0 }

/-- A word has been handled on tributary p. -/
def heardAt (p : PortIx) (s : State) : State := updPortRx p (fun r => { r with failedRun := 0 }) s

/-- The slot to be decided stands begun, with the trunk UP, no missed-mark check due and no gate overrun in it: the
decision of R20 is all that the slot holds. -/
def PlainSlot (s : State) : Prop :=
  TrunkUp s ∧ s.sched.slotBegun = true ∧ missedDue s = false ∧ overrunClass s = none

/-- The slot is over. -/
def slotDone (s : State) : State := s.updSched fun c => { c with slotBegun := false }

/-- The ACTIVE top e goes on (R20, steps 5c to 5e), in the state t that UNFIT discards of classes us have left (R24, R67):
it is not FAILED, and either it may not be preempted or paused, so that the arbiter is not asked, or the arbiter names
nothing while its class is open. -/
def GoesOn (e : StackEntry) (us : List Cls) (s t : State) : Prop :=
  e.isActive = true ∧ frameFailed s e.desc = false ∧
    (((e.preemptible && limitsHold s e) = false ∧ us = [] ∧ t = s) ∨
      ((e.preemptible && limitsHold s e) = true ∧ arbiter s = (t, us, none) ∧ isOpen s e.cls = true))

/-- The slot is over, and the notices es that it raised have been taken, in a free order (R177; log 8). -/
def slotEnds (es : List Notice) (s : State) : State := raiseAll es (slotDone s)

/-- The entry that an OPEN of the candidate pushes (R26). -/
def openedEntry (x : Candidate) (s : State) : StackEntry :=
  { desc := x.desc, cls := x.cls, state := .active, emitted := 0, fragment := 0, starve := 0,
    preemptible := (vget s.policy x.cls).preemptible, fitChecked := x.fitChecked }

/-- d is the head of class c and eligible (R23). -/
def EligibleHead (c : Cls) (d : DescId) (s : State) : Prop :=
  (s.store.queue c).head? = some d ∧ isOpen s c = true ∧ nests s c = true ∧ ready (s.store.desc d) = true ∧
    ((vget s.policy c).preemptible = true ∨ fitCheck c ((s.store.desc d).frameBytes - 9) s = .fits) ∧
    (s.il.hold = none ∨ s.il.hold = some d)

/-- No head that a fit check could meet is too long for its open run (R65, R67). -/
def NoUnfitHead (s : State) : Prop :=
  ∀ (c : Cls) (d : DescId), (s.store.queue c).head? = some d → isOpen s c = true →
    (vget s.policy c).preemptible = false → fitCheck c ((s.store.desc d).frameBytes - 9) s ≠ .unfit

/-- A word that counts as decoded, or not, has been handled on tributary p, and makes no report (R185). -/
def wordHeardAt (p : PortIx) (decoded : Bool) (s : State) : State :=
  updPortRx p (fun r => { r with failedRun := if decoded then 0 else r.failedRun + 1 }) s

/-- The word makes no DOWN report of tributary p. -/
def NoReport (p : PortIx) (decoded : Bool) (s : State) : Prop :=
  decoded = true ∨ (s.port p).rx.failedRun + 1 < Config.downRun

/-- The fields of a descriptor at its take (R112), with the cells it is given. -/
def freshDescriptor (o : Origin) (chain : List CellId) : Descriptor :=
  { state := .filling, origin := some o, cls := none, cutThrough := false, header := none, stored := 0, chain := chain,
    refs := 0 }

/-- What one trunk symbol received does not touch: the transmit side, the schedule, the ports and the tables. -/
def RxOnly (s t : State) : Prop :=
  t.il = s.il ∧ t.trunkTx = s.trunkTx ∧ t.sched = s.sched ∧ t.align = s.align ∧ t.classifier = s.classifier ∧
    t.policy = s.policy ∧ t.routes = s.routes ∧ t.store.queues = s.store.queues

/-- The command that is the execution step of a request of a row. -/
def RequestRow.command : RequestRow → Instr
  | .query => .query
  | .read => .read
  | .writeClassify => .writeClassify
  | .writePortDefault => .writePortDefault
  | .writeClassPolicy => .writeClassPolicy
  | .writeRoute => .writeRoute
  | .writePortConfig => .writePortConfig
  | .writeScheduleStandby => .writeScheduleStandby
  | .writeReadOnlyTable => .writeReadOnlyTable
  | .commit => .commit
  | .abandon => .abandon
  | .setAlign => .setAlign
  | .setGlobal => .setGlobal
  | .readCounters => .readCounters
  | .readCountersClear => .readCountersClear
  | .flushClassQueue => .flushClassQueue
  | .flushDeliveryQueue => .flushDeliveryQueue
  | .trafficReset => .trafficReset

/-- The IDLE builder's next job is the request r, answerable, in the descriptor q at the head of the inbox, and its claim
of d is granted (R161 to R164). -/
structure RequestTaken (q d : DescId) (qs : List DescId) (r : Request) (s : State) : Prop where
  running : s.resetHeld = false
  idle : s.agent.builder = .idle
  chosen : chosenJob s = some .reply
  inbox : s.agent.inbox = q :: qs
  request : s.store.request q = r
  answerable : r.answerable = true
  claim : (s.store.agentClaim (replyCells r s.agent.replay)).map Prod.fst = some d

/-- So is it, and it is a request of row k. -/
structure RequestReady (k : RequestRow) (q d : DescId) (qs : List DescId) (r : Request) (s : State) : Prop
    extends RequestTaken q d qs r s where
  row : r.row = some k

/-- The request is no replay (R171). -/
def Fresh (r : Request) (s : State) : Prop := replayEntry r s.agent.replay = none

/-- The reply built in d is COMPLETE at the tail of the class queue of the management class, and the builder is IDLE with
nothing in hand, its last built a REPLY (R162, R164). -/
structure Replied (d : DescId) (qs : List DescId) (s t : State) : Prop where
  complete : (t.store.desc d).state = .complete
  tail : ∃ l, mgmtQueue t = l ++ [d]
  inbox : t.agent.inbox = qs
  inHand : t.agent.inHand = none
  idle : t.agent.builder = .idle
  lastBuilt : t.agent.lastBuilt = .reply

/-- The state in which a fresh request is executed (R163, R164): its reply's descriptor is claimed, which leaves the store
st, and the request q has left the inbox and the Agent's hand, its reference dropped. -/
def atExecution (q : DescId) (qs : List DescId) (st : FrameStore) (s : State) : State :=
  { s with store := st.dropRef q, agent := { s.agent with inbox := qs, inHand := none, job := some .reply } }

/-- A field of k bytes, high byte first (R3). -/
def bytesOf (k n : Nat) : List Byte := (List.range k).map fun i => BitVec.ofNat 8 (n / 256 ^ (k - 1 - i))

/-- One bit of a byte fed to the check register (R4): the generator polynomial is 0x1021. -/
def crcStep (r : BitVec 16) (x : Bool) : BitVec 16 := if r.msb != x then (r <<< 1) ^^^ 0x1021 else r <<< 1

/-- Entry i of a table, which holds x, after the entries es are written from index k upward (R166). -/
def written {α : Type} (k : Nat) (es : List α) (i : Nat) (x : α) : α :=
  if k ≤ i ∧ i < k + es.length then es.getD (i - k) x else x

/-- es are the COUNT entries of a WRITE, each of its size in bytes and decoded by f at its place in the WRITE. -/
def EntriesAre {α : Type} (r : Request) (size : Nat) (f : Nat → List Byte → Option α) (es : List α) : Prop :=
  es.length = r.count ∧ ∀ j x, es[j]? = some x → f j ((r.params.drop (j * size)).take size) = some x

/-- The Route Table as it would stand after a WRITE of es (R154). -/
def routesAfter (r : Request) (es : List Route) (s : State) (i : Fin 64) : Route :=
  written r.index es i.val (vget s.routes i)

/-- Two valid entries hold one address (R154). -/
def SameAddressTwice (v : Fin 64 → Route) : Prop :=
  ∃ i j, i ≠ j ∧ (v i).valid = true ∧ (v j).valid = true ∧ (v i).address = (v j).address

/-- A slot of the trunk's receiver whose word counts as decoded (R185). -/
def DecodedOnTrunk (i : Instr) : Prop :=
  (∃ y, i = rxCommand y) ∨ ∃ w, countsAsDecoded w = true ∧ i = .rxUndecodable w

/-- A slot of the receiver of tributary p whose word counts as decoded (R185). -/
def DecodedAt (p : PortIx) (i : Instr) : Prop :=
  i = .tribRxStart p ∨ i = .tribRxEnd p ∨ i = .tribRxAbort p ∨ i = .tribRxMark p ∨ (∃ b, i = .tribRxData p b) ∨
    ∃ w, countsAsDecoded w = true ∧ i = .tribRxIdle p w

/-- The state v, but for the order in which the notices of one step have been taken: those es, from the Notice List of s
(R177; log 8). -/
def ButForRaises (es : List Notice) (s v t : State) : Prop :=
  t = { v with freeDraws := t.freeDraws, agent := { v.agent with notices := t.agent.notices } } ∧
    t.agent.notices = (raiseAll es s).agent.notices

/-- The frame in d has the bytes given, byte for byte. -/
def FrameIs (d : DescId) (bytes : List Byte) (st : FrameStore) : Prop :=
  (st.desc d).frameBytes = bytes.length ∧ ∀ i, i < bytes.length → st.readByte d (i + 1) = bytes.getD i 0

/-- A notice frame's payload, as 12.3 lays it out. -/
def noticePayload (x : NoticeRecord) : List Byte :=
  [0x00, 0x00, 0xFF,
    (match x.first with
      | .stallAbort _ => 0x01
      | .trunkGrammar => 0x02
      | .storeExhausted => 0x03
      | .alignLost => 0x04
      | .alignRegained => 0x05
      | .commitDone _ => 0x06
      | .gateOverrun _ => 0x07
      | .unfitDrop _ => 0x08
      | .lineEvent _ _ => 0x09),
    BitVec.ofNat 8 (x.count.toNat / 256), BitVec.ofNat 8 x.count.toNat,
    (match x.first with
      | .stallAbort (.tributary p) => BitVec.ofNat 8 p.val
      | .stallAbort .trunk => 0x04
      | .commitDone .a => 0x00
      | .commitDone .b => 0x01
      | .gateOverrun c => BitVec.ofNat 8 c.val
      | .unfitDrop c => BitVec.ofNat 8 c.val
      | .lineEvent (.tributary p) false => BitVec.ofNat 8 p.val
      | .lineEvent .trunk false => 0x04
      | .lineEvent (.tributary p) true => BitVec.ofNat 8 (0x80 + p.val)
      | .lineEvent .trunk true => 0x84
      | .trunkGrammar => 0x00
      | .storeExhausted => 0x00
      | .alignLost => 0x00
      | .alignRegained => 0x00)] ++ bytesOf 3 x.counter

/-- The entries of the tables as 12.2 lays them out. -/
def layoutAction : Action → Byte
  | .forward c => BitVec.ofNat 8 c.val
  | .drop => 0x80

def layoutFlag (b : Bool) : Byte := if b then 0x01 else 0x00

def layoutClassEntry (e : ClassEntry) : List Byte :=
  [BitVec.ofNat 8 ((if e.valid then 128 else 0) + e.ports.toNat), e.tagValue, e.tagMask, layoutFlag e.srcMatch] ++
    bytesOf 2 e.srcValue.toNat ++ [layoutAction e.action]

def layoutPortConfig (x : PortConfig) : List Byte :=
  BitVec.ofNat 8 ((if x.enabled then 1 else 0) + (if x.markForwarding then 2 else 0)) :: bytesOf 2 x.stallLimit

/-- Entry i of a schedule table: L and n, or window i - 1. -/
def layoutSchedule (k : Bank) (i : Nat) : List Byte :=
  if i = 0 then bytesOf 3 k.length ++ bytesOf 1 k.count
  else bytesOf 3 (k.window (i - 1)).offset ++ bytesOf 1 (k.window (i - 1)).openSet.toNat

/-- Entry i of a table in the bytes of its layout. -/
def layoutEntry (s : State) : TableId → Nat → List Byte
  | .classify, i => if h : i < 32 then layoutClassEntry (vget s.classifier.entries ⟨i, h⟩) else []
  | .portDefault, i => if h : i < 4 then [layoutAction (vget s.classifier.defaults ⟨i, h⟩)] else []
  | .classPolicy, i =>
    if h : i < 6 then
      let e := vget s.policy ⟨i, h⟩
      [layoutFlag e.preemptible, layoutFlag e.cutThrough] ++ bytesOf 1 e.queueLimit
    else []
  | .route, i =>
    if h : i < 64 then
      let e := vget s.routes ⟨i, h⟩
      [layoutFlag e.valid] ++ bytesOf 2 e.address.toNat ++ bytesOf 1 e.port.val
    else []
  | .portConfig, i => if h : i < 4 then layoutPortConfig (s.port ⟨i, h⟩).config else []
  | .scheduleActive, i => layoutSchedule s.sched.activeBank i
  | .scheduleStandby, i => layoutSchedule s.sched.standbyBank i
  | .hits, i => if h : i < 32 then bytesOf 4 (vget s.classifier.entries ⟨i, h⟩).hits.toNat else []

/-- The 90 counters in the order of 12.3. -/
def counterOrder (s : State) : List Ctr :=
  let forClasses (v : Vector Ctr 6) : List Ctr := (List.finRange 6).map (vget v)
  let il := s.il.counters
  let al := s.align.counters
  let rx := s.rx.counters
  let ag := s.agent.counters
  forClasses il.sent ++ forClasses il.aborted ++ forClasses il.preempted ++ forClasses il.gateSuspended ++
    forClasses il.overruns ++ forClasses s.sched.unfit ++
    [al.acquired, al.onTime, al.early, al.late, al.misaligned, al.missed] ++
    [rx.accepted, rx.crcErrors, rx.lengthErrors, rx.unrouted, rx.noStore, rx.violations] ++
    (List.finRange 4).flatMap (fun p =>
      let k := (s.port p).counters
      [k.received, k.droppedByClass, k.discarded, k.failedFormat, k.failedStation, k.failedStore, k.failedOther,
        k.delivered, k.refused]) ++
    [ag.executed, ag.refused, ag.replays, ag.unanswerable, ag.overflows, ag.droppedByReset]

end Sys2Proof.Machine

open Sys2Proof Sys2Proof.Machine

/-! ### The queue of commands -/

def Obligations.StepRunsFrontCommand : Prop :=
  ∀ (c : Instr) (rest : List Instr) (s : State), step { s with pending := c :: rest } = exec c { s with pending := rest }

def Obligations.IdleOrOneCommand : Prop :=
  (∀ s : State, s.pending = [] → step s = .next s) ∧
  (∀ (c : Instr) (s : State), ∃ t, exec c s = .next t ∧ t.pending = s.pending ∧ s.freeDraws ≤ t.freeDraws)

def Obligations.CodeWordsSpellTheirCommands : Prop :=
  (∀ y, trunkSymbolOf (trunkCode y) = some y) ∧ (∀ y, tribSymbolOf (tribCode y) = some y) ∧
    ∀ (i : Instr) (w : Option PortIx × LineWord), WellFormed i = true → receivedSlot i = some w → commandOfSlot w = i

/-! ### Reset -/

def Obligations.ResetTakesAndReleases : Prop :=
  (∀ s : State, ∃ t, exec .deviceReset s = .next t ∧ t.resetHeld = true ∧ t.trunkTx = none ∧ t.trunkRx.up = false ∧
      (∀ p, (t.port p).rx.up = false ∧ (t.port p).txLine = none ∧
        (t.port p).config = { enabled := true, markForwarding := false, stallLimit := 2048 } ∧
        (t.port p).framer.state = .idle ∧ (t.port p).framer.desc = none ∧ (t.port p).framer.gap = 0 ∧
        (t.port p).delivery = [] ∧ (t.port p).sending = none ∧ (t.port p).markPending = false ∧
        (t.port p).displaced = none ∧
        (t.port p).counters =
          { received := 0, droppedByClass := 0, discarded := 0, failedFormat := 0, failedStation := 0, failedStore := 0,
            failedOther := 0, delivered := 0, refused := 0 }) ∧
      (t.il.stack = [] ∧ t.il.drain = false ∧ t.il.hold = none ∧ ∀ c, vget t.il.counters.sent c = 0 ∧
        vget t.il.counters.aborted c = 0 ∧ vget t.il.counters.preempted c = 0 ∧
        vget t.il.counters.gateSuspended c = 0 ∧ vget t.il.counters.overruns c = 0) ∧
      (t.sched.counter = 0 ∧ t.sched.active = .a ∧ t.sched.window = 0 ∧ t.sched.openBefore = 0x3F ∧
        t.sched.commit = .idle ∧ (∀ c, vget t.sched.unfit c = 0) ∧
        ∀ k : BankId, (t.sched.bank k).length = 1000000 ∧ (t.sched.bank k).count = 1 ∧
          (t.sched.bank k).window 0 = { offset := 0, openSet := 0x3F } ∧
          ∀ i, 1 ≤ i → i ≤ 15 → (t.sched.bank k).window i = { offset := 0, openSet := 0 }) ∧
      t.align =
        { mode := .free, state := .free, width := 16, miss := 0, expect := false,
          counters := { acquired := 0, onTime := 0, early := 0, late := 0, misaligned := 0, missed := 0 } } ∧
      (t.rx.mode = .resync ∧ t.rx.stack = [] ∧ (∀ c, t.context c = Context.closed) ∧
        t.rx.counters =
          { accepted := 0, crcErrors := 0, lengthErrors := 0, unrouted := 0, noStore := 0, violations := 0 }) ∧
      (∀ d, t.store.desc d = Descriptor.unused) ∧ t.store.freeCells = List.finRange 512 ∧
      t.store.freeDescs = List.finRange 128 ∧ (∀ c, t.store.queue c = []) ∧
      (∀ i, vget t.classifier.entries i =
        { valid := false, ports := 0, tagValue := 0, tagMask := 0, srcMatch := false, srcValue := 0, action := .drop,
          hits := 0 }) ∧
      (∀ p, vget t.classifier.defaults p = .forward 5) ∧
      (∀ c, vget t.policy c = { preemptible := decide (c ≠ 0), cutThrough := false, queueLimit := 32 }) ∧
      (∀ i, vget t.routes i = { valid := false, address := 0, port := 0 }) ∧
      (t.agent.mgmtClass = 1 ∧ t.agent.noticeDest = 0x0000 ∧ t.agent.noticeMask = 0x1FF ∧ t.agent.stallLimit = 1024 ∧
        t.agent.inbox = [] ∧ t.agent.inHand = none ∧ t.agent.builder = .idle ∧ t.agent.job = none ∧
        t.agent.lastBuilt = .notice ∧ t.agent.owed = none ∧ t.agent.replay = [] ∧ t.agent.notices = [] ∧
        t.agent.counters =
          { executed := 0, refused := 0, replays := 0, unanswerable := 0, overflows := 0, droppedByReset := 0 })) ∧
  (∀ (k : BitVec 4) (s : State), s.resetHeld = true → ∃ t u, exec (.resetRelease k) s = .next t ∧
      exec .deviceReset s = .next u ∧ t.resetHeld = false ∧ t.agent = { u.agent with address := (0xFE00 + k.setWidth 16) } ∧
      t.trunkTx = some .idle ∧ (∀ p, t.port p = { u.port p with txLine := some .idle }) ∧ t.trunkRx = u.trunkRx ∧
      t.il = u.il ∧ t.sched = u.sched ∧ t.align = u.align ∧ t.rx = u.rx ∧ t.store = u.store ∧
      t.classifier = u.classifier ∧ t.policy = u.policy ∧ t.routes = u.routes) ∧
  (∀ (c : Instr) (s : State), s.resetHeld = true → c ≠ .deviceReset → (∀ k, c ≠ .resetRelease k) → exec c s = .next s)

def Obligations.ResetStateIsSafe : Prop :=
  TransmitStackOk State.reset ∧ ReceiveStackOk State.reset ∧ ScheduleOk State.reset ∧ AlignOk State.reset ∧
    LinesOk State.reset ∧ PortsOk State.reset ∧ MemoryOk State.reset ∧ RoutesOk State.reset ∧ NoticesOk State.reset ∧
    ReplayOk State.reset ∧ BuilderOk State.reset ∧ StoreOk State.reset

/-! ### The trunk slot (chapter 2) -/

def Obligations.SlotsOfTheCounter : Prop :=
  (∀ s : State, s.resetHeld = false → s.trunkRx.up = false → s.align.state ≠ .locked → s.sched.slotBegun = false →
      s.sched.counter + 1 < s.sched.activeBank.length →
      exec .trunkSlot s = .next { s with
        trunkTx := some .idle
        sched := { s.sched with
          counter := s.sched.counter + 1
          window := s.sched.activeBank.windowFor (s.sched.counter + 1)
          openBefore := s.sched.openSet
          slotBegun := false
          slotByWrap := false
          slotWidth := s.align.width } }) ∧
  (∀ (k : Nat) (s : State), s.resetHeld = false → s.sched.slotBegun = false → s.sched.activeBank.valid = true →
      1 ≤ k → k < s.sched.activeBank.count → (s.sched.activeBank.window k).offset = s.sched.counter + 1 →
      exec .windowEdge s = .next { s with sched := { s.sched with
        counter := s.sched.counter + 1
        window := k
        openBefore := s.sched.openSet
        slotBegun := true
        slotByWrap := false
        slotWidth := s.align.width } }) ∧
  (∀ s : State, s.resetHeld = false → s.sched.slotBegun = false → s.sched.activeBank.length ≤ s.sched.counter + 1 →
      ∃ t, exec .cycleWrap s = .next t ∧
        t.sched = { s.sched with
          counter := 0
          active := if s.sched.commit = .pending then s.sched.active.other else s.sched.active
          commit := .idle
          window := 0
          openBefore := s.sched.openSet
          slotBegun := true
          slotByWrap := true
          slotWidth := s.align.width } ∧
        (∀ p, t.port p = if (s.port p).config.markForwarding ∧ (s.port p).serving then
          { s.port p with markPending := true } else s.port p) ∧
        t.align = { s.align with expect := decide (s.align.state = .locked) } ∧
        (s.sched.commit = .idle → t.agent = s.agent) ∧
        (s.sched.commit = .pending →
          t.agent = (raise (.commitDone s.sched.active.other) { s with sched := { s.sched with counter := 0 } }).agent) ∧
        t.il = s.il ∧ t.store = s.store ∧ t.rx = s.rx ∧ t.classifier = s.classifier ∧ t.policy = s.policy ∧
        t.routes = s.routes) ∧
  (∀ s : State, s.resetHeld = false →
      (let u := missedCheck (beginSlot s)
       exec .trunkSlot u = .next (raiseAll (decideSlot u).2 (decideSlot u).1) ∧
        exec .trunkSlot s =
          .next (raiseAll (beginRaises s ++ missedRaises (beginSlot s) ++ (decideSlot u).2) (decideSlot u).1) ∧
        u.sched.slotBegun = true ∧ missedDue u = false) ∧
      (s.sched.slotBegun = true → beginSlot s = s ∧ beginRaises s = []) ∧
      (s.sched.slotBegun = false → s.sched.activeBank.length ≤ s.sched.counter + 1 →
        exec .cycleWrap s = .next (raiseAll (beginRaises s) (beginSlot s)) ∧
          beginRaises s = if s.sched.commit = .pending then [.commitDone s.sched.active.other] else []) ∧
      (s.sched.slotBegun = false → s.sched.counter + 1 < s.sched.activeBank.length → beginRaises s = [] ∧
        beginSlot s = { s with sched := { s.sched with
          counter := s.sched.counter + 1
          window := s.sched.activeBank.windowFor (s.sched.counter + 1)
          openBefore := s.sched.openSet
          slotBegun := true
          slotByWrap := false
          slotWidth := s.align.width } }))

def Obligations.ActiveTopContinues : Prop :=
  ∀ (e : StackEntry) (es : List StackEntry) (us : List Cls) (s t : State), PlainSlot s → s.il.drain = false →
    s.il.stack = e :: es → GoesOn e us s t →
    (¬ (remaining t e = 0 ∧ (t.store.desc e.desc).state = .complete) → e.emitted < (t.store.desc e.desc).stored →
      exec .trunkSlot s = .next (slotEnds (us.map .unfitDrop) { t with
        trunkTx := some (.data (t.store.readByte e.desc (e.emitted + 1)))
        il := { t.il with
          stack := { e with emitted := e.emitted + 1, fragment := e.fragment + 1, starve := 0 } :: es } })) ∧
    (remaining t e = 0 → (t.store.desc e.desc).state = .complete →
      exec .trunkSlot s = .next (slotEnds (us.map .unfitDrop) { t with
        trunkTx := some .close
        il := { t.il with stack := es, counters := { t.il.counters with sent := bump e.cls t.il.counters.sent } }
        store := t.store.dropRef e.desc })) ∧
    (¬ (remaining t e = 0 ∧ (t.store.desc e.desc).state = .complete) → (t.store.desc e.desc).stored ≤ e.emitted →
      e.starve + 1 < s.agent.stallLimit →
      exec .trunkSlot s = .next (slotEnds (us.map .unfitDrop) { t with
        trunkTx := some .fill
        il := { t.il with stack := { e with starve := e.starve + 1 } :: es } }))

def Obligations.TopIsAbortedOrResumed : Prop :=
  ∀ (e : StackEntry) (es : List StackEntry) (s : State), PlainSlot s → s.il.stack = e :: es →
    (e.isActive = true → ((s.il.drain = false ∧ frameFailed s e.desc = true) ∨ (s.il.drain = true ∧ es ≠ [])) →
      exec .trunkSlot s = .next (slotDone { s with
        trunkTx := some .abort
        il := { s.il with stack := es, counters := { s.il.counters with aborted := bump e.cls s.il.counters.aborted } }
        store := s.store.dropRef e.desc })) ∧
    (e.isActive = false → (s.il.drain = true ∨ frameFailed s e.desc = true) →
      exec .trunkSlot s = .next (slotDone { s with
        trunkTx := some (.resume e.cls)
        il := { s.il with stack := { e with state := .active, fragment := 0 } :: es } })) ∧
    (∀ us t, e.isActive = false → s.il.drain = false → frameFailed s e.desc = false → isOpen s e.cls = true →
      arbiter s = (t, us, none) →
      exec .trunkSlot s = .next (slotEnds (us.map .unfitDrop) { t with
        trunkTx := some (.resume e.cls)
        il := { t.il with stack := { e with state := .active, fragment := 0 } :: es } }))

def Obligations.TrunkStallFailsTheTop : Prop :=
  ∀ (e : StackEntry) (es : List StackEntry) (us : List Cls) (s u : State), PlainSlot s → s.il.drain = false →
    s.il.stack = e :: es → GoesOn e us s u → (u.store.desc e.desc).state = .filling →
    (u.store.desc e.desc).refs ≠ 0 → FrameStore.queued u.store e.desc = false →
    (u.store.desc e.desc).stored ≤ e.emitted → s.agent.stallLimit ≤ e.starve + 1 →
    ∃ t, exec .trunkStallLimit s = .next t ∧ exec .trunkSlot s = .next t ∧ t.trunkTx = some .fill ∧
      t.il.stack = { e with starve := e.starve + 1 } :: es ∧ t.il.counters = s.il.counters ∧ t.il.hold = u.il.hold ∧
      (t.store.desc e.desc).state = .failed .trunkStall ∧
      t.agent = (raiseAll (us.map .unfitDrop ++ [.stallAbort .trunk]) u).agent ∧
      (∀ p, (u.store.desc e.desc).origin = some (.tributary p) →
        (t.port p).counters.failedOther = ctrInc (u.port p).counters.failedOther ∧
        ((u.framer p).desc = some e.desc → (t.framer p).state = .discard ∧ (t.framer p).desc = none)) ∧
      t.store.queues = u.store.queues ∧ t.store.cells = u.store.cells ∧ t.store.freeDescs = u.store.freeDescs ∧
      t.sched.unfit = u.sched.unfit ∧ t.align = s.align ∧ t.rx = s.rx ∧ t.classifier = s.classifier ∧
      t.policy = s.policy ∧ t.routes = s.routes

def Obligations.CandidateIsOpenedOrPreempts : Prop :=
  (∀ (x : Candidate) (us : List Cls) (s t : State), PlainSlot s → s.il.drain = false → arbiter s = (t, us, some x) →
      (match s.il.stack with
        | [] => True
        | e :: _ => frameFailed s e.desc = false ∧ e.isActive = false ∧
            (e.state = .suspended .gated ∨ isOpen s e.cls = true)) →
      exec .trunkSlot s = .next (slotEnds (us.map .unfitDrop) { t with
        trunkTx := some (.opened x.cls)
        store := t.store.unqueue x.cls x.desc
        il := { t.il with
          hold := if t.il.hold = some x.desc then none else t.il.hold
          stack := openedEntry x s :: s.il.stack } })) ∧
  (∀ (x : Candidate) (e : StackEntry) (es : List StackEntry) (us : List Cls) (s t : State), PlainSlot s →
      s.il.drain = false → s.il.stack = e :: es → e.isActive = true → frameFailed s e.desc = false →
      e.preemptible = true → Config.minFrag ≤ e.fragment → Config.minTail ≤ remaining s e →
      arbiter s = (t, us, some x) →
      exec .trunkSlot s = .next (slotEnds (us.map .unfitDrop) { t with
        trunkTx := some (.opened x.cls)
        store := t.store.unqueue x.cls x.desc
        il := { t.il with
          hold := if t.il.hold = some x.desc then none else t.il.hold
          stack := openedEntry x s :: { e with state := .suspended .preempted } :: es
          counters := { t.il.counters with preempted := bump e.cls t.il.counters.preempted } } })) ∧
  (∀ (x : Candidate) (e : StackEntry) (es : List StackEntry) (us : List Cls) (s t : State), PlainSlot s →
      s.il.drain = false → s.il.stack = e :: es → e.state = .suspended .preempted → frameFailed s e.desc = false →
      isOpen s e.cls = false →
      (let gated := { s with il := { s.il with
         stack := { e with state := .suspended .gated } :: es
         counters := { s.il.counters with gateSuspended := bump e.cls s.il.counters.gateSuspended } } }
       arbiter gated = (t, us, some x) →
       exec .trunkSlot s = .next (slotEnds (us.map .unfitDrop) { t with
         trunkTx := some (.opened x.cls)
         store := t.store.unqueue x.cls x.desc
         il := { t.il with
           hold := if t.il.hold = some x.desc then none else t.il.hold
           stack := openedEntry x s :: { e with state := .suspended .gated } :: es } })))

def Obligations.PauseOrIdleWithoutCandidate : Prop :=
  (∀ (e : StackEntry) (es : List StackEntry) (us : List Cls) (s t : State), PlainSlot s → s.il.drain = false →
      s.il.stack = e :: es → e.isActive = true → frameFailed s e.desc = false → e.preemptible = true →
      Config.minFrag ≤ e.fragment → Config.minTail ≤ remaining s e → arbiter s = (t, us, none) →
      isOpen s e.cls = false →
      exec .trunkSlot s = .next (slotEnds (us.map .unfitDrop) { t with
        trunkTx := some .pause
        il := { t.il with
          stack := { e with state := .suspended .gated } :: es
          counters := { t.il.counters with gateSuspended := bump e.cls t.il.counters.gateSuspended } } })) ∧
  (∀ (us : List Cls) (s t : State), PlainSlot s → s.il.drain = false → arbiter s = (t, us, none) →
      (match s.il.stack with
        | [] => True
        | e :: _ => frameFailed s e.desc = false ∧ e.state = .suspended .gated ∧ isOpen s e.cls = false) →
      exec .trunkSlot s = .next (slotEnds (us.map .unfitDrop) { t with trunkTx := some .idle })) ∧
  (∀ (e : StackEntry) (es : List StackEntry) (us : List Cls) (s t : State), PlainSlot s → s.il.drain = false →
      s.il.stack = e :: es → e.state = .suspended .preempted → frameFailed s e.desc = false →
      isOpen s e.cls = false →
      (let gated := { s with il := { s.il with
         stack := { e with state := .suspended .gated } :: es
         counters := { s.il.counters with gateSuspended := bump e.cls s.il.counters.gateSuspended } } }
       arbiter gated = (t, us, none) →
       exec .trunkSlot s = .next (slotEnds (us.map .unfitDrop) { t with trunkTx := some .idle })))

def Obligations.ArbiterNamesTheCandidate : Prop :=
  (∀ s : State, s.il.hold = none → NoUnfitHead s →
      (∀ x : Candidate, arbiter s = (s, [], some x) ↔
        EligibleHead x.cls x.desc s ∧ (x.fitChecked = true ↔ (vget s.policy x.cls).preemptible = false) ∧
          ∀ (c : Cls) (d : DescId), c < x.cls → ¬ EligibleHead c d s) ∧
      (arbiter s = (s, [], none) ↔ ∀ (c : Cls) (d : DescId), ¬ EligibleHead c d s)) ∧
  (∀ (h : DescId) (us : List Cls) (s t : State) (x : Candidate), s.il.hold = some h → arbiter s = (t, us, some x) →
      (x.desc = h ∧ t.il.hold = some h) ∨ t.il.hold = none) ∧
  (∀ (us : List Cls) (s t : State) (x : Option Candidate), arbiter s = (t, us, x) →
      t.il.stack = s.il.stack ∧ t.il.counters = s.il.counters ∧ t.agent = s.agent ∧
        t.sched = { s.sched with unfit := us.foldl (fun v c => bump c v) s.sched.unfit }) ∧
  (∀ (c : Cls) (d : DescId) (ds : List DescId) (s : State), StoreOk s → s.store.queue c = d :: ds →
      (let t := unfitDiscard c d s
       t.store.queue c = ds ∧ t.sched.unfit = bump c s.sched.unfit ∧ t.agent = s.agent ∧
        t.il.stack = s.il.stack ∧ t.il.hold = (if s.il.hold = some d then none else s.il.hold) ∧
        ((s.store.desc d).refs = 1 → (t.store.desc d).state = .free) ∧
        (s.il.hold = none → (∀ c', c' < c → s.store.queue c' = []) → nests s c = true → isOpen s c = true →
          (vget s.policy c).preemptible = false → fitCheck c ((s.store.desc d).frameBytes - 9) s = .unfit →
          arbiter s = ((arbiter t).1, c :: (arbiter t).2.1, (arbiter t).2.2))))

/-- A gate overrun is counted and raised (R31); the frame goes on as in a slot in which its class does not close. -/
def Obligations.GateOverrunIsCounted : Prop :=
  ∀ (e : StackEntry) (es : List StackEntry) (s : State), TrunkUp s → s.sched.slotBegun = true → missedDue s = false →
    s.il.stack = e :: es → e.isActive = true → e.fitChecked = true → classIn e.cls s.sched.openBefore = true →
    isOpen s e.cls = false →
    ∃ t, exec .trunkSlot s = .next t ∧ t.il.counters.overruns = bump e.cls s.il.counters.overruns ∧
      (maskAllows s.agent.noticeMask .gateOverrun = true → ∃ r ∈ t.agent.notices, r.first.kind = .gateOverrun) ∧
      (s.il.drain = false → e.preemptible = false →
        ∃ u, exec .trunkSlot { s with sched := { s.sched with openBefore := s.sched.openSet } } = .next u ∧
          t.trunkTx = u.trunkTx ∧ t.il.stack = u.il.stack ∧ t.store = u.store ∧ t.ports = u.ports ∧
          t.il.counters = { u.il.counters with overruns := bump e.cls s.il.counters.overruns })

def Obligations.SentSymbolsAreLegal : Prop :=
  (∀ s : State, TrunkUp s → TransmitStackOk s →
      ∃ t y, exec .trunkSlot s = .next t ∧ t.trunkTx = some y ∧ y ≠ .mark ∧
        grammarStep y s.openFrames = some t.openFrames) ∧
  (∀ s t : State, TransmitStackOk s → step s = .next t → TransmitStackOk t)

def Obligations.DrainEndsWithTheReplyHeld : Prop :=
  ∀ (e : StackEntry) (r : OwedReply) (s : State), PlainSlot s → s.il.drain = true → s.il.stack = [e] →
    e.isActive = true → s.agent.owed = some r → r.desc ≠ e.desc →
    ∃ t, exec .drainEnd s = .next t ∧ exec .trunkSlot s = .next t ∧ t.trunkTx = some .abort ∧ t.il.stack = [] ∧
      t.il.drain = false ∧ t.il.hold = some r.desc ∧
      t.il.counters.aborted = bump e.cls s.il.counters.aborted ∧
      mgmtQueue t = r.desc :: mgmtQueue s ∧ (t.store.desc r.desc).state = .complete ∧
      (t.store.desc r.desc).refs = 1 ∧ t.agent.owed = none ∧ t.agent.builder = .idle ∧ t.agent.lastBuilt = .reply ∧
      (StoreOk s → MemoryOk s → FrameIs r.desc (frameOf r.dest s.agent.address r.tag
        [hiByte r.seq, loByte r.seq, 0x8A, 0x00, 0x00]) t.store)

/-! ### The schedule and the alignment (chapters 3 and 4) -/

def Obligations.MissedMarkIsAMiss : Prop :=
  (∀ s : State, s.resetHeld = false → s.sched.slotBegun = true → s.align.state = .locked → s.align.expect = true →
    s.align.width < s.sched.counter → s.sched.slotWidth < s.sched.counter →
    (s.align.miss + 1 < 4 → exec .missedMarkCheck s = .next { s with align := { s.align with
      miss := s.align.miss + 1
      expect := false
      counters := { s.align.counters with missed := ctrInc s.align.counters.missed } } }) ∧
    (s.align.miss = 3 → exec .missedMarkCheck s = .next (raise .alignLost { s with align := { s.align with
      state := .holdover
      miss := 4
      expect := false
      counters := { s.align.counters with missed := ctrInc s.align.counters.missed } } }))) ∧
  (∀ s : State, s.resetHeld = false →
    (s.sched.slotBegun = true → (s.align.state ≠ .locked ∨ s.align.expect = false ∨
      s.sched.counter ≤ s.align.width ∨ s.sched.counter ≤ s.sched.slotWidth) → exec .missedMarkCheck s = .next s) ∧
    (s.sched.slotBegun = false → s.align.state = .locked → s.align.expect = true →
      s.sched.counter + 1 < s.sched.activeBank.length → s.align.width < s.sched.counter + 1 →
      exec .missedMarkCheck s = exec .missedMarkCheck (beginSlot s)))

def Obligations.MarkInLockIsClassified : Prop :=
  ∀ s : State, TrunkUp s → s.sched.slotBegun = true → s.align.state = .locked →
    (s.sched.counter = 0 → s.sched.slotByWrap = true →
      exec .rxMark s = .next (heard { s with align := { s.align with
        miss := 0, expect := false
        counters := { s.align.counters with onTime := ctrInc s.align.counters.onTime } } })) ∧
    (s.sched.slotByWrap = false → s.sched.activeBank.length - s.align.width ≤ s.sched.counter →
      (let restarted := heard { s with
         align := { s.align with
           miss := 0, expect := false
           counters := { s.align.counters with early := ctrInc s.align.counters.early } }
         sched := { s.sched with
           counter := 0, window := 0, commit := .idle
           active := if s.sched.commit = .pending then s.sched.active.other else s.sched.active }
         ports := mapPorts Port.markBoundary s.ports }
       exec .rxMark s = .next (if s.sched.commit = .pending then raise (.commitDone s.sched.active.other) restarted
         else restarted))) ∧
    (s.sched.counter < s.sched.activeBank.length - s.align.width → 1 ≤ s.sched.counter →
      s.sched.counter ≤ s.align.width → s.align.expect = true →
      exec .rxMark s = .next (heard { s with
        align := { s.align with
          miss := 0, expect := false
          counters := { s.align.counters with late := ctrInc s.align.counters.late } }
        sched := { s.sched with counter := 0, window := 0 } })) ∧
    (s.sched.counter < s.sched.activeBank.length - s.align.width →
      ((s.sched.counter = 0 ∧ s.sched.slotByWrap = false) ∨ s.align.width < s.sched.counter ∨
        (1 ≤ s.sched.counter ∧ s.align.expect = false)) →
      (s.align.miss + 1 < 4 → exec .rxMark s = .next (heard { s with align := { s.align with
        miss := s.align.miss + 1
        counters := { s.align.counters with misaligned := ctrInc s.align.counters.misaligned } } })) ∧
      (s.align.miss = 3 → exec .rxMark s = .next (raise .alignLost (heard { s with align := { s.align with
        state := .holdover, miss := 4, expect := false
        counters := { s.align.counters with misaligned := ctrInc s.align.counters.misaligned } } }))))

def Obligations.MarkOutOfLockIsAccepted : Prop :=
  (∀ s : State, TrunkUp s → s.sched.slotBegun = true → (s.align.state = .seeking ∨ s.align.state = .holdover) →
      (let accepted := { s with align := { s.align with
         state := .locked, miss := 0, expect := false
         counters := { s.align.counters with acquired := ctrInc s.align.counters.acquired } } }
       let regained : List Notice := if s.align.state = .holdover then [.alignRegained] else []
       let swapped : List Notice := if s.sched.commit = .pending then [.commitDone s.sched.active.other] else []
       (s.sched.slotByWrap = false → exec .rxMark s = .next (heard (raiseAll (regained ++ swapped) { accepted with
         sched := { s.sched with
           counter := 0, window := 0, commit := .idle
           active := if s.sched.commit = .pending then s.sched.active.other else s.sched.active }
         ports := mapPorts Port.markBoundary s.ports }))) ∧
       (s.sched.slotByWrap = true → exec .rxMark s = .next (heard (raiseAll regained accepted))))) ∧
  (∀ s : State, TrunkUp s →
      (s.align.state = .free → exec .rxMark s = .next (heard s)) ∧
      (s.align.state ≠ .free →
        (s.sched.slotBegun = false → s.sched.activeBank.length ≤ s.sched.counter + 1 → s.sched.commit = .pending →
          (let swapped : Notice := .commitDone s.sched.active.other
           let wrapped := beginSlot s
           (s.align.state ≠ .holdover →
             ∃ t, exec .rxMark wrapped = .next t ∧ exec .rxMark s = .next (raise swapped t)) ∧
           (s.align.state = .holdover → exec .rxMark s = .next (heard (raiseAll [swapped, .alignRegained]
             { wrapped with align := { wrapped.align with
               state := .locked, miss := 0, expect := false
               counters := { s.align.counters with acquired := ctrInc s.align.counters.acquired } } }))))) ∧
        ((s.sched.slotBegun = true ∨ s.sched.counter + 1 < s.sched.activeBank.length ∨ s.sched.commit = .idle) →
          exec .rxMark s = exec .rxMark (beginSlot s))))

def Obligations.RaiseIsTakenByTheNoticeList : Prop :=
  (∀ (e : Notice) (s : State),
    (maskAllows s.agent.noticeMask e.kind = false → raise e s = s) ∧
    (maskAllows s.agent.noticeMask e.kind = true →
      ((∀ r ∈ s.agent.notices, r.first.kind ≠ e.kind) → raise e s = { s with agent := { s.agent with
        notices := s.agent.notices ++ [{ first := e, count := 1, counter := s.sched.counter }] } }) ∧
      (∀ (l l' : List NoticeRecord) (r : NoticeRecord), s.agent.notices = l ++ r :: l' → r.first.kind = e.kind →
        (∀ x ∈ l, x.first.kind ≠ e.kind) → raise e s = { s with agent := { s.agent with
          notices := l ++ { r with count := if r.count = 0xFFFF then 0xFFFF else r.count + 1 } :: l' } }))) ∧
  (∀ (es : List Notice) (s : State), ∃ (l : List Notice) (n : Nat), l.Perm es ∧ s.freeDraws ≤ n ∧
    raiseAll es s = l.foldl (fun u e => raise e u) { s with freeDraws := n }) ∧
  (∀ (e e' : Notice) (s : State), raiseAll [] s = s ∧ raiseAll [e] s = raise e s ∧
    raiseAll [e, e'] s = (if Config.eitherOrder s.freeDraws then raise e' (raise e { s with freeDraws := s.freeDraws + 1 })
      else raise e (raise e' { s with freeDraws := s.freeDraws + 1 })))

/-! ### Line events (R2, R46, R85, R105, R127, R185) -/

def Obligations.TrunkDownAndUp : Prop :=
  (∀ s : State, TrunkUp s → TransmitStackOk s →
      ∃ t, exec .trunkDown s = .next t ∧ t.trunkRx = { up := false, failedRun := 0, decodedRun := 0 } ∧
        t.il.stack = [] ∧ t.il.drain = false ∧
        (∀ c, vget t.il.counters.aborted c =
          if c ∈ s.il.stack.map StackEntry.cls then ctrInc (vget s.il.counters.aborted c)
          else vget s.il.counters.aborted c) ∧
        t.rx.mode = .resync ∧ t.rx.stack = [] ∧ (∀ c, t.context c = Context.closed) ∧ t.rx.counters = s.rx.counters ∧
        t.align = (if s.align.mode = .follow then { s.align with state := .seeking, miss := 0, expect := false }
          else s.align) ∧
        (s.il.drain = false → t.il.hold = s.il.hold ∧ t.store.queues = s.store.queues ∧
          t.agent = (raise (.lineEvent .trunk false) s).agent) ∧
        (∀ r, s.il.drain = true → s.agent.owed = some r →
          t.il.hold = some r.desc ∧ mgmtQueue t = r.desc :: mgmtQueue s ∧
            (∀ c, c ≠ s.agent.mgmtClass → t.store.queue c = s.store.queue c) ∧
            t.agent = (raise (.lineEvent .trunk false) { s with agent := { s.agent with
              owed := none, builder := .idle, job := none, lastBuilt := .reply } }).agent ∧
            (StoreOk s → MemoryOk s → (t.store.desc r.desc).state = .complete ∧ (t.store.desc r.desc).refs = 1 ∧
              FrameIs r.desc (frameOf r.dest s.agent.address r.tag
                [hiByte r.seq, loByte r.seq, 0x8A, 0x00, 0x00]) t.store)) ∧
        t.sched = s.sched ∧ t.ports = s.ports ∧ t.classifier = s.classifier ∧ t.policy = s.policy ∧ t.routes = s.routes) ∧
  (∀ s : State, s.resetHeld = false →
      (s.trunkRx.up = false → exec .trunkUp s = .next (raise (.lineEvent .trunk true)
        { s with trunkRx := { up := true, failedRun := 0, decodedRun := 0 } })) ∧
      (s.trunkRx.up = true → exec .trunkUp s = .next s) ∧ (s.trunkRx.up = false → exec .trunkDown s = .next s))

def Obligations.TributaryDownAndUp : Prop :=
  (∀ (p : PortIx) (s : State), Serving p s →
      ∃ t, exec (.tributaryDown p) s = .next t ∧ (t.port p).rx = { up := false, failedRun := 0, decodedRun := 0 } ∧
        (t.port p).config = (s.port p).config ∧ (t.framer p).state = .idle ∧ (t.framer p).desc = none ∧
        (t.framer p).gap = 0 ∧ (t.port p).delivery = [] ∧ (t.port p).sending = none ∧ (t.port p).markPending = false ∧
        (t.port p).displaced = none ∧
        (∀ d, (s.framer p).receiving = true → (s.framer p).desc = some d → (s.store.desc d).state = .filling →
          (s.store.desc d).origin = some (.tributary p) →
          (t.port p).counters = { (s.port p).counters with failedOther := ctrInc (s.port p).counters.failedOther }) ∧
        ((s.framer p).receiving = false → (t.port p).counters = (s.port p).counters) ∧
        t.agent = (raise (.lineEvent (.tributary p) false) s).agent ∧ t.il = s.il ∧ t.trunkTx = s.trunkTx ∧
        t.sched = s.sched ∧ t.align = s.align ∧ t.rx = s.rx ∧ t.classifier = s.classifier ∧ t.policy = s.policy ∧
        t.routes = s.routes) ∧
  (∀ (p : PortIx) (s : State), s.resetHeld = false → (s.port p).rx.up = false →
      exec (.tributaryUp p) s = .next (raise (.lineEvent (.tributary p) true) (s.updPort p fun q => { q with
        rx := { up := true, failedRun := 0, decodedRun := 0 }
        framer := if q.config.enabled then { q.framer with state := .idle, desc := none, gap := 0 } else q.framer }))) ∧
  (∀ (p : PortIx) (s : State), s.resetHeld = false →
      ((s.port p).rx.up = true → (s.port p).config.enabled = false → exec (.tributaryDown p) s =
        .next (raise (.lineEvent (.tributary p) false) (s.updPort p fun q =>
          { q with rx := { up := false, failedRun := 0, decodedRun := 0 } }))) ∧
      ((s.port p).rx.up = false → exec (.tributaryDown p) s = .next s) ∧
      ((s.port p).rx.up = true → exec (.tributaryUp p) s = .next s))

def Obligations.RunsOfWordsMakeTheReports : Prop :=
  ∀ s : State, s.resetHeld = false →
    (∀ i, DecodedOnTrunk i →
      (s.trunkRx.up = true → ∃ t, exec i s = .next t ∧ t.trunkRx = { s.trunkRx with failedRun := 0 }) ∧
      (s.trunkRx.up = false → s.trunkRx.decodedRun + 1 < 64 →
        exec i s = .next { s with trunkRx := { s.trunkRx with decodedRun := s.trunkRx.decodedRun + 1 } }) ∧
      (s.trunkRx.up = false → s.trunkRx.decodedRun + 1 = 64 → exec i s =
        .next (raise (.lineEvent .trunk true) { s with trunkRx := { up := true, failedRun := 0, decodedRun := 0 } }))) ∧
    (∀ w, countsAsDecoded w = false →
      (s.trunkRx.up = false →
        exec (.rxUndecodable w) s = .next { s with trunkRx := { s.trunkRx with decodedRun := 0 } }) ∧
      (s.trunkRx.up = true → s.trunkRx.failedRun + 1 < 16 → ∃ t, exec (.rxUndecodable w) s = .next t ∧
        t.trunkRx = { s.trunkRx with failedRun := s.trunkRx.failedRun + 1 }) ∧
      (s.trunkRx.up = true → s.trunkRx.failedRun + 1 = 16 → ∃ t u v,
        exec (.rxUndecodable w) { s with trunkRx := { s.trunkRx with failedRun := 0 } } = .next u ∧
          exec .trunkDown u = .next v ∧ exec (.rxUndecodable w) s = .next t ∧
          t.trunkRx = { up := false, failedRun := 0, decodedRun := 0 } ∧
          ButForRaises ((if s.rx.mode = .normal then [.trunkGrammar] else []) ++ [.lineEvent .trunk false]) s v t)) ∧
    (∀ p i, DecodedAt p i →
      ((s.port p).rx.up = true → ∃ t, exec i s = .next t ∧ (t.port p).rx = { (s.port p).rx with failedRun := 0 }) ∧
      ((s.port p).rx.up = false → (s.port p).rx.decodedRun + 1 < 64 → exec i s = .next (s.updPort p fun q =>
        { q with rx := { q.rx with decodedRun := q.rx.decodedRun + 1 } })) ∧
      ((s.port p).rx.up = false → (s.port p).rx.decodedRun + 1 = 64 → exec i s =
        .next (raise (.lineEvent (.tributary p) true) (s.updPort p fun q => { q with
          rx := { up := true, failedRun := 0, decodedRun := 0 }
          framer := if q.config.enabled then { q.framer with state := .idle, desc := none, gap := 0 }
            else q.framer })))) ∧
    (∀ p w, countsAsDecoded w = false →
      ((s.port p).rx.up = false → exec (.tribRxIdle p w) s = .next (s.updPort p fun q =>
        { q with rx := { q.rx with decodedRun := 0 } })) ∧
      ((s.port p).rx.up = true → (s.port p).rx.failedRun + 1 < 16 → ∃ t, exec (.tribRxIdle p w) s = .next t ∧
        (t.port p).rx = { (s.port p).rx with failedRun := (s.port p).rx.failedRun + 1 }) ∧
      ((s.port p).rx.up = true → (s.port p).rx.failedRun + 1 = 16 → ∃ t u v,
        exec (.tribRxIdle p w) (s.updPort p fun q => { q with rx := { q.rx with failedRun := 0 } }) = .next u ∧
          exec (.tributaryDown p) u = .next v ∧ exec (.tribRxIdle p w) s = .next t ∧
          (t.port p).rx = { up := false, failedRun := 0, decodedRun := 0 } ∧
          ButForRaises ((if (s.port p).serving = true ∧ (s.framer p).receiving = true ∧
              (s.port p).config.stallLimit ≤ (s.framer p).gap + 1 then [.stallAbort (.tributary p)] else []) ++
            [.lineEvent (.tributary p) false]) s v t)) ∧
    (∀ p w, (s.port p).serving = true → (s.framer p).receiving = true →
      (s.port p).config.stallLimit ≤ (s.framer p).gap + 1 → exec (.tributaryStall p w) s = exec (.tribRxIdle p w) s)

/-! ### Trunk reception (chapter 5) -/

def Obligations.OpenTakesADescriptor : Prop :=
  ∀ (c : Cls) (l : List OpenFrame) (s : State), TrunkUp s →
    ((s.rx.mode = .resync ∧ l = [⟨c, .active⟩]) ∨
      (s.rx.mode = .normal ∧ grammarStep (.opened c) s.rx.stack = some l)) →
    (∀ (d : DescId) (ds : List DescId), s.store.freeDescs = d :: ds → 3 ≤ s.store.freeDescs.length →
      34 ≤ s.store.freeCells.length → exec (.rxOpen c) s = .next (heard { s with
        rx := { s.rx with
          mode := .normal
          stack := l
          contexts := vset s.rx.contexts c
            { storage := some d, received := 0, check := 0xFFFF, header := none, disposition := .awaitHeader } }
        store := { s.store with
          freeDescs := ds
          descs := vset s.store.descs d (freshDescriptor .trunk []) } })) ∧
    (s.store.freeDescs.length < 3 ∨ s.store.freeCells.length < 34 →
      exec (.rxOpen c) s = .next (raise .storeExhausted (heard { s with
        rx := { s.rx with
          mode := .normal
          stack := l
          contexts := vset s.rx.contexts c
            { storage := none, received := 0, check := 0xFFFF, header := none, disposition := .discard .noStore }
          counters := { s.rx.counters with noStore := ctrInc s.rx.counters.noStore } } })))

def Obligations.QuietSymbols : Prop :=
  (∀ (y : TrunkSymbol) (l : List OpenFrame) (s : State), TrunkUp s → s.rx.mode = .normal →
      (y = .pause ∨ y = .fill ∨ y = .idle ∨ ∃ c, y = .resume c) → grammarStep y s.rx.stack = some l →
      exec (rxCommand y) s = .next (heard { s with rx := { s.rx with stack := l } })) ∧
  (∀ s : State, TrunkUp s → s.rx.mode = .resync →
      (∀ y, (∀ c, y ≠ .opened c) → y ≠ .mark → exec (rxCommand y) s = .next (heard s)) ∧
      (∀ w, countsAsDecoded w = true → exec (.rxUndecodable w) s = .next (heard s)))

def Obligations.IllegalSymbolIsAViolation : Prop :=
  ∀ (i : Instr) (s : State), TrunkUp s → s.rx.mode = .normal →
    ((∃ y, i = rxCommand y ∧ grammarStep y s.rx.stack = none) ∨ (∃ w, i = .rxUndecodable w ∧
      (countsAsDecoded w = true ∨ s.trunkRx.failedRun + 1 < Config.downRun))) →
    ∃ t, exec i s = .next t ∧ t.rx.mode = .resync ∧ t.rx.stack = [] ∧ (∀ c, t.context c = Context.closed) ∧
      t.rx.counters = { s.rx.counters with violations := ctrInc s.rx.counters.violations } ∧
      t.agent = (raise .trunkGrammar s).agent ∧ t.ports = s.ports ∧ RxOnly s t ∧
      ∀ c d, (s.context c).storage = some d → (t.store.desc d).state = .free

/-- What a data byte for the ACTIVE top of class c does (R94). -/
def Obligations.DataByteIsTakenOrPassedOver : Prop :=
  ∀ (c : Cls) (b : Byte) (fs : List OpenFrame) (s : State), TrunkUp s → s.rx.mode = .normal →
    s.rx.stack = ⟨c, .active⟩ :: fs →
    ((s.context c).disposition.isDiscard = true → exec (.rxData b) s = .next (heard s)) ∧
    ((s.context c).disposition.isDiscard = false → (s.context c).isFull = true →
      ∃ t, exec (.rxData b) s = .next t ∧ (t.context c).disposition = .discard .overlong ∧
        (t.context c).storage = none ∧ t.rx.stack = s.rx.stack ∧
        t.rx.counters = { s.rx.counters with lengthErrors := ctrInc s.rx.counters.lengthErrors } ∧
        t.agent = s.agent ∧ t.ports = s.ports ∧ RxOnly s t) ∧
    (∀ d st, (s.context c).disposition.isDiscard = false → (s.context c).isFull = false →
      (s.context c).storage = some d → s.store.lineByte d b = some st → (s.context c).received ≠ 6 →
      exec (.rxData b) s = .next (heard { s with
        store := st
        rx := { s.rx with contexts := vset s.rx.contexts c { s.context c with
          received := (s.context c).received + 1
          check := crcByte (s.context c).check b } } })) ∧
    (∀ d, (s.context c).disposition.isDiscard = false → (s.context c).isFull = false →
      (s.context c).storage = some d → s.store.lineByte d b = none →
      ∃ t, exec (.rxData b) s = .next t ∧ (t.context c).disposition = .discard .noStore ∧
        (t.context c).storage = none ∧ t.rx.stack = s.rx.stack ∧
        t.rx.counters = { s.rx.counters with noStore := ctrInc s.rx.counters.noStore } ∧
        t.agent = (raise .storeExhausted s).agent ∧ t.ports = s.ports ∧ RxOnly s t)

def Obligations.HeaderDecidesTheDisposition : Prop :=
  ∀ (c : Cls) (b : Byte) (d : DescId) (st : FrameStore) (fs : List OpenFrame) (s : State), TrunkUp s →
    s.rx.mode = .normal → s.rx.stack = ⟨c, .active⟩ :: fs → (s.context c).disposition = .awaitHeader →
    (s.context c).header = none → (s.context c).storage = some d → (s.context c).received = 6 →
    s.store.lineByte d b = some st →
    ∃ t, exec (.rxData b) s = .next t ∧ t.rx.stack = s.rx.stack ∧ (t.context c).received = 7 ∧
      (t.context c).header = some (st.readHeader d) ∧ t.agent = s.agent ∧ t.ports = s.ports ∧ RxOnly s t ∧
      (let h := st.readHeader d
       let x := t.context c
       let k := s.rx.counters
       if 1024 < h.len.toNat then x.disposition = .discard .malformed ∧ x.storage = none ∧
         t.rx.counters = { k with lengthErrors := ctrInc k.lengthErrors }
       else if h.dest = s.agent.address then x.disposition = .toAgent ∧ x.storage = some d ∧ t.rx.counters = k
       else if h.dest = 0xFFFF then (∃ m, x.disposition = .toPorts m ∧ ∀ p, portIn p m = (s.port p).serving) ∧
         x.storage = some d ∧ t.rx.counters = k
       else match routeLookup h.dest s.routes with
         | some p => (∃ m, x.disposition = .toPorts m ∧ ∀ p', portIn p' m = decide (p' = p)) ∧ x.storage = some d ∧
             t.rx.counters = k
         | none => x.disposition = .discard .unrouted ∧ x.storage = none ∧
             t.rx.counters = { k with unrouted := ctrInc k.unrouted })

/-- The first valid entry that matches decides, and its hit count alone rises (R142 to R145). -/
def Obligations.TablesAreLookedUp : Prop :=
  (∀ (v : Vector Route 64) (a : Addr), (routeAddresses v).Nodup →
      (∀ p, routeLookup a v = some p ↔ ∃ i, (vget v i).valid = true ∧ (vget v i).address = a ∧ (vget v i).port = p) ∧
      (routeLookup a v = none ↔ ∀ i, (vget v i).valid = true → (vget v i).address ≠ a)) ∧
  (∀ (k : Classifier) (p : PortIx) (t : Byte) (a : Addr),
      (∀ i : Fin 32, (vget k.entries i).matchesFrame p t a = true →
        (∀ j, j < i → (vget k.entries j).matchesFrame p t a = false) →
        k.lookup p t a = ((vget k.entries i).action, { k with entries := vset k.entries i { vget k.entries i with
          hits := ctrInc (vget k.entries i).hits } })) ∧
      ((∀ i, (vget k.entries i).matchesFrame p t a = false) → k.lookup p t a = (vget k.defaults p, k)) ∧
      (∀ e : ClassEntry, e.matchesFrame p t a = true ↔ e.valid = true ∧ portIn p e.ports = true ∧
        t &&& e.tagMask = e.tagValue &&& e.tagMask ∧ (e.srcMatch = true → e.srcValue = a)))

/-- A CLOSE of a frame with all its bytes and a good check (R99 to R101, R156). -/
def Obligations.GoodFrameIsHandedOn : Prop :=
  ∀ (c : Cls) (d : DescId) (fs : List OpenFrame) (s : State), TrunkUp s → s.rx.mode = .normal →
    s.rx.stack = ⟨c, .active⟩ :: fs → (s.context c).storage = some d → (s.context c).isFull = true →
    (s.context c).check = 0 → (s.store.desc d).refs = 0 →
    ((s.context c).disposition = .toAgent → s.agent.inbox.length < 4 → exec .rxClose s = .next (heard { s with
      rx := { s.rx with
        stack := fs
        contexts := vset s.rx.contexts c Context.closed
        counters := { s.rx.counters with accepted := ctrInc s.rx.counters.accepted } }
      store := s.store.updDesc d fun x => { x with state := .complete, refs := 1 }
      agent := { s.agent with inbox := s.agent.inbox ++ [d] } })) ∧
    ((s.context c).disposition = .toAgent → 4 ≤ s.agent.inbox.length → exec .rxClose s = .next (heard { s with
      rx := { s.rx with
        stack := fs
        contexts := vset s.rx.contexts c Context.closed
        counters := { s.rx.counters with accepted := ctrInc s.rx.counters.accepted } }
      store := s.store.release d
      agent := { s.agent with
        counters := { s.agent.counters with overflows := ctrInc s.agent.counters.overflows } } })) ∧
    (∀ p, (s.context c).disposition = .toPorts (portSingle p) → (s.port p).serving = true →
      (s.port p).delivery.length < 32 → exec .rxClose s = .next (heard ({ s with
        rx := { s.rx with
          stack := fs
          contexts := vset s.rx.contexts c Context.closed
          counters := { s.rx.counters with accepted := ctrInc s.rx.counters.accepted } }
        store := s.store.updDesc d fun x => { x with state := .complete, refs := 1 } }.updPort p fun q =>
          { q with delivery := q.delivery ++ [d] }))) ∧
    (∀ p, (s.context c).disposition = .toPorts (portSingle p) →
      ((s.port p).serving = false ∨ 32 ≤ (s.port p).delivery.length) → exec .rxClose s = .next (heard ({ s with
        rx := { s.rx with
          stack := fs
          contexts := vset s.rx.contexts c Context.closed
          counters := { s.rx.counters with accepted := ctrInc s.rx.counters.accepted } }
        store := s.store.release d }.updPort p fun q =>
          { q with counters := { q.counters with refused := ctrInc q.counters.refused } }))) ∧
    (∀ m, (s.context c).disposition = .toPorts m → ∃ t, exec .rxClose s = .next t ∧
      ∀ p, (t.port p).delivery = (s.port p).delivery ++
        (if portIn p m ∧ (s.port p).serving ∧ (s.port p).delivery.length < 32 then [d] else []))

/-- A CLOSE that hands nothing on, and an ABORT (R102, R103). -/
def Obligations.RejectedFrameIsReleased : Prop :=
  ∀ (c : Cls) (fs : List OpenFrame) (s : State), TrunkUp s → s.rx.mode = .normal → s.rx.stack = ⟨c, .active⟩ :: fs →
    (let gone (f : RxCounters → RxCounters) : State := heard { s with
        rx := { s.rx with
          stack := fs
          contexts := vset s.rx.contexts c Context.closed
          counters := f s.rx.counters }
        store := (s.context c).storage.elim s.store fun d => s.store.release d }
     exec .rxAbort s = .next (gone id) ∧
      ((s.context c).disposition.isDiscard = true → exec .rxClose s = .next (gone id)) ∧
      ((s.context c).disposition = .awaitHeader →
        exec .rxClose s = .next (gone fun k => { k with lengthErrors := ctrInc k.lengthErrors })) ∧
      (((s.context c).disposition = .toAgent ∨ ∃ m, (s.context c).disposition = .toPorts m) →
        ((s.context c).isFull = false →
          exec .rxClose s = .next (gone fun k => { k with lengthErrors := ctrInc k.lengthErrors })) ∧
        ((s.context c).isFull = true → (s.context c).check ≠ 0 →
          exec .rxClose s = .next (gone fun k => { k with crcErrors := ctrInc k.crcErrors }))))

/-! ### The Frame Store (chapter 6) -/

/-- Takes and releases (R111, R112, R114). -/
def Obligations.TakesAndReleases : Prop :=
  (∀ (o : Origin) (d : DescId) (st : FrameStore),
      (∀ ds, st.freeDescs = d :: ds → 3 ≤ st.freeDescs.length → 34 ≤ st.freeCells.length →
        st.lineTakeDesc o = some (d, { st with
          freeDescs := ds, descs := vset st.descs d (freshDescriptor o []) })) ∧
      (st.freeDescs.length < 3 ∨ st.freeCells.length < 34 → st.lineTakeDesc o = none) ∧
      (∀ c cs, st.freeCells = c :: cs → 2 ≤ st.freeDescs.length → 35 ≤ st.freeCells.length →
        st.lineTakeCell d = some { st with freeCells := cs, descs := vset st.descs d { st.desc d with
          chain := (st.desc d).chain ++ [c] } }) ∧
      (st.freeDescs.length < 2 ∨ st.freeCells.length < 35 → st.lineTakeCell d = none) ∧
      st.release d = { st with freeCells := st.freeCells ++ (st.desc d).chain, freeDescs := st.freeDescs ++ [d],
                               descs := vset st.descs d Descriptor.unused }) ∧
  (∀ (n : Nat) (st : FrameStore),
      (∀ d ds, st.freeDescs = d :: ds → n ≤ st.freeCells.length → st.agentClaim n = some (d, { st with
        freeDescs := ds, freeCells := st.freeCells.drop n
        descs := vset st.descs d (freshDescriptor .agent (st.freeCells.take n)) })) ∧
      (st.freeDescs = [] ∨ st.freeCells.length < n → st.agentClaim n = none))

/-- A byte stored in d reads back, and every other byte of every chain apart from that cell position is kept (R94, R108). -/
def Obligations.StoredBytesReadBack : Prop :=
  (∀ (d : DescId) (b : Byte) (st st' : FrameStore), Memory.wf st.cells = true →
      (st.desc d).chain.length = cellsFor (st.desc d).stored → st.lineByte d b = some st' →
      (st'.desc d).stored = (st.desc d).stored + 1 ∧ st'.readByte d ((st.desc d).stored + 1) = b ∧
        (st'.desc d).chain.length = cellsFor (st'.desc d).stored ∧ st'.queues = st.queues ∧
        st'.freeDescs = st.freeDescs ∧ (∀ e, e ≠ d → st'.desc e = st.desc e) ∧
        ∀ a, st'.byteAddr d ((st.desc d).stored + 1) ≠ some a → Memory.read st'.cells a = Memory.read st.cells a) ∧
  (∀ (d : DescId) (bs : List Byte) (st : FrameStore), Memory.wf st.cells = true → (st.desc d).chain.Nodup →
      bs.length ≤ (st.desc d).chain.length * 64 →
      (∀ i, i < bs.length → (st.build d bs).readByte d (i + 1) = bs.getD i 0) ∧
        ((st.build d bs).desc d).state = .complete ∧
        ∀ a, a / 64 ∉ (st.desc d).chain.map Fin.val → Memory.read (st.build d bs).cells a = Memory.read st.cells a)

/-- A failure and its holders (R117): no holder, a class queue, the Preemption Stack; and no second failure. -/
def Obligations.FailureActsOnItsHolder : Prop :=
  ∀ (d : DescId) (r : FailReason) (s : State),
    ((s.store.desc d).state ≠ .filling → failFrame d r s = s) ∧
    ((s.store.desc d).state = .filling →
      ((failFrame d r s).il = s.il ∧ (failFrame d r s).agent = s.agent) ∧
      ((s.store.desc d).refs = 0 → s.store.queued d = false →
        (failFrame d r s).store = s.store.release d) ∧
      (∀ c, (s.store.desc d).refs = 1 → (s.store.desc d).cls = some c → d ∈ s.store.queue c →
        (failFrame d r s).store = (s.store.unqueue c d).release d) ∧
      ((s.store.desc d).refs ≠ 0 → s.store.queued d = false →
        (failFrame d r s).store = s.store.updDesc d fun x => { x with state := .failed r }) ∧
      (∀ p, (s.store.desc d).origin = some (.tributary p) →
        ((s.framer p).desc = some d →
          ((failFrame d r s).framer p).state = .discard ∧ ((failFrame d r s).framer p).desc = none) ∧
        (∀ p', p' ≠ p → (failFrame d r s).port p' = s.port p') ∧
        (let k := (s.port p).counters
         ((failFrame d r s).port p).counters =
          if r = .short ∨ r = .overlong ∨ r = .badCrc then { k with failedFormat := ctrInc k.failedFormat }
          else if r = .stationAbort ∨ r = .stall then { k with failedStation := ctrInc k.failedStation }
          else if r = .noStore then { k with failedStore := ctrInc k.failedStore }
          else { k with failedOther := ctrInc k.failedOther })) ∧
      ((∀ p, (s.store.desc d).origin ≠ some (.tributary p)) → (failFrame d r s).ports = s.ports))

/-! ### Tributary ports (chapter 7) -/

/-- The framer in IDLE and in DISCARD (R129). -/
def Obligations.StartTakesADescriptor : Prop :=
  ∀ (p : PortIx) (s : State), Serving p s → ((s.framer p).state = .idle ∨ (s.framer p).state = .discard) →
    (∀ (d : DescId) (ds : List DescId), s.store.freeDescs = d :: ds → 3 ≤ s.store.freeDescs.length →
      34 ≤ s.store.freeCells.length → exec (.tribRxStart p) s = .next (heardAt p ({ s with
        store := { s.store with
          freeDescs := ds
          descs := vset s.store.descs d (freshDescriptor (.tributary p) []) } }.updPort p fun q =>
            { q with framer := { state := .header, desc := some d, check := 0xFFFF, gap := 0 } }))) ∧
    (s.store.freeDescs.length < 3 ∨ s.store.freeCells.length < 34 →
      ∃ g, exec (.tribRxStart p) s = .next (raise .storeExhausted (heardAt p (s.updPort p fun q =>
        { q with framer := { q.framer with state := .discard, desc := none, gap := g }
                 counters := { q.counters with discarded := ctrInc q.counters.discarded } })))) ∧
    (∀ b, exec (.tribRxData p b) s = .next (heardAt p s)) ∧
    exec (.tribRxEnd p) s = .next (heardAt p (updFramer p (fun f => { f with state := .idle }) s)) ∧
    exec (.tribRxAbort p) s = .next (heardAt p (updFramer p (fun f => { f with state := .idle }) s)) ∧
    (∀ w, countsAsDecoded w = true → exec (.tribRxIdle p w) s = .next (heardAt p s))

def Obligations.TributaryByteIsStored : Prop :=
  ∀ (p : PortIx) (b : Byte) (s : State), Serving p s →
    ((s.framer p).receiving = false → exec (.tribRxData p b) s = .next (heardAt p s)) ∧
    (∀ d, (s.framer p).receiving = true → (s.framer p).desc = some d →
      ((s.store.desc d).isFull = true → exec (.tribRxData p b) s =
        .next (heardAt p (updFramer p (Framer.freed .discard) (failFrame d .overlong s)))) ∧
      ((s.store.desc d).isFull = false → s.store.lineByte d b = none → exec (.tribRxData p b) s =
        .next (raise .storeExhausted (heardAt p (updFramer p (Framer.freed .discard) (failFrame d .noStore s))))) ∧
      (∀ st, (s.store.desc d).isFull = false → s.store.lineByte d b = some st → (s.store.desc d).stored ≠ 6 →
        exec (.tribRxData p b) s = .next (heardAt p ({ s with store := st }.updPort p fun q =>
          { q with framer := { q.framer with check := crcByte q.framer.check b, gap := 0 } }))))

/-- The seventh byte of a station's frame (R131, R142 to R145, R121). -/
def Obligations.StationHeaderIsAdmittedOrDropped : Prop :=
  ∀ (p : PortIx) (b : Byte) (d : DescId) (st : FrameStore) (s : State), Serving p s → (s.framer p).state = .header →
    (s.framer p).desc = some d → (s.store.desc d).header = none → (s.store.desc d).stored = 6 →
    s.store.lineByte d b = some st →
    (let h := st.readHeader d
     let out := s.classifier.lookup p h.tag h.src
     let gone (k : Classifier) (f : PortCounters → PortCounters) : State := heardAt p ({ s with
       store := (st.updDesc d fun x => { x with header := some h }).release d
       classifier := k }.updPort p fun q => { q with
         framer := { state := .discard, desc := none, check := crcByte q.framer.check b, gap := 0 }
         counters := f q.counters })
     exec (.tribRxData p b) s = .next (
       if 1024 < h.len.toNat then gone s.classifier fun k => { k with discarded := ctrInc k.discarded }
       else if h.dest = s.agent.address then gone s.classifier fun k => { k with discarded := ctrInc k.discarded }
       else match out.1 with
         | .drop => gone out.2 fun k => { k with droppedByClass := ctrInc k.droppedByClass }
         | .forward c =>
           if (vget s.policy c).queueLimit ≤ (st.queue c).length then
             gone out.2 fun k => { k with discarded := ctrInc k.discarded }
           else heardAt p ({ s with
             store := { st with
               queues := vset st.queues c (st.queue c ++ [d])
               descs := vset st.descs d { st.desc d with
                 header := some h, cls := some c, cutThrough := (vget s.policy c).cutThrough, refs := 1 } }
             classifier := out.2 }.updPort p fun q => { q with
               framer := { state := .body, desc := some d, check := crcByte q.framer.check b, gap := 0 } })))

def Obligations.FrameEndsAndGaps : Prop :=
  (∀ (p : PortIx) (s : State), Serving p s →
      ((s.framer p).receiving = false →
        exec (.tribRxEnd p) s = .next (heardAt p (updFramer p (fun f => { f with state := .idle }) s)) ∧
        exec (.tribRxAbort p) s = .next (heardAt p (updFramer p (fun f => { f with state := .idle }) s))) ∧
      (∀ d, (s.framer p).receiving = true → (s.framer p).desc = some d →
        exec (.tribRxStart p) s = exec (.tribRxStart p) (updFramer p (Framer.freed .discard) (failFrame d .short s)) ∧
        exec (.tribRxAbort p) s = .next (heardAt p (updFramer p (Framer.freed .idle) (failFrame d .stationAbort s))) ∧
        ((s.store.desc d).isFull = false →
          exec (.tribRxEnd p) s = .next (heardAt p (updFramer p (Framer.freed .idle) (failFrame d .short s)))) ∧
        ((s.store.desc d).isFull = true → (s.framer p).check ≠ 0 →
          exec (.tribRxEnd p) s = .next (heardAt p (updFramer p (Framer.freed .idle) (failFrame d .badCrc s)))) ∧
        ((s.store.desc d).isFull = true → (s.framer p).check = 0 → (s.store.desc d).refs ≠ 0 →
          exec (.tribRxEnd p) s = .next (heardAt p ({ s with
            store := s.store.updDesc d fun x => { x with state := .complete } }.updPort p fun q => { q with
              framer := { q.framer with state := .idle, desc := none, gap := 0 }
              counters := { q.counters with received := ctrInc q.counters.received } }))) ∧
        ((s.store.desc d).isFull = true → (s.framer p).check = 0 → (s.store.desc d).refs = 0 →
          exec (.tribRxEnd p) s = .next (heardAt p ({ s with store := s.store.release d }.updPort p fun q => { q with
            framer := { q.framer with state := .idle, desc := none, gap := 0 }
            counters := { q.counters with received := ctrInc q.counters.received } }))))) ∧
  (∀ (p : PortIx) (w : LineWord) (s : State), Serving p s →
      exec (.tribRxMark p) s = .next (heardAt p s) ∧
      (NoReport p (countsAsDecoded w) s →
        ((s.framer p).receiving = false →
          exec (.tribRxIdle p w) s = .next (wordHeardAt p (countsAsDecoded w) s)) ∧
        ((s.framer p).receiving = true → (s.framer p).gap + 1 < (s.port p).config.stallLimit →
          exec (.tribRxIdle p w) s = .next (wordHeardAt p (countsAsDecoded w) (s.updPort p fun q =>
            { q with framer := { q.framer with gap := q.framer.gap + 1 } })) ∧
          exec (.tributaryStall p w) s = .next s) ∧
        (∀ d, (s.framer p).receiving = true → (s.framer p).desc = some d →
          (s.port p).config.stallLimit ≤ (s.framer p).gap + 1 →
          exec (.tributaryStall p w) s = .next (raise (.stallAbort (.tributary p))
            (wordHeardAt p (countsAsDecoded w) (updFramer p (Framer.freed .idle) (failFrame d .stall s)))) ∧
          exec (.tribRxIdle p w) s = exec (.tributaryStall p w) s)))

def Obligations.TransmitterSendsTheQueueInOrder : Prop :=
  ∀ (p : PortIx) (s : State), s.resetHeld = false →
    ((s.port p).serving = false →
      exec (.tribTxSlot p) s = .next (s.updPort p fun q => { q with txLine := some .idle })) ∧
    ((s.port p).serving = true → (s.port p).displaced = none → (s.port p).markPending = true →
      ((s.port p).sending = none → (s.port p).delivery = [] →
        exec (.tribTxSlot p) s = .next (s.updPort p fun q =>
          { q with txLine := some .mark, markPending := false, displaced := some .idle })) ∧
      (∀ d ds, (s.port p).sending = none → (s.port p).delivery = d :: ds →
        exec (.tribTxSlot p) s = .next (s.updPort p fun q =>
          { q with txLine := some .mark, markPending := false, displaced := some .start, delivery := ds
                   sending := some { desc := d, sent := 0 } })) ∧
      (∀ d n, (s.port p).sending = some { desc := d, sent := n } →
        exec (.tribTxSlot p) s = .next (s.updPort p fun q =>
          { q with txLine := some .mark, markPending := false
                   displaced := some (if n < (s.store.desc d).frameBytes then .data (s.store.readByte d (n + 1))
                     else .ended) }))) ∧
    (∀ y, (s.port p).serving = true → (s.port p).displaced = some y →
      ((s.port p).markPending = true →
        exec (.tribTxSlot p) s = .next (s.updPort p fun q => { q with txLine := some .mark, markPending := false })) ∧
      ((s.port p).markPending = false →
        (y = .idle ∨ y = .start → exec (.tribTxSlot p) s = .next (s.updPort p fun q =>
          { q with txLine := some y, displaced := none })) ∧
        (∀ b d n, y = .data b → (s.port p).sending = some { desc := d, sent := n } →
          exec (.tribTxSlot p) s = .next (s.updPort p fun q =>
            { q with txLine := some (.data b), displaced := none, sending := some { desc := d, sent := n + 1 } })) ∧
        (∀ d n, y = .ended → (s.port p).sending = some { desc := d, sent := n } →
          exec (.tribTxSlot p) s = .next ({ s with store := s.store.dropRef d }.updPort p fun q =>
            { q with txLine := some .ended, displaced := none, sending := none
                     counters := { q.counters with delivered := ctrInc q.counters.delivered } })))) ∧
    ((s.port p).serving = true → (s.port p).displaced = none → (s.port p).markPending = false →
      ((s.port p).sending = none → (s.port p).delivery = [] →
        exec (.tribTxSlot p) s = .next (s.updPort p fun q => { q with txLine := some .idle })) ∧
      (∀ d ds, (s.port p).sending = none → (s.port p).delivery = d :: ds →
        exec (.tribTxSlot p) s = .next (s.updPort p fun q =>
          { q with txLine := some .start, delivery := ds, sending := some { desc := d, sent := 0 } })) ∧
      (∀ d n, (s.port p).sending = some { desc := d, sent := n } → n < (s.store.desc d).frameBytes →
        exec (.tribTxSlot p) s = .next (s.updPort p fun q =>
          { q with txLine := some (.data (s.store.readByte d (n + 1))), sending := some { desc := d, sent := n + 1 } })) ∧
      (∀ d n, (s.port p).sending = some { desc := d, sent := n } → (s.store.desc d).frameBytes ≤ n →
        exec (.tribTxSlot p) s = .next ({ s with store := s.store.dropRef d }.updPort p fun q =>
          { q with txLine := some .ended, sending := none
                   counters := { q.counters with delivered := ctrInc q.counters.delivered } })))

/-! ### The Management Agent (chapters 10 and 11) -/

def Obligations.BuilderAlternates : Prop :=
  ∀ s : State,
    (chosenJob s = none ↔ s.agent.inbox = [] ∧ (s.agent.notices = [] ∨ s.agent.noticeDest = 0x0000)) ∧
    (chosenJob s = some .reply ↔ s.agent.inbox ≠ [] ∧
      (s.agent.notices = [] ∨ s.agent.noticeDest = 0x0000 ∨ s.agent.lastBuilt = .notice)) ∧
    (chosenJob s = some .notice ↔ s.agent.notices ≠ [] ∧ s.agent.noticeDest ≠ 0x0000 ∧
      (s.agent.inbox = [] ∨ s.agent.lastBuilt = .reply)) ∧
    (s.resetHeld = false → s.agent.builder ≠ .idle → exec .builderChooseJob s = .next s)

/-- A notice job (R162, R163, R179): chosen and built, or left waiting for store; and built at the grant. -/
def Obligations.NoticeIsBuiltFromTheHeadRecord : Prop :=
  ∀ (x : NoticeRecord) (xs : List NoticeRecord) (s : State), s.resetHeld = false → s.agent.notices = x :: xs →
    (s.store.agentClaim 1 = none → s.agent.builder = .idle → chosenJob s = some .notice →
      exec .builderChooseJob s = .next { s with
        agent := { s.agent with builder := .waitingStore, job := some .notice } }) ∧
    (∀ (i : Instr) (d : DescId) (st : FrameStore), s.store.agentClaim 1 = some (d, st) →
      ((i = .builderChooseJob ∧ s.agent.builder = .idle ∧ chosenJob s = some .notice) ∨
        (i = .storeClaimGranted ∧ s.agent.builder = .waitingStore ∧ s.agent.job = some .notice)) →
      exec i s = .next { s with
        agent := { s.agent with notices := xs, builder := .idle, job := none, lastBuilt := .notice }
        store := (st.build d (frameOf s.agent.noticeDest s.agent.address 0x00 (noticePayload x))).admitTail s.agent.mgmtClass
          (vget s.policy s.agent.mgmtClass).cutThrough d })

/-- A reply job whose claim is refused waits with its request in hand; at the grant the request is executed (R163, R164). -/
def Obligations.UnservedRequests : Prop :=
  (∀ (q : DescId) (qs : List DescId) (s : State), s.resetHeld = false → s.agent.builder = .idle →
      chosenJob s = some .reply → s.agent.inbox = q :: qs →
      ((s.store.request q).answerable = true ↔ 6 ≤ (s.store.request q).len ∧ (s.store.request q).src ≠ 0x0000 ∧
        (s.store.request q).src ≠ 0xFFFF ∧ (s.store.request q).kind.getLsbD 7 = false) ∧
      ((s.store.request q).answerable = false → exec .builderChooseJob s = .next { s with
        agent := { s.agent with
          inbox := qs, inHand := none, job := none, builder := .idle
          counters := { s.agent.counters with unanswerable := ctrInc s.agent.counters.unanswerable } }
        store := s.store.dropRef q })) ∧
  (∀ (q : DescId) (qs : List DescId) (s : State), s.resetHeld = false → (s.store.request q).answerable = true →
      (s.agent.builder = .idle → chosenJob s = some .reply → s.agent.inbox = q :: qs →
        s.store.agentClaim (replyCells (s.store.request q) s.agent.replay) = none →
        exec .builderChooseJob s = .next { s with
          agent := { s.agent with inbox := qs, inHand := some q, job := some .reply, builder := .waitingStore } }) ∧
      (s.agent.builder = .waitingStore → s.agent.job = some .reply → s.agent.inHand = some q →
        (s.store.agentClaim (replyCells (s.store.request q) s.agent.replay) = none →
          exec .storeClaimGranted s = .next s) ∧
        ((s.store.agentClaim (replyCells (s.store.request q) s.agent.replay)).isSome = true →
          (∀ k, (s.store.request q).row = some k → exec .storeClaimGranted s = exec k.command s) ∧
          (let u := { s with agent := { s.agent with
             inbox := q :: s.agent.inbox, inHand := none, builder := .idle, job := none, lastBuilt := .notice } }
           ∃ t, exec .builderChooseJob u = .next t ∧ exec .storeClaimGranted s = .next { t with agent := { t.agent with
             lastBuilt := if t.agent.builder = .idle then .reply else s.agent.lastBuilt } }) ∧
          (∀ k, (s.store.request q).row = some k → k ≠ .trafficReset →
            ∃ t, exec .storeClaimGranted s = .next t ∧ t.agent.builder = .idle ∧ t.agent.inHand = none ∧
              t.agent.inbox = s.agent.inbox ∧ t.agent.lastBuilt = .reply))))

/-- Every request that is ready is executed and answered in one step (R164); a TRAFFIC_RESET that is carried out owes its
reply (R174). -/
def Obligations.ReadyRequestIsAnswered : Prop :=
  (∀ (k : RequestRow) (q d : DescId) (qs : List DescId) (r : Request) (s : State), RequestReady k q d qs r s →
    exec .builderChooseJob s = exec k.command s ∧
    (k ≠ .trafficReset ∨ r.preCheck ≠ .ok ∨ ¬ Fresh r s → ∃ t, exec k.command s = .next t ∧ Replied d qs s t ∧
      (Fresh r s → k ≠ .readCountersClear → ∀ st, s.store.agentClaim (replyCells r s.agent.replay) = some (d, st) →
        t.agent.counters = { s.agent.counters with
          executed := ctrInc s.agent.counters.executed
          refused := if (perform r (countExecuted (atExecution q qs st s))).status = .ok then s.agent.counters.refused
            else ctrInc s.agent.counters.refused }))) ∧
  (∀ (r : Request) (k : RequestRow), r.row = some k ↔
    (kindOf r.kind, k) ∈ [(some .query, .query), (some .read, .read), (some .commit, .commit), (some .abandon, .abandon),
      (some .setAlign, .setAlign), (some .setGlobal, .setGlobal), (some ReqKind.trafficReset, RequestRow.trafficReset)] ∨
    (kindOf r.kind = some .write ∧ (tableOf r.table, k) ∈ [(some .classify, .writeClassify),
      (some .portDefault, .writePortDefault), (some .classPolicy, .writeClassPolicy), (some .route, .writeRoute),
      (some .portConfig, .writePortConfig), (some .scheduleStandby, .writeScheduleStandby),
      (some .scheduleActive, .writeReadOnlyTable), (some TableId.hits, RequestRow.writeReadOnlyTable)]) ∨
    (kindOf r.kind = some .readCounters ∧
      k = if r.len = 7 ∧ (byteAt r.params 0).getLsbD 0 = true then .readCountersClear else .readCounters) ∨
    (kindOf r.kind = some .flush ∧ ((byteAt r.params 0 = 0x00 ∧ k = .flushClassQueue) ∨
      (byteAt r.params 0 = 0x01 ∧ k = .flushDeliveryQueue)))) ∧
  (∀ (q d : DescId) (qs : List DescId) (r : Request) (s : State), RequestTaken q d qs r s → r.row = none →
    ∃ t, exec .builderChooseJob s = .next t ∧ Replied d qs s t ∧
      (Fresh r s →
        (∀ u, (perform r u).status = if r.preCheck = .ok then .badValue else r.preCheck) ∧
        t.agent.counters = { s.agent.counters with
          executed := ctrInc s.agent.counters.executed, refused := ctrInc s.agent.counters.refused }) ∧
      (¬ Fresh r s →
        t.agent.counters = { s.agent.counters with replays := ctrInc s.agent.counters.replays }) ∧
      t.il = s.il ∧ t.sched = s.sched ∧ t.align = s.align ∧ t.rx = s.rx ∧ t.ports = s.ports ∧
      t.classifier = s.classifier ∧ t.policy = s.policy ∧ t.routes = s.routes ∧ t.agent.address = s.agent.address ∧
      t.agent.mgmtClass = s.agent.mgmtClass ∧ t.agent.noticeDest = s.agent.noticeDest ∧
      t.agent.noticeMask = s.agent.noticeMask ∧ t.agent.stallLimit = s.agent.stallLimit ∧
      t.agent.notices = s.agent.notices)

/-- The reply frame (R164, R171, R3, 12.1): its bytes in the claimed descriptor, copied fields, status, flags and data. -/
def Obligations.ReplyFrameIsWritten : Prop :=
  (∀ (r : BitVec 16) (b : Byte), crcByte r b = [7, 6, 5, 4, 3, 2, 1, 0].foldl (fun r i => crcStep r (b.getLsbD i)) r) ∧
  (∀ (r : BitVec 16) (bs : List Byte), crcBytes r bs = bs.foldl crcByte r) ∧
  crcBytes 0xFFFF [0x31, 0x32, 0x33, 0x34, 0x35, 0x36, 0x37, 0x38, 0x39] = 0x29B1 ∧
  (∀ (dest src : Addr) (tag : Byte) (payload : List Byte),
    (let body : List Byte :=
       bytesOf 2 dest.toNat ++ bytesOf 2 src.toNat ++ [tag] ++ bytesOf 2 payload.length ++ payload
     frameOf dest src tag payload = body ++ bytesOf 2 (crcBytes 0xFFFF body).toNat) ∧
    crcBytes 0xFFFF (frameOf dest src tag payload) = 0) ∧
  (∀ (i : Instr) (q d : DescId) (qs : List DescId) (r : Request) (s : State), RequestTaken q d qs r s →
    (i = .builderChooseJob ∨ ∃ k, r.row = some k ∧ i = k.command) →
    StoreOk s → MemoryOk s → (r.row ≠ some .trafficReset ∨ r.preCheck ≠ .ok ∨ ¬ Fresh r s) →
    ∃ t, exec i s = .next t ∧
      (∀ e, replayEntry r s.agent.replay = some e → FrameIs d (frameOf r.src s.agent.address r.tag
        (bytesOf 2 r.seq.toNat ++ [r.kind ||| 0x80, e.status.code, if e.replayed then 0x03 else 0x01])) t.store) ∧
      (∀ st, Fresh r s → s.store.agentClaim (replyCells r s.agent.replay) = some (d, st) →
        (let u := atExecution q qs st s
         let x := (perform r (countExecuted u)).status
         ∃ data, FrameIs d (frameOf r.src t.agent.address r.tag
             (bytesOf 2 r.seq.toNat ++ [r.kind ||| 0x80, x.code, 0x00] ++ data)) t.store ∧
           (kindOf r.kind = some .readCounters ∧ r.preCheck = .ok →
             data = counterBytes u ∨ data = counterBytes (countExecuted u)) ∧
           (¬ (kindOf r.kind = some .readCounters ∧ r.preCheck = .ok) →
             data = (perform r (countExecuted u)).data))))

def Obligations.ReplayIsAnsweredWithoutExecution : Prop :=
  ∀ (k : RequestRow) (q d : DescId) (qs : List DescId) (r : Request) (e : ReplayEntry) (s : State),
    RequestReady k q d qs r s → replayEntry r s.agent.replay = some e →
    ∃ t, exec k.command s = .next t ∧ Replied d qs s t ∧
      t.agent.counters = { s.agent.counters with replays := ctrInc s.agent.counters.replays } ∧
      t.agent.replay.head? = some { e with replayed := true } ∧ t.il = s.il ∧ t.sched = s.sched ∧ t.align = s.align ∧
      t.rx = s.rx ∧ t.ports = s.ports ∧ t.classifier = s.classifier ∧ t.policy = s.policy ∧ t.routes = s.routes ∧
      t.agent.address = s.agent.address ∧ t.agent.mgmtClass = s.agent.mgmtClass ∧
      t.agent.noticeDest = s.agent.noticeDest ∧ t.agent.noticeMask = s.agent.noticeMask ∧
      t.agent.stallLimit = s.agent.stallLimit ∧ t.agent.notices = s.agent.notices

/-- The checks of R165 in their order; a request refused by any check has no effect. -/
def Obligations.RefusedRequestHasNoEffect : Prop :=
  (∀ (r : Request) (s : State), (perform r s).status ≠ .ok → (perform r s).state = s ∧ (perform r s).data = []) ∧
    (∀ (b : Byte) (k : ReqKind), kindOf b = some k ↔ (b, k) ∈ ([(0x01, .query), (0x02, .read), (0x03, .write),
      (0x04, .commit), (0x05, .abandon), (0x06, .setAlign), (0x07, .setGlobal), (0x08, .readCounters), (0x09, .flush),
      (0x0A, .trafficReset)] : List (Byte × ReqKind))) ∧
    (∀ (b : Byte) (t : TableId), tableOf b = some t ↔ (b, t) ∈ ([(0x01, .classify), (0x02, .portDefault),
      (0x03, .classPolicy), (0x04, .route), (0x05, .portConfig), (0x06, .scheduleActive), (0x07, .scheduleStandby),
      (0x08, .hits)] : List (Byte × TableId))) ∧
    (∀ t : TableId, (t, t.entries, t.entrySize) ∈ ([(.classify, 32, 7), (.portDefault, 4, 1), (.classPolicy, 6, 3),
      (.route, 64, 4), (.portConfig, 4, 3), (.scheduleActive, 17, 4), (.scheduleStandby, 17, 4),
      (.hits, 32, 4)] : List (TableId × Nat × Nat))) ∧
    (∀ x : Status, (x, x.code) ∈ ([(.ok, 0x00), (.badKind, 0x01), (.badTable, 0x02), (.badValue, 0x03),
      (.badLength, 0x04), (.badIndex, 0x05), (.duplicate, 0x06), (.readOnly, 0x07), (.pending, 0x08),
      (.notPending, 0x09), (.badSchedule, 0x0A)] : List (Status × Byte))) ∧
    (∀ (r : Request) (s : State), r.preCheck ≠ .ok → (perform r s).status = r.preCheck) ∧
    (∀ r : Request, kindOf r.kind = none → r.preCheck = .badKind) ∧
    (∀ (r : Request) (k : ReqKind), kindOf r.kind = some k → k = .read ∨ k = .write → tableOf r.table = none →
      r.preCheck = .badTable) ∧
    (∀ (r : Request) (k : ReqKind) (t : TableId), kindOf r.kind = some k → k = .read ∨ k = .write →
      tableOf r.table = some t →
      (let size := if k = .write then r.count * t.entrySize else 0
       (r.len - 6 ≠ size → r.preCheck = .badLength) ∧
       (r.len - 6 = size → r.count = 0 ∨ t.entries < r.index + r.count → r.preCheck = .badIndex) ∧
       (r.len - 6 = size → 1 ≤ r.count → r.index + r.count ≤ t.entries →
         r.preCheck = if k = .write ∧ (t = .scheduleActive ∨ t = .hits) then .readOnly else .ok))) ∧
    (∀ (r : Request) (k : ReqKind) (n : Nat), kindOf r.kind = some k →
      (k, n) ∈ [(.query, 0), (.commit, 0), (.abandon, 0), (.setAlign, 3), (.setGlobal, 14), (.readCounters, 1),
        (.flush, 2), ((.trafficReset : ReqKind), 0)] →
      r.preCheck = if r.len - 6 = n then .ok else .badLength) ∧
    (∀ (r : Request) (s : State), r.preCheck = .ok →
      (let b := byteAt r.params
       let x := (perform r s).status
       (kindOf r.kind ∈ [some .query, some .read, some .readCounters, some .trafficReset] → x = .ok) ∧
       (kindOf r.kind = some .commit → x = if s.sched.commit = .pending then .pending
         else if s.sched.standbyBank.valid = true then .ok else .badSchedule) ∧
       (kindOf r.kind = some .abandon → x = if s.sched.commit = .pending then .ok else .notPending) ∧
       (kindOf r.kind = some .setAlign → x = if ((b 0).getLsbD 1 = true ∧ b 2 = 0) ∨
         ((b 0).getLsbD 0 = true ∧ b 1 ≠ 0x00 ∧ b 1 ≠ 0x01) then .badValue else .ok) ∧
       (kindOf r.kind = some .setGlobal → (x = .ok ↔ (∀ i ∈ [0, 3, 5, 8, 11], b i = 0x00 ∨ b i = 0x01) ∧
         (b 0 = 0x01 → wordAt r.params 1 ≠ 0x0000 ∧ wordAt r.params 1 ≠ 0xFFFF ∧
           routeLookup (wordAt r.params 1) s.routes = none) ∧
         (b 3 = 0x01 → (b 4).toNat ≤ 5) ∧ (b 8 = 0x01 → 16 ≤ (wordAt r.params 9).toNat) ∧
         (b 11 = 0x01 → (wordAt r.params 12).toNat < 512)) ∧ (x = .ok ∨ x = .badValue)) ∧
       (kindOf r.kind = some .flush → x = if (b 0 = 0x00 ∧ (b 1).toNat ≤ 5) ∨ (b 0 = 0x01 ∧ (b 1).toNat ≤ 3) then .ok
         else .badValue) ∧
       (kindOf r.kind = some .write →
         (∀ t, tableOf r.table = some t → t ∈ [TableId.classify, .portDefault, .classPolicy, .portConfig] →
           x = .ok ∨ x = .badValue) ∧
         (tableOf r.table = some .classify → (x = .ok ↔ ∃ es, EntriesAre r 7 (fun _ bs => classEntryOf bs) es)) ∧
         (tableOf r.table = some .portDefault →
           (x = .ok ↔ ∃ es, EntriesAre r 1 (fun _ bs => actionOf (byteAt bs 0)) es)) ∧
         (tableOf r.table = some .classPolicy → (x = .ok ↔ ∃ es, EntriesAre r 3 (fun _ bs => classPolicyOf bs) es)) ∧
         (tableOf r.table = some .portConfig → (x = .ok ↔ ∃ es, EntriesAre r 3 (fun _ bs => portConfigOf bs) es)) ∧
         (tableOf r.table = some .route →
           ((¬ ∃ es, EntriesAre r 4 (fun _ bs => routeOf s.agent.address bs) es) → x = .badValue) ∧
           (∀ es, EntriesAre r 4 (fun _ bs => routeOf s.agent.address bs) es →
             (SameAddressTwice (routesAfter r es s) → x = .duplicate) ∧
             (¬ SameAddressTwice (routesAfter r es s) → x = .ok))) ∧
         (tableOf r.table = some .scheduleStandby →
           (s.sched.commit = .pending → x = .pending) ∧
           (s.sched.commit = .idle → (x = .ok ∨ x = .badValue) ∧
             (x = .ok ↔ ∃ es, EntriesAre r 4 (fun j bs => scheduleEntryOf (r.index + j) bs) es))))))

/-- QUERY, READ, READ_COUNTERS without clear and a WRITE to a read-only table change the Agent and the store alone (R59,
R144, R166, R167, R180). -/
def Obligations.ReadingRequests : Prop :=
  (∀ (k : RequestRow) (q d : DescId) (qs : List DescId) (r : Request) (s : State), RequestReady k q d qs r s →
      (k = .query ∨ k = .read ∨ k = .readCounters ∨ k = .writeReadOnlyTable) →
      ∃ t, exec k.command s = .next t ∧ Replied d qs s t ∧ t.il = s.il ∧ t.sched = s.sched ∧ t.align = s.align ∧
        t.rx = s.rx ∧ t.ports = s.ports ∧ t.classifier = s.classifier ∧ t.policy = s.policy ∧ t.routes = s.routes ∧
        t.agent.address = s.agent.address ∧ t.agent.mgmtClass = s.agent.mgmtClass ∧
        t.agent.noticeDest = s.agent.noticeDest ∧ t.agent.noticeMask = s.agent.noticeMask ∧
        t.agent.stallLimit = s.agent.stallLimit ∧ t.agent.notices = s.agent.notices) ∧
  (∀ (r : Request) (s : State), r.preCheck = .ok →
      (kindOf r.kind = some .query → (perform r s).data = ([0x4E, 0x4C, 0x01] : List Byte) ++ bytesOf 2 s.agent.address.toNat ++
        [layoutFlag s.trunkRx.up,
          (match s.align.state with
            | .free => 0x00
            | .seeking => 0x01
            | .locked => 0x02
            | .holdover => 0x03),
          (match s.sched.active with
            | .a => 0x00
            | .b => 0x01),
          layoutFlag (decide (s.sched.commit = .pending))] ++
          bytesOf 2 s.store.freeCells.length ++ bytesOf 1 s.store.freeDescs.length) ∧
      (∀ t, kindOf r.kind = some .read → tableOf r.table = some t → (perform r s).data =
        (List.range r.count).flatMap fun j => layoutEntry s t (r.index + j)) ∧
      (kindOf r.kind = some .readCounters → (perform r s).data = counterBytes s)) ∧
  (∀ s : State, counterBytes s = (counterOrder s).flatMap (fun k => bytesOf 4 k.toNat) ∧ (counterBytes s).length = 360)

/-- A WRITE writes its entries together, or nothing (R58, R126, R146, R147, R153, R154, R166). -/
def Obligations.WriteReachesItsTable : Prop :=
  (∀ (k : RequestRow) (q d : DescId) (qs : List DescId) (r : Request) (s : State), RequestReady k q d qs r s →
    Fresh r s → r.preCheck = .ok →
    (k = .writeClassify → ∀ es, EntriesAre r 7 (fun _ bs => classEntryOf bs) es →
      ∃ t, exec .writeClassify s = .next t ∧ Replied d qs s t ∧ t.routes = s.routes ∧ t.policy = s.policy ∧
        t.classifier.defaults = s.classifier.defaults ∧
        ∀ i, vget t.classifier.entries i = written r.index es i.val (vget s.classifier.entries i)) ∧
    (k = .writePortDefault → ∀ es, EntriesAre r 1 (fun _ bs => actionOf (byteAt bs 0)) es →
      ∃ t, exec .writePortDefault s = .next t ∧ Replied d qs s t ∧ t.routes = s.routes ∧ t.policy = s.policy ∧
        t.classifier.entries = s.classifier.entries ∧
        ∀ i, vget t.classifier.defaults i = written r.index es i.val (vget s.classifier.defaults i)) ∧
    (k = .writeClassPolicy → ∀ es, EntriesAre r 3 (fun _ bs => classPolicyOf bs) es →
      ∃ t, exec .writeClassPolicy s = .next t ∧ Replied d qs s t ∧ t.routes = s.routes ∧
        t.classifier = s.classifier ∧ ∀ i, vget t.policy i = written r.index es i.val (vget s.policy i)) ∧
    (k = .writeRoute → ∀ es, EntriesAre r 4 (fun _ bs => routeOf s.agent.address bs) es →
      ∃ t, exec .writeRoute s = .next t ∧ Replied d qs s t ∧ t.classifier = s.classifier ∧ t.policy = s.policy ∧
        (SameAddressTwice (routesAfter r es s) → t.routes = s.routes) ∧
        (¬ SameAddressTwice (routesAfter r es s) → ∀ i, vget t.routes i = routesAfter r es s i)) ∧
    (k = .writePortConfig → ∀ es, EntriesAre r 3 (fun _ bs => portConfigOf bs) es →
      ∃ t, exec .writePortConfig s = .next t ∧ Replied d qs s t ∧ t.classifier = s.classifier ∧ t.policy = s.policy ∧
        t.routes = s.routes ∧ ∀ p : PortIx,
          (t.port p).config = written r.index es p.val (s.port p).config ∧
          (StoreOk s → (s.port p).serving = (t.port p).serving →
            t.port p = { s.port p with config := (t.port p).config }) ∧
          (StoreOk s → (s.port p).serving = true → (t.port p).serving = false →
            (t.port p).framer = { (s.framer p) with state := .idle, desc := none, gap := 0 } ∧
            (t.port p).delivery = [] ∧ (t.port p).sending = none ∧ (t.port p).markPending = false ∧
            (t.port p).displaced = none ∧ (t.port p).rx = (s.port p).rx ∧ (t.port p).txLine = (s.port p).txLine ∧
            (t.port p).counters = (if (s.framer p).receiving then { (s.port p).counters with
              failedOther := ctrInc (s.port p).counters.failedOther } else (s.port p).counters) ∧
            (∀ x, (s.framer p).desc = some x → (t.store.desc x).state ≠ .filling)) ∧
          (StoreOk s → (s.port p).serving = false → (t.port p).serving = true →
            t.port p = { s.port p with
              config := (t.port p).config
              framer := { (s.framer p) with state := .idle, desc := none, gap := 0 } })) ∧
    (k = .writeScheduleStandby → ∀ es, EntriesAre r 4 (fun j bs => scheduleEntryOf (r.index + j) bs) es →
      ∃ t, exec .writeScheduleStandby s = .next t ∧ Replied d qs s t ∧ t.sched.activeBank = s.sched.activeBank ∧
        t.sched.commit = s.sched.commit ∧ t.sched.counter = s.sched.counter ∧
        (s.sched.commit = .pending → t.sched.standbyBank = s.sched.standbyBank) ∧
        (s.sched.commit = .idle →
          (let old := s.sched.standbyBank
           let new := t.sched.standbyBank
           (r.index = 0 → es[0]? = some (.header new.length new.count)) ∧
           (r.index ≠ 0 → new.length = old.length ∧ new.count = old.count) ∧
           ∀ i : Fin 16, if r.index ≤ i.val + 1 ∧ i.val + 1 < r.index + r.count then
               es[i.val + 1 - r.index]? = some (.window (new.window i.val))
             else new.window i.val = old.window i.val)))) ∧
  (∀ (b0 b1 b2 b3 b4 b5 b6 : Byte) (e : ClassEntry), classEntryOf [b0, b1, b2, b3, b4, b5, b6] = some e ↔
    b0.getLsbD 4 = false ∧ b0.getLsbD 5 = false ∧ b0.getLsbD 6 = false ∧ (b3 = 0x00 ∨ b3 = 0x01) ∧
      (b6.toNat ≤ 5 ∨ b6 = 0x80) ∧
      e = { valid := b0.getLsbD 7, ports := b0.setWidth 4, tagValue := b1, tagMask := b2, srcMatch := decide (b3 = 0x01),
            srcValue := b4 ++ b5, action := if b6 = 0x80 then .drop else .forward (Fin.ofNat 6 b6.toNat), hits := 0 }) ∧
  (∀ (b : Byte) (a : Action), actionOf (byteAt [b] 0) = some a ↔
    (b.toNat ≤ 5 ∧ a = .forward (Fin.ofNat 6 b.toNat)) ∨ (b = 0x80 ∧ a = .drop)) ∧
  (∀ (b0 b1 b2 : Byte) (e : ClassPolicy), classPolicyOf [b0, b1, b2] = some e ↔
    (b0 = 0x00 ∨ b0 = 0x01) ∧ (b1 = 0x00 ∨ b1 = 0x01) ∧ 1 ≤ b2.toNat ∧ b2.toNat ≤ 128 ∧
      e = { preemptible := decide (b0 = 0x01), cutThrough := decide (b1 = 0x01), queueLimit := b2.toNat }) ∧
  (∀ (g : Addr) (b0 b1 b2 b3 : Byte) (e : Route), routeOf g [b0, b1, b2, b3] = some e ↔
    (b0 = 0x00 ∨ b0 = 0x01) ∧ b3.toNat ≤ 3 ∧
      (b0 = 0x01 → e.address ≠ 0x0000 ∧ e.address ≠ 0xFFFF ∧ e.address ≠ g) ∧
      e = { valid := decide (b0 = 0x01), address := b1 ++ b2, port := Fin.ofNat 4 b3.toNat }) ∧
  (∀ (b0 b1 b2 : Byte) (x : PortConfig), portConfigOf [b0, b1, b2] = some x ↔ 16 ≤ x.stallLimit ∧
    x = { enabled := b0.getLsbD 0, markForwarding := b0.getLsbD 1, stallLimit := b1.toNat * 256 + b2.toNat }) ∧
  (∀ (b0 b1 b2 b3 : Byte) (x : ScheduleEntry),
    (let n := b0.toNat * 65536 + b1.toNat * 256 + b2.toNat
     (scheduleEntryOf 0 [b0, b1, b2, b3] = some x ↔
       2048 ≤ n ∧ n ≤ 1048576 ∧ 1 ≤ b3.toNat ∧ b3.toNat ≤ 16 ∧ x = .header n b3.toNat) ∧
     ∀ i, scheduleEntryOf (i + 1) [b0, b1, b2, b3] = some x ↔ n ≤ 1048575 ∧ b3.getLsbD 6 = false ∧
       b3.getLsbD 7 = false ∧ x = .window { offset := n, openSet := b3.setWidth 6 })) ∧
  (∀ e : ClassEntry, classEntryOf (layoutClassEntry e) = some { e with hits := 0 }) ∧
  (∀ a : Action, actionOf (layoutAction a) = some a) ∧
  (∀ e : ClassPolicy, 1 ≤ e.queueLimit → e.queueLimit ≤ 128 →
    classPolicyOf ([layoutFlag e.preemptible, layoutFlag e.cutThrough] ++ bytesOf 1 e.queueLimit) = some e) ∧
  (∀ (g : Addr) (e : Route), (e.valid = true → e.address ≠ 0x0000 ∧ e.address ≠ 0xFFFF ∧ e.address ≠ g) →
    routeOf g ([layoutFlag e.valid] ++ bytesOf 2 e.address.toNat ++ bytesOf 1 e.port.val) = some e) ∧
  (∀ x : PortConfig, 16 ≤ x.stallLimit → x.stallLimit ≤ 65535 → portConfigOf (layoutPortConfig x) = some x) ∧
  (∀ k : Bank, 2048 ≤ k.length → k.length ≤ 1048576 → 1 ≤ k.count → k.count ≤ 16 →
    scheduleEntryOf 0 (layoutSchedule k 0) = some (.header k.length k.count)) ∧
  (∀ (k : Bank) (i : Nat), (k.window i).offset ≤ 1048575 →
    scheduleEntryOf (i + 1) (layoutSchedule k (i + 1)) = some (.window (k.window i)))

/-- COMMIT, ABANDON and SET_ALIGN (R60, R61, R86). -/
def Obligations.ScheduleAndAlignmentRequests : Prop :=
  ∀ (k : RequestRow) (q d : DescId) (qs : List DescId) (r : Request) (s : State), RequestReady k q d qs r s →
    Fresh r s → r.preCheck = .ok →
    (k = .commit → ∃ t, exec .commit s = .next t ∧ Replied d qs s t ∧ t.align = s.align ∧
      t.sched = { s.sched with commit :=
        if s.sched.commit = .pending ∨ s.sched.standbyBank.valid = true then .pending else .idle } ∧
      t.agent.replay.head? = some { requester := r.src, seq := r.seq, kind := r.kind, replayed := false, status :=
        if s.sched.commit = .pending then .pending
        else if s.sched.standbyBank.valid = true then .ok else .badSchedule }) ∧
    (k = .abandon → ∃ t, exec .abandon s = .next t ∧ Replied d qs s t ∧ t.align = s.align ∧
      t.sched = { s.sched with commit := .idle } ∧
      t.agent.replay.head? = some { requester := r.src, seq := r.seq, kind := r.kind, replayed := false, status :=
        if s.sched.commit = .pending then .ok else .notPending }) ∧
    (k = .setAlign → ∃ t, exec .setAlign s = .next t ∧ Replied d qs s t ∧ t.sched = s.sched ∧
      (let modePresent := (byteAt r.params 0).getLsbD 0
       let widthPresent := (byteAt r.params 0).getLsbD 1
       let refused := (widthPresent = true ∧ byteAt r.params 2 = 0) ∨
         (modePresent = true ∧ byteAt r.params 1 ≠ 0x00 ∧ byteAt r.params 1 ≠ 0x01)
       let recorded (x : Status) : Prop := t.agent.replay.head? =
         some { requester := r.src, seq := r.seq, kind := r.kind, replayed := false, status := x }
       (refused → t.align = s.align ∧ recorded .badValue) ∧
       (¬ refused → recorded .ok ∧ t.align.width = (if widthPresent then (byteAt r.params 2).toNat else s.align.width) ∧
         t.align.counters = s.align.counters ∧
         (modePresent = false → t.align.mode = s.align.mode ∧ t.align.state = s.align.state ∧
           t.align.miss = s.align.miss ∧ t.align.expect = s.align.expect) ∧
         (modePresent = true → t.align.miss = 0 ∧ t.align.expect = false ∧
           (byteAt r.params 1 = 0x00 → t.align.mode = .free ∧ t.align.state = .free) ∧
           (byteAt r.params 1 = 0x01 → t.align.mode = .follow ∧ t.align.state = .seeking)))))

/-- SET_GLOBAL with every field present (R169): refused whole, or applied whole; with no field present it changes nothing. -/
def Obligations.SetGlobalAppliesItsFieldsTogether : Prop :=
  ∀ (q d : DescId) (qs : List DescId) (r : Request) (s : State), RequestReady .setGlobal q d qs r s → Fresh r s →
    r.preCheck = .ok →
    (let b := byteAt r.params
     let w := wordAt r.params
     let flagsOk := ∀ i ∈ [0, 3, 5, 8, 11], b i = 0x00 ∨ b i = 0x01
     let addressOk := b 0 = 0x01 → w 1 ≠ 0x0000 ∧ w 1 ≠ 0xFFFF ∧ routeLookup (w 1) s.routes = none
     let classOk := b 3 = 0x01 → (b 4).toNat ≤ 5
     let limitOk := b 8 = 0x01 → 16 ≤ (w 9).toNat
     let maskOk := b 11 = 0x01 → (w 12).toNat < 512
     let accepted := flagsOk ∧ addressOk ∧ classOk ∧ limitOk ∧ maskOk
     ∃ t, exec .setGlobal s = .next t ∧ Replied d qs s t ∧ t.routes = s.routes ∧ t.ports = s.ports ∧
       (¬ accepted → t.agent.address = s.agent.address ∧ t.agent.mgmtClass = s.agent.mgmtClass ∧
         t.agent.noticeDest = s.agent.noticeDest ∧ t.agent.stallLimit = s.agent.stallLimit ∧
         t.agent.noticeMask = s.agent.noticeMask) ∧
       (accepted → t.agent.address = (if b 0 = 0x01 then w 1 else s.agent.address) ∧
         t.agent.mgmtClass.val = (if b 3 = 0x01 then (b 4).toNat else s.agent.mgmtClass.val) ∧
         t.agent.noticeDest = (if b 5 = 0x01 then w 6 else s.agent.noticeDest) ∧
         t.agent.stallLimit = (if b 8 = 0x01 then (w 9).toNat else s.agent.stallLimit) ∧
         t.agent.noticeMask = (if b 11 = 0x01 then (w 12).setWidth 9 else s.agent.noticeMask)))

/-- READ_COUNTERS with clear (R181): every counter of the set is 0 but for the request's own count, and so is every hit
count; the tables keep their entries. -/
def Obligations.ClearingReadZeroesTheCounters : Prop :=
  ∀ (q d : DescId) (qs : List DescId) (r : Request) (s : State), RequestReady .readCountersClear q d qs r s →
    Fresh r s →
    ∃ t, exec .readCountersClear s = .next t ∧ Replied d qs s t ∧ t.il.counters = IlCounters.zero ∧
      t.sched.unfit = Vector.replicate 6 0 ∧ t.align.counters = AlignCounters.zero ∧
      t.rx.counters = RxCounters.zero ∧ (∀ p, (t.port p).counters = PortCounters.zero) ∧
      (t.agent.counters = AgentCounters.zero ∨ t.agent.counters = { AgentCounters.zero with executed := 1 }) ∧
      (∀ i, vget t.classifier.entries i = { vget s.classifier.entries i with hits := 0 }) ∧
      t.il.stack = s.il.stack ∧ t.rx.stack = s.rx.stack ∧ t.sched.counter = s.sched.counter ∧ t.routes = s.routes ∧
      t.policy = s.policy ∧ t.agent.notices = s.agent.notices

/-- FLUSH (R123, R137): the queue named is emptied but for the reply itself, and the other queues are kept. -/
def Obligations.FlushEmptiesItsQueue : Prop :=
  ∀ (k : RequestRow) (q d : DescId) (qs : List DescId) (r : Request) (s : State), StoreOk s →
    RequestReady k q d qs r s → Fresh r s → r.preCheck = .ok →
    (∀ c : Cls, k = .flushClassQueue → byteAt r.params 1 = BitVec.ofNat 8 c.val →
      ∃ t, exec .flushClassQueue s = .next t ∧ Replied d qs s t ∧ t.il.stack = s.il.stack ∧
        (∀ c', t.store.queue c' = (if c' = c then [] else s.store.queue c') ++
          (if c' = s.agent.mgmtClass then [d] else [])) ∧
        (∀ p, (t.port p).delivery = (s.port p).delivery ∧ (t.port p).sending = (s.port p).sending)) ∧
    (∀ p : PortIx, k = .flushDeliveryQueue → byteAt r.params 1 = BitVec.ofNat 8 p.val →
      ∃ t, exec .flushDeliveryQueue s = .next t ∧ Replied d qs s t ∧ t.il = s.il ∧
        ∀ p', (t.port p').delivery = (if p' = p then [] else (s.port p').delivery) ∧
          (t.port p').sending = (s.port p').sending ∧ (t.port p').counters = (s.port p').counters)

/-- TRAFFIC_RESET (R106, R124, R135, R137, R138, R173, R174). -/
def Obligations.TrafficResetEmptiesTheDevice : Prop :=
  ∀ (q d : DescId) (qs : List DescId) (r : Request) (s : State), StoreOk s →
    RequestReady .trafficReset q d qs r s → Fresh r s → r.preCheck = .ok →
    ∃ t, exec .trafficReset s = .next t ∧ t.il.stack = s.il.stack ∧ t.agent.inbox = [] ∧ t.agent.inHand = none ∧
      (∃ n, n.toNat = min (s.agent.counters.droppedByReset.toNat + qs.length) 0xFFFFFFFF ∧
        t.agent.counters = { s.agent.counters with
          executed := ctrInc s.agent.counters.executed, droppedByReset := n }) ∧
      (∀ p, (t.port p).delivery = [] ∧ (t.port p).sending = none ∧ (t.port p).markPending = false ∧
        (t.port p).displaced = none ∧
        ((s.framer p).receiving = true → (t.framer p).state = .discard ∧ (t.framer p).desc = none) ∧
        (t.port p).config = (s.port p).config) ∧
      t.rx.stack = s.rx.stack ∧ t.rx.mode = s.rx.mode ∧ t.rx.counters = s.rx.counters ∧
      (∀ c, rxOpenClass s c = true → (t.context c).disposition = .discard .reset ∧ (t.context c).storage = none) ∧
      t.sched = s.sched ∧ t.align = s.align ∧ t.classifier = s.classifier ∧ t.policy = s.policy ∧
      t.routes = s.routes ∧ t.agent.notices = s.agent.notices ∧ t.agent.address = s.agent.address ∧
      (s.il.stack ≠ [] → t.il.drain = true ∧ t.agent.builder = .executing ∧ (∀ c, t.store.queue c = []) ∧
        t.il.hold = none) ∧
      (s.il.stack ≠ [] → t.agent.owed = some { desc := d, dest := r.src, tag := r.tag, seq := r.seq }) ∧
      (s.il.stack = [] → t.il.drain = false ∧ t.il.hold = some d ∧ Replied d [] s t ∧
        (∀ c, t.store.queue c = if c = s.agent.mgmtClass then [d] else []) ∧
        (MemoryOk s → FrameIs d (frameOf r.src s.agent.address r.tag
          [hiByte r.seq, loByte r.seq, 0x8A, 0x00, 0x00]) t.store))

/-! ### What every step keeps -/

def Obligations.ReceiveStackIsKept : Prop :=
  ∀ s t : State, ReceiveStackOk s → step s = .next t → ReceiveStackOk t

def Obligations.ScheduleIsKept : Prop :=
  ∀ s t : State, ScheduleOk s → step s = .next t → ScheduleOk t

def Obligations.AlignmentIsKept : Prop :=
  ∀ s t : State, AlignOk s → step s = .next t → AlignOk t

def Obligations.IdlePortsAndLineRunsAreKept : Prop :=
  ∀ s t : State, LinesOk s ∧ PortsOk s → step s = .next t → LinesOk t ∧ PortsOk t

def Obligations.CanonicalMemoryIsKept : Prop :=
  ∀ s t : State, MemoryOk s → step s = .next t → MemoryOk t

def Obligations.RoutesNoticesAndReplaysAreKept : Prop :=
  (∀ s t : State, RoutesOk s → step s = .next t → RoutesOk t) ∧
    ∀ s t : State, NoticesOk s ∧ ReplayOk s → step s = .next t → NoticesOk t ∧ ReplayOk t

def Obligations.BuilderAndDrainAgree : Prop :=
  ∀ s t : State, BuilderOk s → step s = .next t → BuilderOk t

def Obligations.StoreConservesItsCells : Prop :=
  ∀ s t : State, StoreOk s → BuilderOk s → step s = .next t → StoreOk t
end

