-- ==== Sys2Proof/Laws/State.lean ====
section
/-! SUPPORT. What each update of one part of the state leaves in each field. -/

namespace Sys2Proof.Machine

section
variable (s : State) (f : LineRx → LineRx)
@[simp] theorem State.updTrunkRx_pending : (s.updTrunkRx f).pending = s.pending := rfl
@[simp] theorem State.updTrunkRx_resetHeld : (s.updTrunkRx f).resetHeld = s.resetHeld := rfl
@[simp] theorem State.updTrunkRx_straps : (s.updTrunkRx f).straps = s.straps := rfl
@[simp] theorem State.updTrunkRx_trunkRx : (s.updTrunkRx f).trunkRx = f s.trunkRx := rfl
@[simp] theorem State.updTrunkRx_trunkTx : (s.updTrunkRx f).trunkTx = s.trunkTx := rfl
@[simp] theorem State.updTrunkRx_il : (s.updTrunkRx f).il = s.il := rfl
@[simp] theorem State.updTrunkRx_sched : (s.updTrunkRx f).sched = s.sched := rfl
@[simp] theorem State.updTrunkRx_align : (s.updTrunkRx f).align = s.align := rfl
@[simp] theorem State.updTrunkRx_rx : (s.updTrunkRx f).rx = s.rx := rfl
@[simp] theorem State.updTrunkRx_store : (s.updTrunkRx f).store = s.store := rfl
@[simp] theorem State.updTrunkRx_ports : (s.updTrunkRx f).ports = s.ports := rfl
@[simp] theorem State.updTrunkRx_classifier : (s.updTrunkRx f).classifier = s.classifier := rfl
@[simp] theorem State.updTrunkRx_policy : (s.updTrunkRx f).policy = s.policy := rfl
@[simp] theorem State.updTrunkRx_routes : (s.updTrunkRx f).routes = s.routes := rfl
@[simp] theorem State.updTrunkRx_agent : (s.updTrunkRx f).agent = s.agent := rfl
@[simp] theorem State.updTrunkRx_freeDraws : (s.updTrunkRx f).freeDraws = s.freeDraws := rfl
end

section
variable (s : State) (v : Option TrunkSymbol)
@[simp] theorem State.setTrunkTx_pending : (s.setTrunkTx v).pending = s.pending := rfl
@[simp] theorem State.setTrunkTx_resetHeld : (s.setTrunkTx v).resetHeld = s.resetHeld := rfl
@[simp] theorem State.setTrunkTx_straps : (s.setTrunkTx v).straps = s.straps := rfl
@[simp] theorem State.setTrunkTx_trunkRx : (s.setTrunkTx v).trunkRx = s.trunkRx := rfl
@[simp] theorem State.setTrunkTx_trunkTx : (s.setTrunkTx v).trunkTx = v := rfl
@[simp] theorem State.setTrunkTx_il : (s.setTrunkTx v).il = s.il := rfl
@[simp] theorem State.setTrunkTx_sched : (s.setTrunkTx v).sched = s.sched := rfl
@[simp] theorem State.setTrunkTx_align : (s.setTrunkTx v).align = s.align := rfl
@[simp] theorem State.setTrunkTx_rx : (s.setTrunkTx v).rx = s.rx := rfl
@[simp] theorem State.setTrunkTx_store : (s.setTrunkTx v).store = s.store := rfl
@[simp] theorem State.setTrunkTx_ports : (s.setTrunkTx v).ports = s.ports := rfl
@[simp] theorem State.setTrunkTx_classifier : (s.setTrunkTx v).classifier = s.classifier := rfl
@[simp] theorem State.setTrunkTx_policy : (s.setTrunkTx v).policy = s.policy := rfl
@[simp] theorem State.setTrunkTx_routes : (s.setTrunkTx v).routes = s.routes := rfl
@[simp] theorem State.setTrunkTx_agent : (s.setTrunkTx v).agent = s.agent := rfl
@[simp] theorem State.setTrunkTx_freeDraws : (s.setTrunkTx v).freeDraws = s.freeDraws := rfl
end

section
variable (s : State) (f : Interleaver → Interleaver)
@[simp] theorem State.updIl_pending : (s.updIl f).pending = s.pending := rfl
@[simp] theorem State.updIl_resetHeld : (s.updIl f).resetHeld = s.resetHeld := rfl
@[simp] theorem State.updIl_straps : (s.updIl f).straps = s.straps := rfl
@[simp] theorem State.updIl_trunkRx : (s.updIl f).trunkRx = s.trunkRx := rfl
@[simp] theorem State.updIl_trunkTx : (s.updIl f).trunkTx = s.trunkTx := rfl
@[simp] theorem State.updIl_il : (s.updIl f).il = f s.il := rfl
@[simp] theorem State.updIl_sched : (s.updIl f).sched = s.sched := rfl
@[simp] theorem State.updIl_align : (s.updIl f).align = s.align := rfl
@[simp] theorem State.updIl_rx : (s.updIl f).rx = s.rx := rfl
@[simp] theorem State.updIl_store : (s.updIl f).store = s.store := rfl
@[simp] theorem State.updIl_ports : (s.updIl f).ports = s.ports := rfl
@[simp] theorem State.updIl_classifier : (s.updIl f).classifier = s.classifier := rfl
@[simp] theorem State.updIl_policy : (s.updIl f).policy = s.policy := rfl
@[simp] theorem State.updIl_routes : (s.updIl f).routes = s.routes := rfl
@[simp] theorem State.updIl_agent : (s.updIl f).agent = s.agent := rfl
@[simp] theorem State.updIl_freeDraws : (s.updIl f).freeDraws = s.freeDraws := rfl
end

section
variable (s : State) (f : Schedule → Schedule)
@[simp] theorem State.updSched_pending : (s.updSched f).pending = s.pending := rfl
@[simp] theorem State.updSched_resetHeld : (s.updSched f).resetHeld = s.resetHeld := rfl
@[simp] theorem State.updSched_straps : (s.updSched f).straps = s.straps := rfl
@[simp] theorem State.updSched_trunkRx : (s.updSched f).trunkRx = s.trunkRx := rfl
@[simp] theorem State.updSched_trunkTx : (s.updSched f).trunkTx = s.trunkTx := rfl
@[simp] theorem State.updSched_il : (s.updSched f).il = s.il := rfl
@[simp] theorem State.updSched_sched : (s.updSched f).sched = f s.sched := rfl
@[simp] theorem State.updSched_align : (s.updSched f).align = s.align := rfl
@[simp] theorem State.updSched_rx : (s.updSched f).rx = s.rx := rfl
@[simp] theorem State.updSched_store : (s.updSched f).store = s.store := rfl
@[simp] theorem State.updSched_ports : (s.updSched f).ports = s.ports := rfl
@[simp] theorem State.updSched_classifier : (s.updSched f).classifier = s.classifier := rfl
@[simp] theorem State.updSched_policy : (s.updSched f).policy = s.policy := rfl
@[simp] theorem State.updSched_routes : (s.updSched f).routes = s.routes := rfl
@[simp] theorem State.updSched_agent : (s.updSched f).agent = s.agent := rfl
@[simp] theorem State.updSched_freeDraws : (s.updSched f).freeDraws = s.freeDraws := rfl
end

section
variable (s : State) (f : Align → Align)
@[simp] theorem State.updAlign_pending : (s.updAlign f).pending = s.pending := rfl
@[simp] theorem State.updAlign_resetHeld : (s.updAlign f).resetHeld = s.resetHeld := rfl
@[simp] theorem State.updAlign_straps : (s.updAlign f).straps = s.straps := rfl
@[simp] theorem State.updAlign_trunkRx : (s.updAlign f).trunkRx = s.trunkRx := rfl
@[simp] theorem State.updAlign_trunkTx : (s.updAlign f).trunkTx = s.trunkTx := rfl
@[simp] theorem State.updAlign_il : (s.updAlign f).il = s.il := rfl
@[simp] theorem State.updAlign_sched : (s.updAlign f).sched = s.sched := rfl
@[simp] theorem State.updAlign_align : (s.updAlign f).align = f s.align := rfl
@[simp] theorem State.updAlign_rx : (s.updAlign f).rx = s.rx := rfl
@[simp] theorem State.updAlign_store : (s.updAlign f).store = s.store := rfl
@[simp] theorem State.updAlign_ports : (s.updAlign f).ports = s.ports := rfl
@[simp] theorem State.updAlign_classifier : (s.updAlign f).classifier = s.classifier := rfl
@[simp] theorem State.updAlign_policy : (s.updAlign f).policy = s.policy := rfl
@[simp] theorem State.updAlign_routes : (s.updAlign f).routes = s.routes := rfl
@[simp] theorem State.updAlign_agent : (s.updAlign f).agent = s.agent := rfl
@[simp] theorem State.updAlign_freeDraws : (s.updAlign f).freeDraws = s.freeDraws := rfl
end

section
variable (s : State) (f : Deinterleaver → Deinterleaver)
@[simp] theorem State.updRx_pending : (s.updRx f).pending = s.pending := rfl
@[simp] theorem State.updRx_resetHeld : (s.updRx f).resetHeld = s.resetHeld := rfl
@[simp] theorem State.updRx_straps : (s.updRx f).straps = s.straps := rfl
@[simp] theorem State.updRx_trunkRx : (s.updRx f).trunkRx = s.trunkRx := rfl
@[simp] theorem State.updRx_trunkTx : (s.updRx f).trunkTx = s.trunkTx := rfl
@[simp] theorem State.updRx_il : (s.updRx f).il = s.il := rfl
@[simp] theorem State.updRx_sched : (s.updRx f).sched = s.sched := rfl
@[simp] theorem State.updRx_align : (s.updRx f).align = s.align := rfl
@[simp] theorem State.updRx_rx : (s.updRx f).rx = f s.rx := rfl
@[simp] theorem State.updRx_store : (s.updRx f).store = s.store := rfl
@[simp] theorem State.updRx_ports : (s.updRx f).ports = s.ports := rfl
@[simp] theorem State.updRx_classifier : (s.updRx f).classifier = s.classifier := rfl
@[simp] theorem State.updRx_policy : (s.updRx f).policy = s.policy := rfl
@[simp] theorem State.updRx_routes : (s.updRx f).routes = s.routes := rfl
@[simp] theorem State.updRx_agent : (s.updRx f).agent = s.agent := rfl
@[simp] theorem State.updRx_freeDraws : (s.updRx f).freeDraws = s.freeDraws := rfl
end

section
variable (s : State) (f : FrameStore → FrameStore)
@[simp] theorem State.updStore_pending : (s.updStore f).pending = s.pending := rfl
@[simp] theorem State.updStore_resetHeld : (s.updStore f).resetHeld = s.resetHeld := rfl
@[simp] theorem State.updStore_straps : (s.updStore f).straps = s.straps := rfl
@[simp] theorem State.updStore_trunkRx : (s.updStore f).trunkRx = s.trunkRx := rfl
@[simp] theorem State.updStore_trunkTx : (s.updStore f).trunkTx = s.trunkTx := rfl
@[simp] theorem State.updStore_il : (s.updStore f).il = s.il := rfl
@[simp] theorem State.updStore_sched : (s.updStore f).sched = s.sched := rfl
@[simp] theorem State.updStore_align : (s.updStore f).align = s.align := rfl
@[simp] theorem State.updStore_rx : (s.updStore f).rx = s.rx := rfl
@[simp] theorem State.updStore_store : (s.updStore f).store = f s.store := rfl
@[simp] theorem State.updStore_ports : (s.updStore f).ports = s.ports := rfl
@[simp] theorem State.updStore_classifier : (s.updStore f).classifier = s.classifier := rfl
@[simp] theorem State.updStore_policy : (s.updStore f).policy = s.policy := rfl
@[simp] theorem State.updStore_routes : (s.updStore f).routes = s.routes := rfl
@[simp] theorem State.updStore_agent : (s.updStore f).agent = s.agent := rfl
@[simp] theorem State.updStore_freeDraws : (s.updStore f).freeDraws = s.freeDraws := rfl
end

section
variable (s : State) (f : Vector Port 4 → Vector Port 4)
@[simp] theorem State.updPorts_pending : (s.updPorts f).pending = s.pending := rfl
@[simp] theorem State.updPorts_resetHeld : (s.updPorts f).resetHeld = s.resetHeld := rfl
@[simp] theorem State.updPorts_straps : (s.updPorts f).straps = s.straps := rfl
@[simp] theorem State.updPorts_trunkRx : (s.updPorts f).trunkRx = s.trunkRx := rfl
@[simp] theorem State.updPorts_trunkTx : (s.updPorts f).trunkTx = s.trunkTx := rfl
@[simp] theorem State.updPorts_il : (s.updPorts f).il = s.il := rfl
@[simp] theorem State.updPorts_sched : (s.updPorts f).sched = s.sched := rfl
@[simp] theorem State.updPorts_align : (s.updPorts f).align = s.align := rfl
@[simp] theorem State.updPorts_rx : (s.updPorts f).rx = s.rx := rfl
@[simp] theorem State.updPorts_store : (s.updPorts f).store = s.store := rfl
@[simp] theorem State.updPorts_ports : (s.updPorts f).ports = f s.ports := rfl
@[simp] theorem State.updPorts_classifier : (s.updPorts f).classifier = s.classifier := rfl
@[simp] theorem State.updPorts_policy : (s.updPorts f).policy = s.policy := rfl
@[simp] theorem State.updPorts_routes : (s.updPorts f).routes = s.routes := rfl
@[simp] theorem State.updPorts_agent : (s.updPorts f).agent = s.agent := rfl
@[simp] theorem State.updPorts_freeDraws : (s.updPorts f).freeDraws = s.freeDraws := rfl
end

section
variable (s : State) (f : Classifier → Classifier)
@[simp] theorem State.updClassifier_pending : (s.updClassifier f).pending = s.pending := rfl
@[simp] theorem State.updClassifier_resetHeld : (s.updClassifier f).resetHeld = s.resetHeld := rfl
@[simp] theorem State.updClassifier_straps : (s.updClassifier f).straps = s.straps := rfl
@[simp] theorem State.updClassifier_trunkRx : (s.updClassifier f).trunkRx = s.trunkRx := rfl
@[simp] theorem State.updClassifier_trunkTx : (s.updClassifier f).trunkTx = s.trunkTx := rfl
@[simp] theorem State.updClassifier_il : (s.updClassifier f).il = s.il := rfl
@[simp] theorem State.updClassifier_sched : (s.updClassifier f).sched = s.sched := rfl
@[simp] theorem State.updClassifier_align : (s.updClassifier f).align = s.align := rfl
@[simp] theorem State.updClassifier_rx : (s.updClassifier f).rx = s.rx := rfl
@[simp] theorem State.updClassifier_store : (s.updClassifier f).store = s.store := rfl
@[simp] theorem State.updClassifier_ports : (s.updClassifier f).ports = s.ports := rfl
@[simp] theorem State.updClassifier_classifier : (s.updClassifier f).classifier = f s.classifier := rfl
@[simp] theorem State.updClassifier_policy : (s.updClassifier f).policy = s.policy := rfl
@[simp] theorem State.updClassifier_routes : (s.updClassifier f).routes = s.routes := rfl
@[simp] theorem State.updClassifier_agent : (s.updClassifier f).agent = s.agent := rfl
@[simp] theorem State.updClassifier_freeDraws : (s.updClassifier f).freeDraws = s.freeDraws := rfl
end

section
variable (s : State) (v : Vector ClassPolicy 6)
@[simp] theorem State.setPolicy_pending : (s.setPolicy v).pending = s.pending := rfl
@[simp] theorem State.setPolicy_resetHeld : (s.setPolicy v).resetHeld = s.resetHeld := rfl
@[simp] theorem State.setPolicy_straps : (s.setPolicy v).straps = s.straps := rfl
@[simp] theorem State.setPolicy_trunkRx : (s.setPolicy v).trunkRx = s.trunkRx := rfl
@[simp] theorem State.setPolicy_trunkTx : (s.setPolicy v).trunkTx = s.trunkTx := rfl
@[simp] theorem State.setPolicy_il : (s.setPolicy v).il = s.il := rfl
@[simp] theorem State.setPolicy_sched : (s.setPolicy v).sched = s.sched := rfl
@[simp] theorem State.setPolicy_align : (s.setPolicy v).align = s.align := rfl
@[simp] theorem State.setPolicy_rx : (s.setPolicy v).rx = s.rx := rfl
@[simp] theorem State.setPolicy_store : (s.setPolicy v).store = s.store := rfl
@[simp] theorem State.setPolicy_ports : (s.setPolicy v).ports = s.ports := rfl
@[simp] theorem State.setPolicy_classifier : (s.setPolicy v).classifier = s.classifier := rfl
@[simp] theorem State.setPolicy_policy : (s.setPolicy v).policy = v := rfl
@[simp] theorem State.setPolicy_routes : (s.setPolicy v).routes = s.routes := rfl
@[simp] theorem State.setPolicy_agent : (s.setPolicy v).agent = s.agent := rfl
@[simp] theorem State.setPolicy_freeDraws : (s.setPolicy v).freeDraws = s.freeDraws := rfl
end

section
variable (s : State) (v : Vector Route 64)
@[simp] theorem State.setRoutes_pending : (s.setRoutes v).pending = s.pending := rfl
@[simp] theorem State.setRoutes_resetHeld : (s.setRoutes v).resetHeld = s.resetHeld := rfl
@[simp] theorem State.setRoutes_straps : (s.setRoutes v).straps = s.straps := rfl
@[simp] theorem State.setRoutes_trunkRx : (s.setRoutes v).trunkRx = s.trunkRx := rfl
@[simp] theorem State.setRoutes_trunkTx : (s.setRoutes v).trunkTx = s.trunkTx := rfl
@[simp] theorem State.setRoutes_il : (s.setRoutes v).il = s.il := rfl
@[simp] theorem State.setRoutes_sched : (s.setRoutes v).sched = s.sched := rfl
@[simp] theorem State.setRoutes_align : (s.setRoutes v).align = s.align := rfl
@[simp] theorem State.setRoutes_rx : (s.setRoutes v).rx = s.rx := rfl
@[simp] theorem State.setRoutes_store : (s.setRoutes v).store = s.store := rfl
@[simp] theorem State.setRoutes_ports : (s.setRoutes v).ports = s.ports := rfl
@[simp] theorem State.setRoutes_classifier : (s.setRoutes v).classifier = s.classifier := rfl
@[simp] theorem State.setRoutes_policy : (s.setRoutes v).policy = s.policy := rfl
@[simp] theorem State.setRoutes_routes : (s.setRoutes v).routes = v := rfl
@[simp] theorem State.setRoutes_agent : (s.setRoutes v).agent = s.agent := rfl
@[simp] theorem State.setRoutes_freeDraws : (s.setRoutes v).freeDraws = s.freeDraws := rfl
end

section
variable (s : State) (f : Agent → Agent)
@[simp] theorem State.updAgent_pending : (s.updAgent f).pending = s.pending := rfl
@[simp] theorem State.updAgent_resetHeld : (s.updAgent f).resetHeld = s.resetHeld := rfl
@[simp] theorem State.updAgent_straps : (s.updAgent f).straps = s.straps := rfl
@[simp] theorem State.updAgent_trunkRx : (s.updAgent f).trunkRx = s.trunkRx := rfl
@[simp] theorem State.updAgent_trunkTx : (s.updAgent f).trunkTx = s.trunkTx := rfl
@[simp] theorem State.updAgent_il : (s.updAgent f).il = s.il := rfl
@[simp] theorem State.updAgent_sched : (s.updAgent f).sched = s.sched := rfl
@[simp] theorem State.updAgent_align : (s.updAgent f).align = s.align := rfl
@[simp] theorem State.updAgent_rx : (s.updAgent f).rx = s.rx := rfl
@[simp] theorem State.updAgent_store : (s.updAgent f).store = s.store := rfl
@[simp] theorem State.updAgent_ports : (s.updAgent f).ports = s.ports := rfl
@[simp] theorem State.updAgent_classifier : (s.updAgent f).classifier = s.classifier := rfl
@[simp] theorem State.updAgent_policy : (s.updAgent f).policy = s.policy := rfl
@[simp] theorem State.updAgent_routes : (s.updAgent f).routes = s.routes := rfl
@[simp] theorem State.updAgent_agent : (s.updAgent f).agent = f s.agent := rfl
@[simp] theorem State.updAgent_freeDraws : (s.updAgent f).freeDraws = s.freeDraws := rfl
end

section
variable (s : State) (n : Nat)
@[simp] theorem State.setDraws_pending : (s.setDraws n).pending = s.pending := rfl
@[simp] theorem State.setDraws_resetHeld : (s.setDraws n).resetHeld = s.resetHeld := rfl
@[simp] theorem State.setDraws_straps : (s.setDraws n).straps = s.straps := rfl
@[simp] theorem State.setDraws_trunkRx : (s.setDraws n).trunkRx = s.trunkRx := rfl
@[simp] theorem State.setDraws_trunkTx : (s.setDraws n).trunkTx = s.trunkTx := rfl
@[simp] theorem State.setDraws_il : (s.setDraws n).il = s.il := rfl
@[simp] theorem State.setDraws_sched : (s.setDraws n).sched = s.sched := rfl
@[simp] theorem State.setDraws_align : (s.setDraws n).align = s.align := rfl
@[simp] theorem State.setDraws_rx : (s.setDraws n).rx = s.rx := rfl
@[simp] theorem State.setDraws_store : (s.setDraws n).store = s.store := rfl
@[simp] theorem State.setDraws_ports : (s.setDraws n).ports = s.ports := rfl
@[simp] theorem State.setDraws_classifier : (s.setDraws n).classifier = s.classifier := rfl
@[simp] theorem State.setDraws_policy : (s.setDraws n).policy = s.policy := rfl
@[simp] theorem State.setDraws_routes : (s.setDraws n).routes = s.routes := rfl
@[simp] theorem State.setDraws_agent : (s.setDraws n).agent = s.agent := rfl
@[simp] theorem State.setDraws_freeDraws : (s.setDraws n).freeDraws = n := rfl
end

section
variable (s : State)
@[simp] theorem State.drawFree_pending : s.drawFree.pending = s.pending := rfl
@[simp] theorem State.drawFree_resetHeld : s.drawFree.resetHeld = s.resetHeld := rfl
@[simp] theorem State.drawFree_straps : s.drawFree.straps = s.straps := rfl
@[simp] theorem State.drawFree_trunkRx : s.drawFree.trunkRx = s.trunkRx := rfl
@[simp] theorem State.drawFree_trunkTx : s.drawFree.trunkTx = s.trunkTx := rfl
@[simp] theorem State.drawFree_il : s.drawFree.il = s.il := rfl
@[simp] theorem State.drawFree_sched : s.drawFree.sched = s.sched := rfl
@[simp] theorem State.drawFree_align : s.drawFree.align = s.align := rfl
@[simp] theorem State.drawFree_rx : s.drawFree.rx = s.rx := rfl
@[simp] theorem State.drawFree_store : s.drawFree.store = s.store := rfl
@[simp] theorem State.drawFree_ports : s.drawFree.ports = s.ports := rfl
@[simp] theorem State.drawFree_classifier : s.drawFree.classifier = s.classifier := rfl
@[simp] theorem State.drawFree_policy : s.drawFree.policy = s.policy := rfl
@[simp] theorem State.drawFree_routes : s.drawFree.routes = s.routes := rfl
@[simp] theorem State.drawFree_agent : s.drawFree.agent = s.agent := rfl
@[simp] theorem State.drawFree_freeDraws : s.drawFree.freeDraws = s.freeDraws + 1 := rfl
end

end Sys2Proof.Machine
end

