-- ==== Sys2Proof/Laws/Frames.lean ====
section
/-! SUPPORT. What each shared operation of the blocks leaves unchanged in the state. -/

namespace Sys2Proof.Machine

/-- A raise touches the Agent alone. -/
@[simp] theorem raise_frame (e : Notice) (s : State) :
    (raise e s).pending = s.pending ∧ (raise e s).resetHeld = s.resetHeld ∧ (raise e s).straps = s.straps ∧
      (raise e s).trunkRx = s.trunkRx ∧ (raise e s).trunkTx = s.trunkTx ∧ (raise e s).il = s.il ∧
      (raise e s).sched = s.sched ∧ (raise e s).align = s.align ∧ (raise e s).rx = s.rx ∧
      (raise e s).store = s.store ∧ (raise e s).ports = s.ports ∧ (raise e s).classifier = s.classifier ∧
      (raise e s).policy = s.policy ∧ (raise e s).routes = s.routes ∧ (raise e s).freeDraws = s.freeDraws := by
  simp [raise]

/-- Raises touch the Agent alone. -/
@[simp] theorem raiseEach_frame (es : List Notice) (s : State) :
    (raiseEach es s).pending = s.pending ∧ (raiseEach es s).resetHeld = s.resetHeld ∧
      (raiseEach es s).straps = s.straps ∧ (raiseEach es s).trunkRx = s.trunkRx ∧
      (raiseEach es s).trunkTx = s.trunkTx ∧ (raiseEach es s).il = s.il ∧ (raiseEach es s).sched = s.sched ∧
      (raiseEach es s).align = s.align ∧ (raiseEach es s).rx = s.rx ∧ (raiseEach es s).store = s.store ∧
      (raiseEach es s).ports = s.ports ∧ (raiseEach es s).classifier = s.classifier ∧
      (raiseEach es s).policy = s.policy ∧ (raiseEach es s).routes = s.routes ∧
      (raiseEach es s).freeDraws = s.freeDraws := by
  induction es generalizing s with
  | nil => simp [raiseEach]
  | cons e es ih => simpa [raiseEach] using ih (raise e s)

/-- The raises of a step touch the Agent and the free draws alone. -/
@[simp] theorem raiseAll_frame (es : List Notice) (s : State) :
    (raiseAll es s).pending = s.pending ∧ (raiseAll es s).resetHeld = s.resetHeld ∧
      (raiseAll es s).straps = s.straps ∧ (raiseAll es s).trunkRx = s.trunkRx ∧ (raiseAll es s).trunkTx = s.trunkTx ∧
      (raiseAll es s).il = s.il ∧ (raiseAll es s).sched = s.sched ∧ (raiseAll es s).align = s.align ∧
      (raiseAll es s).rx = s.rx ∧ (raiseAll es s).store = s.store ∧ (raiseAll es s).ports = s.ports ∧
      (raiseAll es s).classifier = s.classifier ∧ (raiseAll es s).policy = s.policy ∧
      (raiseAll es s).routes = s.routes := by
  simp [raiseAll]

@[simp] theorem raiseAll_nil (s : State) : raiseAll [] s = s := rfl

@[simp] theorem raiseAll_singleton (e : Notice) (s : State) : raiseAll [e] s = raise e s := rfl

theorem placeFree_perm (e : Notice) (es : List Notice) (n : Nat) : (placeFree e es n).1.Perm (e :: es) := by
  induction es generalizing n with
  | nil => exact List.Perm.refl _
  | cons x xs ih =>
    unfold placeFree; split
    · exact List.Perm.refl _
    · exact ((ih (n + 1)).cons x).trans (List.Perm.swap e x xs)

theorem placeFree_draws (e : Notice) (es : List Notice) (n : Nat) : n ≤ (placeFree e es n).2 := by
  induction es generalizing n with
  | nil => exact Nat.le_refl _
  | cons x xs ih =>
    unfold placeFree; split
    · exact Nat.le_succ n
    · exact Nat.le_trans (Nat.le_succ n) (ih (n + 1))

/-- A free order is an order of all the raises. -/
theorem freeOrder_perm (es : List Notice) (n : Nat) : (freeOrder es n).1.Perm es := by
  induction es with
  | nil => exact List.Perm.refl _
  | cons e es ih => exact (placeFree_perm e _ _).trans (ih.cons e)

theorem freeOrder_draws (es : List Notice) (n : Nat) : n ≤ (freeOrder es n).2 := by
  induction es with
  | nil => exact Nat.le_refl _
  | cons e es ih => exact Nat.le_trans ih (placeFree_draws e _ _)

theorem raiseAll_draws (es : List Notice) (s : State) : s.freeDraws ≤ (raiseAll es s).freeDraws := by
  simpa [raiseAll] using freeOrder_draws es s.freeDraws

/-- The raises of a step keep what a raise keeps and what does not look at the free draws. -/
theorem raiseAll_keeps {P : State → Prop} (hr : ∀ e s, P s → P (raise e s)) (hd : ∀ n s, P s → P (s.setDraws n))
    (es : List Notice) (s : State) (h : P s) : P (raiseAll es s) := by
  have : ∀ (l : List Notice) (s : State), P s → P (raiseEach l s) := by
    intro l
    induction l with
    | nil => intro s h; exact h
    | cons e l ih => intro s h; exact ih _ (hr e s h)
  exact this _ _ (hd _ s h)

/-- A port's update touches the ports alone. -/
@[simp] theorem updPort_frame (p : PortIx) (f : Port → Port) (s : State) :
    (s.updPort p f).pending = s.pending ∧ (s.updPort p f).resetHeld = s.resetHeld ∧
      (s.updPort p f).straps = s.straps ∧ (s.updPort p f).trunkRx = s.trunkRx ∧
      (s.updPort p f).trunkTx = s.trunkTx ∧ (s.updPort p f).il = s.il ∧ (s.updPort p f).sched = s.sched ∧
      (s.updPort p f).align = s.align ∧ (s.updPort p f).rx = s.rx ∧ (s.updPort p f).store = s.store ∧
      (s.updPort p f).classifier = s.classifier ∧ (s.updPort p f).policy = s.policy ∧
      (s.updPort p f).routes = s.routes ∧ (s.updPort p f).agent = s.agent ∧ (s.updPort p f).freeDraws = s.freeDraws := by
  simp [State.updPort]

@[simp] theorem countPort_frame (p : PortIx) (f : PortCounters → PortCounters) (s : State) :
    (countPort p f s).pending = s.pending ∧ (countPort p f s).resetHeld = s.resetHeld ∧
      (countPort p f s).straps = s.straps ∧ (countPort p f s).trunkRx = s.trunkRx ∧
      (countPort p f s).trunkTx = s.trunkTx ∧ (countPort p f s).il = s.il ∧ (countPort p f s).sched = s.sched ∧
      (countPort p f s).align = s.align ∧ (countPort p f s).rx = s.rx ∧ (countPort p f s).store = s.store ∧
      (countPort p f s).classifier = s.classifier ∧ (countPort p f s).policy = s.policy ∧
      (countPort p f s).routes = s.routes ∧ (countPort p f s).agent = s.agent ∧
      (countPort p f s).freeDraws = s.freeDraws := by
  simp [countPort]

@[simp] theorem framerLoses_frame (p : PortIx) (d : DescId) (s : State) :
    (framerLoses p d s).pending = s.pending ∧ (framerLoses p d s).resetHeld = s.resetHeld ∧
      (framerLoses p d s).straps = s.straps ∧ (framerLoses p d s).trunkRx = s.trunkRx ∧
      (framerLoses p d s).trunkTx = s.trunkTx ∧ (framerLoses p d s).il = s.il ∧
      (framerLoses p d s).sched = s.sched ∧ (framerLoses p d s).align = s.align ∧ (framerLoses p d s).rx = s.rx ∧
      (framerLoses p d s).store = s.store ∧ (framerLoses p d s).classifier = s.classifier ∧
      (framerLoses p d s).policy = s.policy ∧ (framerLoses p d s).routes = s.routes ∧
      (framerLoses p d s).agent = s.agent ∧ (framerLoses p d s).freeDraws = s.freeDraws := by
  simp [framerLoses]

@[simp] theorem failAtPort_frame (d : DescId) (r : FailReason) (o : Option Origin) (s : State) :
    (failAtPort d r o s).pending = s.pending ∧ (failAtPort d r o s).resetHeld = s.resetHeld ∧
      (failAtPort d r o s).straps = s.straps ∧ (failAtPort d r o s).trunkRx = s.trunkRx ∧
      (failAtPort d r o s).trunkTx = s.trunkTx ∧ (failAtPort d r o s).il = s.il ∧
      (failAtPort d r o s).sched = s.sched ∧ (failAtPort d r o s).align = s.align ∧
      (failAtPort d r o s).rx = s.rx ∧ (failAtPort d r o s).store = s.store ∧
      (failAtPort d r o s).classifier = s.classifier ∧ (failAtPort d r o s).policy = s.policy ∧
      (failAtPort d r o s).routes = s.routes ∧ (failAtPort d r o s).agent = s.agent ∧
      (failAtPort d r o s).freeDraws = s.freeDraws := by
  unfold failAtPort; split <;> simp

/-- A failure touches the store and the ports alone (R117). -/
@[simp] theorem failFrame_frame (d : DescId) (r : FailReason) (s : State) :
    (failFrame d r s).pending = s.pending ∧ (failFrame d r s).resetHeld = s.resetHeld ∧
      (failFrame d r s).straps = s.straps ∧ (failFrame d r s).trunkRx = s.trunkRx ∧
      (failFrame d r s).trunkTx = s.trunkTx ∧ (failFrame d r s).il = s.il ∧ (failFrame d r s).sched = s.sched ∧
      (failFrame d r s).align = s.align ∧ (failFrame d r s).rx = s.rx ∧
      (failFrame d r s).classifier = s.classifier ∧ (failFrame d r s).policy = s.policy ∧
      (failFrame d r s).routes = s.routes ∧ (failFrame d r s).agent = s.agent ∧
      (failFrame d r s).freeDraws = s.freeDraws := by
  unfold failFrame; split <;> simp

@[simp] theorem discardQueued_frame (d : DescId) (r : FailReason) (s : State) :
    (discardQueued d r s).pending = s.pending ∧ (discardQueued d r s).resetHeld = s.resetHeld ∧
      (discardQueued d r s).straps = s.straps ∧ (discardQueued d r s).trunkRx = s.trunkRx ∧
      (discardQueued d r s).trunkTx = s.trunkTx ∧ (discardQueued d r s).sched = s.sched ∧
      (discardQueued d r s).align = s.align ∧ (discardQueued d r s).rx = s.rx ∧
      (discardQueued d r s).classifier = s.classifier ∧ (discardQueued d r s).policy = s.policy ∧
      (discardQueued d r s).routes = s.routes ∧ (discardQueued d r s).agent = s.agent ∧
      (discardQueued d r s).freeDraws = s.freeDraws := by
  simp [discardQueued]

@[simp] theorem swapIfPending_frame (s : State) :
    (swapIfPending s).pending = s.pending ∧ (swapIfPending s).resetHeld = s.resetHeld ∧
      (swapIfPending s).straps = s.straps ∧ (swapIfPending s).trunkRx = s.trunkRx ∧
      (swapIfPending s).trunkTx = s.trunkTx ∧ (swapIfPending s).il = s.il ∧ (swapIfPending s).align = s.align ∧
      (swapIfPending s).rx = s.rx ∧ (swapIfPending s).store = s.store ∧ (swapIfPending s).ports = s.ports ∧
      (swapIfPending s).classifier = s.classifier ∧ (swapIfPending s).policy = s.policy ∧
      (swapIfPending s).routes = s.routes ∧ (swapIfPending s).agent = s.agent ∧
      (swapIfPending s).freeDraws = s.freeDraws := by
  unfold swapIfPending; split <;> simp

/-- A boundary touches the schedule, the ports and the Alignment Unit alone (R54); what it raises stands apart. -/
@[simp] theorem boundary_frame (b : Bool) (s : State) :
    (boundary b s).pending = s.pending ∧ (boundary b s).resetHeld = s.resetHeld ∧ (boundary b s).straps = s.straps ∧
      (boundary b s).trunkRx = s.trunkRx ∧ (boundary b s).trunkTx = s.trunkTx ∧ (boundary b s).il = s.il ∧
      (boundary b s).rx = s.rx ∧ (boundary b s).store = s.store ∧ (boundary b s).classifier = s.classifier ∧
      (boundary b s).policy = s.policy ∧ (boundary b s).routes = s.routes ∧ (boundary b s).agent = s.agent ∧
      (boundary b s).freeDraws = s.freeDraws := by
  simp [boundary]

@[simp] theorem restartWithBoundary_frame (s : State) :
    (restartWithBoundary s).pending = s.pending ∧ (restartWithBoundary s).resetHeld = s.resetHeld ∧
      (restartWithBoundary s).straps = s.straps ∧ (restartWithBoundary s).trunkRx = s.trunkRx ∧
      (restartWithBoundary s).trunkTx = s.trunkTx ∧ (restartWithBoundary s).il = s.il ∧
      (restartWithBoundary s).rx = s.rx ∧ (restartWithBoundary s).store = s.store ∧
      (restartWithBoundary s).classifier = s.classifier ∧ (restartWithBoundary s).policy = s.policy ∧
      (restartWithBoundary s).routes = s.routes ∧ (restartWithBoundary s).agent = s.agent ∧
      (restartWithBoundary s).freeDraws = s.freeDraws := by
  unfold restartWithBoundary; split <;> simp

@[simp] theorem restartWithoutBoundary_frame (s : State) :
    (restartWithoutBoundary s).pending = s.pending ∧ (restartWithoutBoundary s).resetHeld = s.resetHeld ∧
      (restartWithoutBoundary s).straps = s.straps ∧ (restartWithoutBoundary s).trunkRx = s.trunkRx ∧
      (restartWithoutBoundary s).trunkTx = s.trunkTx ∧ (restartWithoutBoundary s).il = s.il ∧
      (restartWithoutBoundary s).align = s.align ∧ (restartWithoutBoundary s).rx = s.rx ∧
      (restartWithoutBoundary s).store = s.store ∧ (restartWithoutBoundary s).ports = s.ports ∧
      (restartWithoutBoundary s).classifier = s.classifier ∧ (restartWithoutBoundary s).policy = s.policy ∧
      (restartWithoutBoundary s).routes = s.routes ∧ (restartWithoutBoundary s).agent = s.agent ∧
      (restartWithoutBoundary s).freeDraws = s.freeDraws := by
  simp [restartWithoutBoundary]

@[simp] theorem beginSlot_frame (s : State) :
    (beginSlot s).pending = s.pending ∧ (beginSlot s).resetHeld = s.resetHeld ∧ (beginSlot s).straps = s.straps ∧
      (beginSlot s).trunkRx = s.trunkRx ∧ (beginSlot s).trunkTx = s.trunkTx ∧ (beginSlot s).il = s.il ∧
      (beginSlot s).rx = s.rx ∧ (beginSlot s).store = s.store ∧ (beginSlot s).classifier = s.classifier ∧
      (beginSlot s).policy = s.policy ∧ (beginSlot s).routes = s.routes ∧ (beginSlot s).agent = s.agent ∧
      (beginSlot s).freeDraws = s.freeDraws := by
  unfold beginSlot; split; · simp
  split <;> simp

@[simp] theorem windowEdge_frame (s : State) :
    (windowEdge s).pending = s.pending ∧ (windowEdge s).resetHeld = s.resetHeld ∧ (windowEdge s).straps = s.straps ∧
      (windowEdge s).trunkRx = s.trunkRx ∧ (windowEdge s).trunkTx = s.trunkTx ∧ (windowEdge s).il = s.il ∧
      (windowEdge s).rx = s.rx ∧ (windowEdge s).store = s.store ∧ (windowEdge s).classifier = s.classifier ∧
      (windowEdge s).policy = s.policy ∧ (windowEdge s).routes = s.routes ∧ (windowEdge s).agent = s.agent ∧
      (windowEdge s).freeDraws = s.freeDraws := by
  unfold windowEdge; split <;> simp

@[simp] theorem cycleWrap_frame (s : State) :
    (cycleWrap s).pending = s.pending ∧ (cycleWrap s).resetHeld = s.resetHeld ∧ (cycleWrap s).straps = s.straps ∧
      (cycleWrap s).trunkRx = s.trunkRx ∧ (cycleWrap s).trunkTx = s.trunkTx ∧ (cycleWrap s).il = s.il ∧
      (cycleWrap s).rx = s.rx ∧ (cycleWrap s).store = s.store ∧ (cycleWrap s).classifier = s.classifier ∧
      (cycleWrap s).policy = s.policy ∧ (cycleWrap s).routes = s.routes := by
  unfold cycleWrap; split <;> simp

@[simp] theorem countMark_frame (f : AlignCounters → AlignCounters) (s : State) :
    (countMark f s).pending = s.pending ∧ (countMark f s).resetHeld = s.resetHeld ∧
      (countMark f s).straps = s.straps ∧ (countMark f s).trunkRx = s.trunkRx ∧
      (countMark f s).trunkTx = s.trunkTx ∧ (countMark f s).il = s.il ∧ (countMark f s).sched = s.sched ∧
      (countMark f s).rx = s.rx ∧ (countMark f s).store = s.store ∧ (countMark f s).ports = s.ports ∧
      (countMark f s).classifier = s.classifier ∧ (countMark f s).policy = s.policy ∧
      (countMark f s).routes = s.routes ∧ (countMark f s).agent = s.agent ∧ (countMark f s).freeDraws = s.freeDraws := by
  simp [countMark]

@[simp] theorem takeMiss_frame (s : State) :
    (takeMiss s).pending = s.pending ∧ (takeMiss s).resetHeld = s.resetHeld ∧ (takeMiss s).straps = s.straps ∧
      (takeMiss s).trunkRx = s.trunkRx ∧ (takeMiss s).trunkTx = s.trunkTx ∧ (takeMiss s).il = s.il ∧
      (takeMiss s).sched = s.sched ∧ (takeMiss s).rx = s.rx ∧ (takeMiss s).store = s.store ∧
      (takeMiss s).ports = s.ports ∧ (takeMiss s).classifier = s.classifier ∧ (takeMiss s).policy = s.policy ∧
      (takeMiss s).routes = s.routes ∧ (takeMiss s).agent = s.agent ∧ (takeMiss s).freeDraws = s.freeDraws := by
  unfold takeMiss; dsimp only; split <;> simp

@[simp] theorem acceptAnywhere_frame (s : State) :
    (acceptAnywhere s).pending = s.pending ∧ (acceptAnywhere s).resetHeld = s.resetHeld ∧
      (acceptAnywhere s).straps = s.straps ∧ (acceptAnywhere s).trunkRx = s.trunkRx ∧
      (acceptAnywhere s).trunkTx = s.trunkTx ∧ (acceptAnywhere s).il = s.il ∧ (acceptAnywhere s).rx = s.rx ∧
      (acceptAnywhere s).store = s.store ∧ (acceptAnywhere s).classifier = s.classifier ∧
      (acceptAnywhere s).policy = s.policy ∧ (acceptAnywhere s).routes = s.routes ∧
      (acceptAnywhere s).agent = s.agent ∧ (acceptAnywhere s).freeDraws = s.freeDraws := by
  simp [acceptAnywhere]

@[simp] theorem markLocked_frame (s : State) :
    (markLocked s).pending = s.pending ∧ (markLocked s).resetHeld = s.resetHeld ∧ (markLocked s).straps = s.straps ∧
      (markLocked s).trunkRx = s.trunkRx ∧ (markLocked s).trunkTx = s.trunkTx ∧ (markLocked s).il = s.il ∧
      (markLocked s).rx = s.rx ∧ (markLocked s).store = s.store ∧ (markLocked s).classifier = s.classifier ∧
      (markLocked s).policy = s.policy ∧ (markLocked s).routes = s.routes ∧ (markLocked s).agent = s.agent ∧
      (markLocked s).freeDraws = s.freeDraws := by
  unfold markLocked; split <;> simp

@[simp] theorem takeMark_frame (s : State) :
    (takeMark s).pending = s.pending ∧ (takeMark s).resetHeld = s.resetHeld ∧ (takeMark s).straps = s.straps ∧
      (takeMark s).trunkRx = s.trunkRx ∧ (takeMark s).trunkTx = s.trunkTx ∧ (takeMark s).il = s.il ∧
      (takeMark s).rx = s.rx ∧ (takeMark s).store = s.store ∧ (takeMark s).classifier = s.classifier ∧
      (takeMark s).policy = s.policy ∧ (takeMark s).routes = s.routes ∧ (takeMark s).agent = s.agent ∧
      (takeMark s).freeDraws = s.freeDraws := by
  unfold takeMark; split <;> simp

/-- A mark touches the schedule, the Agent, the ports and the Alignment Unit alone (chapter 4). -/
@[simp] theorem markArrives_frame (s : State) :
    (markArrives s).pending = s.pending ∧ (markArrives s).resetHeld = s.resetHeld ∧
      (markArrives s).straps = s.straps ∧ (markArrives s).trunkRx = s.trunkRx ∧ (markArrives s).trunkTx = s.trunkTx ∧
      (markArrives s).il = s.il ∧ (markArrives s).rx = s.rx ∧ (markArrives s).store = s.store ∧
      (markArrives s).classifier = s.classifier ∧ (markArrives s).policy = s.policy ∧
      (markArrives s).routes = s.routes := by
  unfold markArrives; split <;> simp

@[simp] theorem missedCheck_frame (s : State) :
    (missedCheck s).pending = s.pending ∧ (missedCheck s).resetHeld = s.resetHeld ∧
      (missedCheck s).straps = s.straps ∧ (missedCheck s).trunkRx = s.trunkRx ∧ (missedCheck s).trunkTx = s.trunkTx ∧
      (missedCheck s).il = s.il ∧ (missedCheck s).sched = s.sched ∧ (missedCheck s).rx = s.rx ∧
      (missedCheck s).store = s.store ∧ (missedCheck s).ports = s.ports ∧ (missedCheck s).classifier = s.classifier ∧
      (missedCheck s).policy = s.policy ∧ (missedCheck s).routes = s.routes ∧ (missedCheck s).agent = s.agent ∧
      (missedCheck s).freeDraws = s.freeDraws := by
  unfold missedCheck; split <;> simp

@[simp] theorem missedMarkCheck_frame (s : State) :
    (missedMarkCheck s).pending = s.pending ∧ (missedMarkCheck s).resetHeld = s.resetHeld ∧
      (missedMarkCheck s).straps = s.straps ∧ (missedMarkCheck s).trunkRx = s.trunkRx ∧
      (missedMarkCheck s).trunkTx = s.trunkTx ∧ (missedMarkCheck s).il = s.il ∧ (missedMarkCheck s).rx = s.rx ∧
      (missedMarkCheck s).store = s.store ∧ (missedMarkCheck s).classifier = s.classifier ∧
      (missedMarkCheck s).policy = s.policy ∧ (missedMarkCheck s).routes = s.routes := by
  unfold missedMarkCheck; split <;> simp

@[simp] theorem admitBuilt_frame (k : Job) (h : Bool) (d : DescId) (bs : List Byte) (s : State) :
    (admitBuilt k h d bs s).pending = s.pending ∧ (admitBuilt k h d bs s).resetHeld = s.resetHeld ∧
      (admitBuilt k h d bs s).straps = s.straps ∧ (admitBuilt k h d bs s).trunkRx = s.trunkRx ∧
      (admitBuilt k h d bs s).trunkTx = s.trunkTx ∧ (admitBuilt k h d bs s).il = s.il ∧
      (admitBuilt k h d bs s).sched = s.sched ∧ (admitBuilt k h d bs s).align = s.align ∧
      (admitBuilt k h d bs s).rx = s.rx ∧ (admitBuilt k h d bs s).ports = s.ports ∧
      (admitBuilt k h d bs s).classifier = s.classifier ∧ (admitBuilt k h d bs s).policy = s.policy ∧
      (admitBuilt k h d bs s).routes = s.routes ∧ (admitBuilt k h d bs s).freeDraws = s.freeDraws := by
  simp [admitBuilt]

@[simp] theorem endDrain_frame (s : State) :
    (endDrain s).pending = s.pending ∧ (endDrain s).resetHeld = s.resetHeld ∧ (endDrain s).straps = s.straps ∧
      (endDrain s).trunkRx = s.trunkRx ∧ (endDrain s).trunkTx = s.trunkTx ∧ (endDrain s).sched = s.sched ∧
      (endDrain s).align = s.align ∧ (endDrain s).rx = s.rx ∧ (endDrain s).ports = s.ports ∧
      (endDrain s).classifier = s.classifier ∧ (endDrain s).policy = s.policy ∧ (endDrain s).routes = s.routes ∧
      (endDrain s).freeDraws = s.freeDraws := by
  unfold endDrain; dsimp only; split <;> simp

@[simp] theorem countIl_frame (f : IlCounters → IlCounters) (s : State) :
    (countIl f s).pending = s.pending ∧ (countIl f s).resetHeld = s.resetHeld ∧ (countIl f s).straps = s.straps ∧
      (countIl f s).trunkRx = s.trunkRx ∧ (countIl f s).trunkTx = s.trunkTx ∧ (countIl f s).sched = s.sched ∧
      (countIl f s).align = s.align ∧ (countIl f s).rx = s.rx ∧ (countIl f s).store = s.store ∧
      (countIl f s).ports = s.ports ∧ (countIl f s).classifier = s.classifier ∧ (countIl f s).policy = s.policy ∧
      (countIl f s).routes = s.routes ∧ (countIl f s).agent = s.agent ∧ (countIl f s).freeDraws = s.freeDraws := by
  simp [countIl]

@[simp] theorem setTop_frame (e : StackEntry) (s : State) :
    (setTop e s).pending = s.pending ∧ (setTop e s).resetHeld = s.resetHeld ∧ (setTop e s).straps = s.straps ∧
      (setTop e s).trunkRx = s.trunkRx ∧ (setTop e s).trunkTx = s.trunkTx ∧ (setTop e s).sched = s.sched ∧
      (setTop e s).align = s.align ∧ (setTop e s).rx = s.rx ∧ (setTop e s).store = s.store ∧
      (setTop e s).ports = s.ports ∧ (setTop e s).classifier = s.classifier ∧ (setTop e s).policy = s.policy ∧
      (setTop e s).routes = s.routes ∧ (setTop e s).agent = s.agent ∧ (setTop e s).freeDraws = s.freeDraws := by
  simp [setTop]

@[simp] theorem send_frame (y : TrunkSymbol) (s : State) :
    (send y s).pending = s.pending ∧ (send y s).resetHeld = s.resetHeld ∧ (send y s).straps = s.straps ∧
      (send y s).trunkRx = s.trunkRx ∧ (send y s).il = s.il ∧ (send y s).sched = s.sched ∧
      (send y s).align = s.align ∧ (send y s).rx = s.rx ∧ (send y s).store = s.store ∧ (send y s).ports = s.ports ∧
      (send y s).classifier = s.classifier ∧ (send y s).policy = s.policy ∧ (send y s).routes = s.routes ∧
      (send y s).agent = s.agent ∧ (send y s).freeDraws = s.freeDraws := by
  simp [send]

@[simp] theorem unfitDiscard_frame (c : Cls) (d : DescId) (s : State) :
    (unfitDiscard c d s).pending = s.pending ∧ (unfitDiscard c d s).resetHeld = s.resetHeld ∧
      (unfitDiscard c d s).straps = s.straps ∧ (unfitDiscard c d s).trunkRx = s.trunkRx ∧
      (unfitDiscard c d s).trunkTx = s.trunkTx ∧ (unfitDiscard c d s).align = s.align ∧
      (unfitDiscard c d s).rx = s.rx ∧ (unfitDiscard c d s).classifier = s.classifier ∧
      (unfitDiscard c d s).policy = s.policy ∧ (unfitDiscard c d s).routes = s.routes ∧
      (unfitDiscard c d s).agent = s.agent ∧ (unfitDiscard c d s).freeDraws = s.freeDraws := by
  simp [unfitDiscard]

@[simp] theorem examineQueue_frame (c : Cls) (l : List DescId) (s : State) :
    ((examineQueue c l s).1).pending = s.pending ∧ ((examineQueue c l s).1).resetHeld = s.resetHeld ∧
      ((examineQueue c l s).1).straps = s.straps ∧ ((examineQueue c l s).1).trunkRx = s.trunkRx ∧
      ((examineQueue c l s).1).trunkTx = s.trunkTx ∧ ((examineQueue c l s).1).align = s.align ∧
      ((examineQueue c l s).1).rx = s.rx ∧ ((examineQueue c l s).1).classifier = s.classifier ∧
      ((examineQueue c l s).1).policy = s.policy ∧ ((examineQueue c l s).1).routes = s.routes ∧
      ((examineQueue c l s).1).agent = s.agent ∧ ((examineQueue c l s).1).freeDraws = s.freeDraws := by
  induction l generalizing s with
  | nil => simp [examineQueue]
  | cons d ds ih =>
    unfold examineQueue
    split
    · simp
    · split
      · simp
      · split
        · simp
        · simp
        · simp [ih]

@[simp] theorem arbitrate_frame (cs : List Cls) (s : State) :
    ((arbitrate cs s).1).pending = s.pending ∧ ((arbitrate cs s).1).resetHeld = s.resetHeld ∧
      ((arbitrate cs s).1).straps = s.straps ∧ ((arbitrate cs s).1).trunkRx = s.trunkRx ∧
      ((arbitrate cs s).1).trunkTx = s.trunkTx ∧ ((arbitrate cs s).1).align = s.align ∧
      ((arbitrate cs s).1).rx = s.rx ∧ ((arbitrate cs s).1).classifier = s.classifier ∧
      ((arbitrate cs s).1).policy = s.policy ∧ ((arbitrate cs s).1).routes = s.routes ∧
      ((arbitrate cs s).1).agent = s.agent ∧ ((arbitrate cs s).1).freeDraws = s.freeDraws := by
  induction cs generalizing s with
  | nil => simp [arbitrate]
  | cons c cs ih =>
    unfold arbitrate
    split
    · have h := examineQueue_frame c (s.store.queue c) s
      split
      · rename_i s' us x hx
        rw [hx] at h; dsimp only at h
        exact h
      · rename_i s' us hx
        rw [hx] at h; dsimp only at h
        simp [ih, h]
    · exact ih s

/-- The arbiter changes the state by UNFIT discards alone (R24, R67). -/
@[simp] theorem arbiter_frame (s : State) :
    ((arbiter s).1).pending = s.pending ∧ ((arbiter s).1).resetHeld = s.resetHeld ∧
      ((arbiter s).1).straps = s.straps ∧ ((arbiter s).1).trunkRx = s.trunkRx ∧ ((arbiter s).1).trunkTx = s.trunkTx ∧
      ((arbiter s).1).align = s.align ∧ ((arbiter s).1).rx = s.rx ∧ ((arbiter s).1).classifier = s.classifier ∧
      ((arbiter s).1).policy = s.policy ∧ ((arbiter s).1).routes = s.routes ∧ ((arbiter s).1).agent = s.agent ∧
      ((arbiter s).1).freeDraws = s.freeDraws := by
  exact arbitrate_frame _ s

@[simp] theorem openFrame_frame (x : Candidate) (s : State) :
    (openFrame x s).pending = s.pending ∧ (openFrame x s).resetHeld = s.resetHeld ∧
      (openFrame x s).straps = s.straps ∧ (openFrame x s).trunkRx = s.trunkRx ∧ (openFrame x s).sched = s.sched ∧
      (openFrame x s).align = s.align ∧ (openFrame x s).rx = s.rx ∧ (openFrame x s).ports = s.ports ∧
      (openFrame x s).classifier = s.classifier ∧ (openFrame x s).policy = s.policy ∧
      (openFrame x s).routes = s.routes ∧ (openFrame x s).agent = s.agent ∧ (openFrame x s).freeDraws = s.freeDraws := by
  simp [openFrame]

@[simp] theorem resumeTop_frame (e : StackEntry) (s : State) :
    (resumeTop e s).pending = s.pending ∧ (resumeTop e s).resetHeld = s.resetHeld ∧
      (resumeTop e s).straps = s.straps ∧ (resumeTop e s).trunkRx = s.trunkRx ∧ (resumeTop e s).sched = s.sched ∧
      (resumeTop e s).align = s.align ∧ (resumeTop e s).rx = s.rx ∧ (resumeTop e s).store = s.store ∧
      (resumeTop e s).ports = s.ports ∧ (resumeTop e s).classifier = s.classifier ∧
      (resumeTop e s).policy = s.policy ∧ (resumeTop e s).routes = s.routes ∧ (resumeTop e s).agent = s.agent ∧
      (resumeTop e s).freeDraws = s.freeDraws := by
  simp [resumeTop]

@[simp] theorem pauseTop_frame (e : StackEntry) (s : State) :
    (pauseTop e s).pending = s.pending ∧ (pauseTop e s).resetHeld = s.resetHeld ∧
      (pauseTop e s).straps = s.straps ∧ (pauseTop e s).trunkRx = s.trunkRx ∧ (pauseTop e s).sched = s.sched ∧
      (pauseTop e s).align = s.align ∧ (pauseTop e s).rx = s.rx ∧ (pauseTop e s).store = s.store ∧
      (pauseTop e s).ports = s.ports ∧ (pauseTop e s).classifier = s.classifier ∧
      (pauseTop e s).policy = s.policy ∧ (pauseTop e s).routes = s.routes ∧ (pauseTop e s).agent = s.agent ∧
      (pauseTop e s).freeDraws = s.freeDraws := by
  simp [pauseTop]

@[simp] theorem popTop_frame (e : StackEntry) (s : State) :
    (popTop e s).pending = s.pending ∧ (popTop e s).resetHeld = s.resetHeld ∧ (popTop e s).straps = s.straps ∧
      (popTop e s).trunkRx = s.trunkRx ∧ (popTop e s).trunkTx = s.trunkTx ∧ (popTop e s).sched = s.sched ∧
      (popTop e s).align = s.align ∧ (popTop e s).rx = s.rx ∧ (popTop e s).ports = s.ports ∧
      (popTop e s).classifier = s.classifier ∧ (popTop e s).policy = s.policy ∧ (popTop e s).routes = s.routes ∧
      (popTop e s).agent = s.agent ∧ (popTop e s).freeDraws = s.freeDraws := by
  simp [popTop]

@[simp] theorem closeTop_frame (e : StackEntry) (s : State) :
    (closeTop e s).pending = s.pending ∧ (closeTop e s).resetHeld = s.resetHeld ∧
      (closeTop e s).straps = s.straps ∧ (closeTop e s).trunkRx = s.trunkRx ∧ (closeTop e s).sched = s.sched ∧
      (closeTop e s).align = s.align ∧ (closeTop e s).rx = s.rx ∧ (closeTop e s).ports = s.ports ∧
      (closeTop e s).classifier = s.classifier ∧ (closeTop e s).policy = s.policy ∧
      (closeTop e s).routes = s.routes ∧ (closeTop e s).agent = s.agent ∧ (closeTop e s).freeDraws = s.freeDraws := by
  simp [closeTop]

@[simp] theorem abortTop_frame (e : StackEntry) (s : State) :
    (abortTop e s).pending = s.pending ∧ (abortTop e s).resetHeld = s.resetHeld ∧
      (abortTop e s).straps = s.straps ∧ (abortTop e s).trunkRx = s.trunkRx ∧ (abortTop e s).sched = s.sched ∧
      (abortTop e s).align = s.align ∧ (abortTop e s).rx = s.rx ∧ (abortTop e s).ports = s.ports ∧
      (abortTop e s).classifier = s.classifier ∧ (abortTop e s).policy = s.policy ∧
      (abortTop e s).routes = s.routes ∧ (abortTop e s).agent = s.agent ∧ (abortTop e s).freeDraws = s.freeDraws := by
  simp [abortTop]

@[simp] theorem sendByte_frame (e : StackEntry) (s : State) :
    (sendByte e s).pending = s.pending ∧ (sendByte e s).resetHeld = s.resetHeld ∧
      (sendByte e s).straps = s.straps ∧ (sendByte e s).trunkRx = s.trunkRx ∧ (sendByte e s).sched = s.sched ∧
      (sendByte e s).align = s.align ∧ (sendByte e s).rx = s.rx ∧ (sendByte e s).store = s.store ∧
      (sendByte e s).ports = s.ports ∧ (sendByte e s).classifier = s.classifier ∧
      (sendByte e s).policy = s.policy ∧ (sendByte e s).routes = s.routes ∧ (sendByte e s).agent = s.agent ∧
      (sendByte e s).freeDraws = s.freeDraws := by
  simp [sendByte]

@[simp] theorem fillTop_frame (e : StackEntry) (s : State) :
    (fillTop e s).pending = s.pending ∧ (fillTop e s).resetHeld = s.resetHeld ∧ (fillTop e s).straps = s.straps ∧
      (fillTop e s).trunkRx = s.trunkRx ∧ (fillTop e s).sched = s.sched ∧ (fillTop e s).align = s.align ∧
      (fillTop e s).rx = s.rx ∧ (fillTop e s).store = s.store ∧ (fillTop e s).ports = s.ports ∧
      (fillTop e s).classifier = s.classifier ∧ (fillTop e s).policy = s.policy ∧ (fillTop e s).routes = s.routes ∧
      (fillTop e s).agent = s.agent ∧ (fillTop e s).freeDraws = s.freeDraws := by
  simp [fillTop]

@[simp] theorem continueTop_frame (e : StackEntry) (s : State) :
    (continueTop e s).1.pending = s.pending ∧ (continueTop e s).1.resetHeld = s.resetHeld ∧
      (continueTop e s).1.straps = s.straps ∧ (continueTop e s).1.trunkRx = s.trunkRx ∧
      (continueTop e s).1.sched = s.sched ∧ (continueTop e s).1.align = s.align ∧ (continueTop e s).1.rx = s.rx ∧
      (continueTop e s).1.classifier = s.classifier ∧ (continueTop e s).1.policy = s.policy ∧
      (continueTop e s).1.routes = s.routes ∧ (continueTop e s).1.agent = s.agent ∧
      (continueTop e s).1.freeDraws = s.freeDraws := by
  unfold continueTop; split
  · simp
  · split
    · simp
    · split <;> simp

@[simp] theorem decideActive_frame (e : StackEntry) (s : State) :
    ((decideActive e s).1).pending = s.pending ∧ ((decideActive e s).1).resetHeld = s.resetHeld ∧
      ((decideActive e s).1).straps = s.straps ∧ ((decideActive e s).1).trunkRx = s.trunkRx ∧
      ((decideActive e s).1).align = s.align ∧ ((decideActive e s).1).rx = s.rx ∧
      ((decideActive e s).1).classifier = s.classifier ∧ ((decideActive e s).1).policy = s.policy ∧
      ((decideActive e s).1).routes = s.routes ∧ ((decideActive e s).1).agent = s.agent ∧
      ((decideActive e s).1).freeDraws = s.freeDraws := by
  unfold decideActive
  have h := arbiter_frame s
  split
  · split
    · rename_i s' us x hx
      rw [hx] at h; dsimp only at h
      simp [h]
    · rename_i s' us hx
      rw [hx] at h; dsimp only at h
      split <;> simp [h]
  · simp

@[simp] theorem gateTop_frame (s : State) :
    (gateTop s).pending = s.pending ∧ (gateTop s).resetHeld = s.resetHeld ∧ (gateTop s).straps = s.straps ∧
      (gateTop s).trunkRx = s.trunkRx ∧ (gateTop s).trunkTx = s.trunkTx ∧ (gateTop s).sched = s.sched ∧
      (gateTop s).align = s.align ∧ (gateTop s).rx = s.rx ∧ (gateTop s).store = s.store ∧
      (gateTop s).ports = s.ports ∧ (gateTop s).classifier = s.classifier ∧ (gateTop s).policy = s.policy ∧
      (gateTop s).routes = s.routes ∧ (gateTop s).agent = s.agent ∧ (gateTop s).freeDraws = s.freeDraws := by
  unfold gateTop; split; · simp
  split <;> simp

@[simp] theorem resumeOrIdle_frame (s : State) :
    (resumeOrIdle s).pending = s.pending ∧ (resumeOrIdle s).resetHeld = s.resetHeld ∧
      (resumeOrIdle s).straps = s.straps ∧ (resumeOrIdle s).trunkRx = s.trunkRx ∧
      (resumeOrIdle s).sched = s.sched ∧ (resumeOrIdle s).align = s.align ∧ (resumeOrIdle s).rx = s.rx ∧
      (resumeOrIdle s).store = s.store ∧ (resumeOrIdle s).ports = s.ports ∧
      (resumeOrIdle s).classifier = s.classifier ∧ (resumeOrIdle s).policy = s.policy ∧
      (resumeOrIdle s).routes = s.routes ∧ (resumeOrIdle s).agent = s.agent ∧
      (resumeOrIdle s).freeDraws = s.freeDraws := by
  unfold resumeOrIdle; split; · simp
  split <;> simp

@[simp] theorem decideIdle_frame (s : State) :
    ((decideIdle s).1).pending = s.pending ∧ ((decideIdle s).1).resetHeld = s.resetHeld ∧
      ((decideIdle s).1).straps = s.straps ∧ ((decideIdle s).1).trunkRx = s.trunkRx ∧
      ((decideIdle s).1).align = s.align ∧ ((decideIdle s).1).rx = s.rx ∧
      ((decideIdle s).1).classifier = s.classifier ∧ ((decideIdle s).1).policy = s.policy ∧
      ((decideIdle s).1).routes = s.routes ∧ ((decideIdle s).1).agent = s.agent ∧
      ((decideIdle s).1).freeDraws = s.freeDraws := by
  unfold decideIdle
  have h := arbiter_frame (gateTop s)
  split
  · rename_i s' us x hx
    rw [hx] at h; dsimp only at h
    simp [h]
  · rename_i s' us hx
    rw [hx] at h; dsimp only at h
    simp [h]

@[simp] theorem drainStep_frame (s : State) :
    (drainStep s).pending = s.pending ∧ (drainStep s).resetHeld = s.resetHeld ∧ (drainStep s).straps = s.straps ∧
      (drainStep s).trunkRx = s.trunkRx ∧ (drainStep s).sched = s.sched ∧ (drainStep s).align = s.align ∧
      (drainStep s).rx = s.rx ∧ (drainStep s).ports = s.ports ∧ (drainStep s).classifier = s.classifier ∧
      (drainStep s).policy = s.policy ∧ (drainStep s).routes = s.routes ∧ (drainStep s).freeDraws = s.freeDraws := by
  unfold drainStep; split; · simp
  split
  · split <;> simp
  · simp

@[simp] theorem decide20_frame (s : State) :
    (decide20 s).1.pending = s.pending ∧ (decide20 s).1.resetHeld = s.resetHeld ∧
      (decide20 s).1.straps = s.straps ∧ (decide20 s).1.trunkRx = s.trunkRx ∧ (decide20 s).1.align = s.align ∧
      (decide20 s).1.rx = s.rx ∧ (decide20 s).1.classifier = s.classifier ∧ (decide20 s).1.policy = s.policy ∧
      (decide20 s).1.routes = s.routes ∧ (decide20 s).1.freeDraws = s.freeDraws := by
  unfold decide20
  split
  · simp
  · split
    · simp
    · split
      · split <;> simp
      · split <;> simp

@[simp] theorem countOverrun_frame (x : Option Cls) (s : State) :
    (countOverrun x s).pending = s.pending ∧ (countOverrun x s).resetHeld = s.resetHeld ∧
      (countOverrun x s).straps = s.straps ∧ (countOverrun x s).trunkRx = s.trunkRx ∧
      (countOverrun x s).trunkTx = s.trunkTx ∧ (countOverrun x s).sched = s.sched ∧
      (countOverrun x s).align = s.align ∧ (countOverrun x s).rx = s.rx ∧ (countOverrun x s).store = s.store ∧
      (countOverrun x s).ports = s.ports ∧ (countOverrun x s).classifier = s.classifier ∧
      (countOverrun x s).policy = s.policy ∧ (countOverrun x s).routes = s.routes ∧
      (countOverrun x s).agent = s.agent ∧ (countOverrun x s).freeDraws = s.freeDraws := by
  unfold countOverrun; split <;> simp

/-- The Interleaver's part of a slot. -/
@[simp] theorem trunkDecision_frame (s : State) :
    ((trunkDecision s).1).pending = s.pending ∧ ((trunkDecision s).1).resetHeld = s.resetHeld ∧
      ((trunkDecision s).1).straps = s.straps ∧ ((trunkDecision s).1).trunkRx = s.trunkRx ∧
      ((trunkDecision s).1).align = s.align ∧ ((trunkDecision s).1).rx = s.rx ∧
      ((trunkDecision s).1).classifier = s.classifier ∧ ((trunkDecision s).1).policy = s.policy ∧
      ((trunkDecision s).1).routes = s.routes ∧ ((trunkDecision s).1).freeDraws = s.freeDraws := by
  simp [trunkDecision]

@[simp] theorem decideSlot_frame (s : State) :
    ((decideSlot s).1).pending = s.pending ∧ ((decideSlot s).1).resetHeld = s.resetHeld ∧
      ((decideSlot s).1).straps = s.straps ∧ ((decideSlot s).1).trunkRx = s.trunkRx ∧
      ((decideSlot s).1).align = s.align ∧ ((decideSlot s).1).rx = s.rx ∧
      ((decideSlot s).1).classifier = s.classifier ∧ ((decideSlot s).1).policy = s.policy ∧
      ((decideSlot s).1).routes = s.routes ∧ ((decideSlot s).1).freeDraws = s.freeDraws := by
  unfold decideSlot; dsimp only; split <;> simp

/-- A trunk slot. -/
@[simp] theorem trunkSlot_frame (s : State) :
    (trunkSlot s).pending = s.pending ∧ (trunkSlot s).resetHeld = s.resetHeld ∧ (trunkSlot s).straps = s.straps ∧
      (trunkSlot s).trunkRx = s.trunkRx ∧ (trunkSlot s).rx = s.rx ∧ (trunkSlot s).classifier = s.classifier ∧
      (trunkSlot s).policy = s.policy ∧ (trunkSlot s).routes = s.routes := by
  simp [trunkSlot]

@[simp] theorem trunkStallLimit_frame (s : State) :
    (trunkStallLimit s).pending = s.pending ∧ (trunkStallLimit s).resetHeld = s.resetHeld ∧
      (trunkStallLimit s).straps = s.straps ∧ (trunkStallLimit s).trunkRx = s.trunkRx ∧
      (trunkStallLimit s).rx = s.rx ∧ (trunkStallLimit s).classifier = s.classifier ∧
      (trunkStallLimit s).policy = s.policy ∧ (trunkStallLimit s).routes = s.routes := by
  unfold trunkStallLimit; split <;> simp

@[simp] theorem drainEnd_frame (s : State) :
    (drainEnd s).pending = s.pending ∧ (drainEnd s).resetHeld = s.resetHeld ∧ (drainEnd s).straps = s.straps ∧
      (drainEnd s).trunkRx = s.trunkRx ∧ (drainEnd s).rx = s.rx ∧ (drainEnd s).classifier = s.classifier ∧
      (drainEnd s).policy = s.policy ∧ (drainEnd s).routes = s.routes := by
  unfold drainEnd; split; · simp
  split <;> simp

@[simp] theorem dropEntries_frame (l : List StackEntry) (s : State) :
    (dropEntries l s).pending = s.pending ∧ (dropEntries l s).resetHeld = s.resetHeld ∧
      (dropEntries l s).straps = s.straps ∧ (dropEntries l s).trunkRx = s.trunkRx ∧
      (dropEntries l s).trunkTx = s.trunkTx ∧ (dropEntries l s).sched = s.sched ∧
      (dropEntries l s).align = s.align ∧ (dropEntries l s).rx = s.rx ∧ (dropEntries l s).ports = s.ports ∧
      (dropEntries l s).classifier = s.classifier ∧ (dropEntries l s).policy = s.policy ∧
      (dropEntries l s).routes = s.routes ∧ (dropEntries l s).agent = s.agent ∧
      (dropEntries l s).freeDraws = s.freeDraws := by
  induction l generalizing s with
  | nil => simp [dropEntries]
  | cons e es ih => simp [dropEntries, ih]

@[simp] theorem interleaverDown_frame (s : State) :
    (interleaverDown s).pending = s.pending ∧ (interleaverDown s).resetHeld = s.resetHeld ∧
      (interleaverDown s).straps = s.straps ∧ (interleaverDown s).trunkRx = s.trunkRx ∧
      (interleaverDown s).trunkTx = s.trunkTx ∧ (interleaverDown s).sched = s.sched ∧
      (interleaverDown s).align = s.align ∧ (interleaverDown s).rx = s.rx ∧ (interleaverDown s).ports = s.ports ∧
      (interleaverDown s).classifier = s.classifier ∧ (interleaverDown s).policy = s.policy ∧
      (interleaverDown s).routes = s.routes ∧ (interleaverDown s).freeDraws = s.freeDraws := by
  unfold interleaverDown; dsimp only; split <;> simp

@[simp] theorem setContext_frame (c : Cls) (x : Context) (s : State) :
    (setContext c x s).pending = s.pending ∧ (setContext c x s).resetHeld = s.resetHeld ∧
      (setContext c x s).straps = s.straps ∧ (setContext c x s).trunkRx = s.trunkRx ∧
      (setContext c x s).trunkTx = s.trunkTx ∧ (setContext c x s).il = s.il ∧ (setContext c x s).sched = s.sched ∧
      (setContext c x s).align = s.align ∧ (setContext c x s).store = s.store ∧
      (setContext c x s).ports = s.ports ∧ (setContext c x s).classifier = s.classifier ∧
      (setContext c x s).policy = s.policy ∧ (setContext c x s).routes = s.routes ∧
      (setContext c x s).agent = s.agent ∧ (setContext c x s).freeDraws = s.freeDraws := by
  simp [setContext]

@[simp] theorem countRx_frame (f : RxCounters → RxCounters) (s : State) :
    (countRx f s).pending = s.pending ∧ (countRx f s).resetHeld = s.resetHeld ∧ (countRx f s).straps = s.straps ∧
      (countRx f s).trunkRx = s.trunkRx ∧ (countRx f s).trunkTx = s.trunkTx ∧ (countRx f s).il = s.il ∧
      (countRx f s).sched = s.sched ∧ (countRx f s).align = s.align ∧ (countRx f s).store = s.store ∧
      (countRx f s).ports = s.ports ∧ (countRx f s).classifier = s.classifier ∧ (countRx f s).policy = s.policy ∧
      (countRx f s).routes = s.routes ∧ (countRx f s).agent = s.agent ∧ (countRx f s).freeDraws = s.freeDraws := by
  simp [countRx]

@[simp] theorem releaseStorage_frame (c : Cls) (s : State) :
    (releaseStorage c s).pending = s.pending ∧ (releaseStorage c s).resetHeld = s.resetHeld ∧
      (releaseStorage c s).straps = s.straps ∧ (releaseStorage c s).trunkRx = s.trunkRx ∧
      (releaseStorage c s).trunkTx = s.trunkTx ∧ (releaseStorage c s).il = s.il ∧
      (releaseStorage c s).sched = s.sched ∧ (releaseStorage c s).align = s.align ∧
      (releaseStorage c s).ports = s.ports ∧ (releaseStorage c s).classifier = s.classifier ∧
      (releaseStorage c s).policy = s.policy ∧ (releaseStorage c s).routes = s.routes ∧
      (releaseStorage c s).agent = s.agent ∧ (releaseStorage c s).freeDraws = s.freeDraws := by
  unfold releaseStorage; split <;> simp

@[simp] theorem discardContext_frame (c : Cls) (r : DiscardReason) (s : State) :
    (discardContext c r s).pending = s.pending ∧ (discardContext c r s).resetHeld = s.resetHeld ∧
      (discardContext c r s).straps = s.straps ∧ (discardContext c r s).trunkRx = s.trunkRx ∧
      (discardContext c r s).trunkTx = s.trunkTx ∧ (discardContext c r s).il = s.il ∧
      (discardContext c r s).sched = s.sched ∧ (discardContext c r s).align = s.align ∧
      (discardContext c r s).ports = s.ports ∧ (discardContext c r s).classifier = s.classifier ∧
      (discardContext c r s).policy = s.policy ∧ (discardContext c r s).routes = s.routes ∧
      (discardContext c r s).agent = s.agent ∧ (discardContext c r s).freeDraws = s.freeDraws := by
  simp [discardContext]

@[simp] theorem closeContext_frame (c : Cls) (s : State) :
    (closeContext c s).pending = s.pending ∧ (closeContext c s).resetHeld = s.resetHeld ∧
      (closeContext c s).straps = s.straps ∧ (closeContext c s).trunkRx = s.trunkRx ∧
      (closeContext c s).trunkTx = s.trunkTx ∧ (closeContext c s).il = s.il ∧ (closeContext c s).sched = s.sched ∧
      (closeContext c s).align = s.align ∧ (closeContext c s).ports = s.ports ∧
      (closeContext c s).classifier = s.classifier ∧ (closeContext c s).policy = s.policy ∧
      (closeContext c s).routes = s.routes ∧ (closeContext c s).agent = s.agent ∧
      (closeContext c s).freeDraws = s.freeDraws := by
  simp [closeContext]

@[simp] theorem closeAll_frame (s : State) :
    (closeAll s).pending = s.pending ∧ (closeAll s).resetHeld = s.resetHeld ∧ (closeAll s).straps = s.straps ∧
      (closeAll s).trunkRx = s.trunkRx ∧ (closeAll s).trunkTx = s.trunkTx ∧ (closeAll s).il = s.il ∧
      (closeAll s).sched = s.sched ∧ (closeAll s).align = s.align ∧ (closeAll s).ports = s.ports ∧
      (closeAll s).classifier = s.classifier ∧ (closeAll s).policy = s.policy ∧ (closeAll s).routes = s.routes ∧
      (closeAll s).agent = s.agent ∧ (closeAll s).freeDraws = s.freeDraws := by
  simp [closeAll]

@[simp] theorem openContext_frame (c : Cls) (s : State) :
    (openContext c s).pending = s.pending ∧ (openContext c s).resetHeld = s.resetHeld ∧
      (openContext c s).straps = s.straps ∧ (openContext c s).trunkRx = s.trunkRx ∧
      (openContext c s).trunkTx = s.trunkTx ∧ (openContext c s).il = s.il ∧ (openContext c s).sched = s.sched ∧
      (openContext c s).align = s.align ∧ (openContext c s).ports = s.ports ∧
      (openContext c s).classifier = s.classifier ∧ (openContext c s).policy = s.policy ∧
      (openContext c s).routes = s.routes ∧ (openContext c s).freeDraws = s.freeDraws := by
  unfold openContext; split <;> simp

@[simp] theorem countDiscard_frame (r : DiscardReason) (s : State) :
    (countDiscard r s).pending = s.pending ∧ (countDiscard r s).resetHeld = s.resetHeld ∧
      (countDiscard r s).straps = s.straps ∧ (countDiscard r s).trunkRx = s.trunkRx ∧
      (countDiscard r s).trunkTx = s.trunkTx ∧ (countDiscard r s).il = s.il ∧ (countDiscard r s).sched = s.sched ∧
      (countDiscard r s).align = s.align ∧ (countDiscard r s).store = s.store ∧
      (countDiscard r s).ports = s.ports ∧ (countDiscard r s).classifier = s.classifier ∧
      (countDiscard r s).policy = s.policy ∧ (countDiscard r s).routes = s.routes ∧
      (countDiscard r s).agent = s.agent ∧ (countDiscard r s).freeDraws = s.freeDraws := by
  unfold countDiscard; split <;> simp

@[simp] theorem rxHeaderComplete_frame (c : Cls) (d : DescId) (s : State) :
    (rxHeaderComplete c d s).pending = s.pending ∧ (rxHeaderComplete c d s).resetHeld = s.resetHeld ∧
      (rxHeaderComplete c d s).straps = s.straps ∧ (rxHeaderComplete c d s).trunkRx = s.trunkRx ∧
      (rxHeaderComplete c d s).trunkTx = s.trunkTx ∧ (rxHeaderComplete c d s).il = s.il ∧
      (rxHeaderComplete c d s).sched = s.sched ∧ (rxHeaderComplete c d s).align = s.align ∧
      (rxHeaderComplete c d s).ports = s.ports ∧ (rxHeaderComplete c d s).classifier = s.classifier ∧
      (rxHeaderComplete c d s).policy = s.policy ∧ (rxHeaderComplete c d s).routes = s.routes ∧
      (rxHeaderComplete c d s).agent = s.agent ∧ (rxHeaderComplete c d s).freeDraws = s.freeDraws := by
  unfold rxHeaderComplete; dsimp only; split <;> simp

@[simp] theorem rxByte_frame (c : Cls) (b : Byte) (s : State) :
    (rxByte c b s).pending = s.pending ∧ (rxByte c b s).resetHeld = s.resetHeld ∧
      (rxByte c b s).straps = s.straps ∧ (rxByte c b s).trunkRx = s.trunkRx ∧ (rxByte c b s).trunkTx = s.trunkTx ∧
      (rxByte c b s).il = s.il ∧ (rxByte c b s).sched = s.sched ∧ (rxByte c b s).align = s.align ∧
      (rxByte c b s).ports = s.ports ∧ (rxByte c b s).classifier = s.classifier ∧
      (rxByte c b s).policy = s.policy ∧ (rxByte c b s).routes = s.routes ∧ (rxByte c b s).freeDraws = s.freeDraws := by
  unfold rxByte
  dsimp only
  split
  · simp
  · split
    · simp
    · split
      · simp
      · split
        · simp
        · split <;> simp

@[simp] theorem offer_frame (d : DescId) (p : PortIx) (s : State) :
    (offer d p s).pending = s.pending ∧ (offer d p s).resetHeld = s.resetHeld ∧ (offer d p s).straps = s.straps ∧
      (offer d p s).trunkRx = s.trunkRx ∧ (offer d p s).trunkTx = s.trunkTx ∧ (offer d p s).il = s.il ∧
      (offer d p s).sched = s.sched ∧ (offer d p s).align = s.align ∧ (offer d p s).rx = s.rx ∧
      (offer d p s).classifier = s.classifier ∧ (offer d p s).policy = s.policy ∧ (offer d p s).routes = s.routes ∧
      (offer d p s).agent = s.agent ∧ (offer d p s).freeDraws = s.freeDraws := by
  unfold offer; split <;> simp

@[simp] theorem offers_frame (d : DescId) (l : List PortIx) (s : State) :
    (l.foldl (fun s p => offer d p s) s).pending = s.pending ∧
      (l.foldl (fun s p => offer d p s) s).resetHeld = s.resetHeld ∧
      (l.foldl (fun s p => offer d p s) s).straps = s.straps ∧
      (l.foldl (fun s p => offer d p s) s).trunkRx = s.trunkRx ∧
      (l.foldl (fun s p => offer d p s) s).trunkTx = s.trunkTx ∧ (l.foldl (fun s p => offer d p s) s).il = s.il ∧
      (l.foldl (fun s p => offer d p s) s).sched = s.sched ∧ (l.foldl (fun s p => offer d p s) s).align = s.align ∧
      (l.foldl (fun s p => offer d p s) s).rx = s.rx ∧
      (l.foldl (fun s p => offer d p s) s).classifier = s.classifier ∧
      (l.foldl (fun s p => offer d p s) s).policy = s.policy ∧
      (l.foldl (fun s p => offer d p s) s).routes = s.routes ∧
      (l.foldl (fun s p => offer d p s) s).agent = s.agent ∧
      (l.foldl (fun s p => offer d p s) s).freeDraws = s.freeDraws := by
  induction l generalizing s with
  | nil => simp
  | cons p l ih => simp [ih]

@[simp] theorem offerAll_frame (d : DescId) (m : PortSet) (s : State) :
    (offerAll d m s).pending = s.pending ∧ (offerAll d m s).resetHeld = s.resetHeld ∧
      (offerAll d m s).straps = s.straps ∧ (offerAll d m s).trunkRx = s.trunkRx ∧
      (offerAll d m s).trunkTx = s.trunkTx ∧ (offerAll d m s).il = s.il ∧ (offerAll d m s).sched = s.sched ∧
      (offerAll d m s).align = s.align ∧ (offerAll d m s).rx = s.rx ∧ (offerAll d m s).classifier = s.classifier ∧
      (offerAll d m s).policy = s.policy ∧ (offerAll d m s).routes = s.routes ∧ (offerAll d m s).agent = s.agent ∧
      (offerAll d m s).freeDraws = s.freeDraws := by
  simp only [offerAll, State.updStore_pending, State.updStore_resetHeld, State.updStore_straps, State.updStore_trunkRx, State.updStore_trunkTx, State.updStore_il, State.updStore_sched, State.updStore_align, State.updStore_rx, State.updStore_classifier, State.updStore_policy, State.updStore_routes, State.updStore_agent, State.updStore_freeDraws, offers_frame, and_self]

@[simp] theorem inboxOffer_frame (d : DescId) (s : State) :
    (inboxOffer d s).pending = s.pending ∧ (inboxOffer d s).resetHeld = s.resetHeld ∧
      (inboxOffer d s).straps = s.straps ∧ (inboxOffer d s).trunkRx = s.trunkRx ∧
      (inboxOffer d s).trunkTx = s.trunkTx ∧ (inboxOffer d s).il = s.il ∧ (inboxOffer d s).sched = s.sched ∧
      (inboxOffer d s).align = s.align ∧ (inboxOffer d s).rx = s.rx ∧ (inboxOffer d s).ports = s.ports ∧
      (inboxOffer d s).classifier = s.classifier ∧ (inboxOffer d s).policy = s.policy ∧
      (inboxOffer d s).routes = s.routes ∧ (inboxOffer d s).freeDraws = s.freeDraws := by
  unfold inboxOffer; split <;> simp

@[simp] theorem rxCloseFrame_frame (c : Cls) (s : State) :
    (rxCloseFrame c s).pending = s.pending ∧ (rxCloseFrame c s).resetHeld = s.resetHeld ∧
      (rxCloseFrame c s).straps = s.straps ∧ (rxCloseFrame c s).trunkRx = s.trunkRx ∧
      (rxCloseFrame c s).trunkTx = s.trunkTx ∧ (rxCloseFrame c s).il = s.il ∧ (rxCloseFrame c s).sched = s.sched ∧
      (rxCloseFrame c s).align = s.align ∧ (rxCloseFrame c s).classifier = s.classifier ∧
      (rxCloseFrame c s).policy = s.policy ∧ (rxCloseFrame c s).routes = s.routes ∧
      (rxCloseFrame c s).freeDraws = s.freeDraws := by
  unfold rxCloseFrame judgeFrame acceptFrame
  split
  · simp
  · simp
  · split; · simp
    split; · simp
    split <;> simp
  · split; · simp
    split; · simp
    split <;> simp

@[simp] theorem enterResync_frame (s : State) :
    (enterResync s).pending = s.pending ∧ (enterResync s).resetHeld = s.resetHeld ∧
      (enterResync s).straps = s.straps ∧ (enterResync s).trunkRx = s.trunkRx ∧
      (enterResync s).trunkTx = s.trunkTx ∧ (enterResync s).il = s.il ∧ (enterResync s).sched = s.sched ∧
      (enterResync s).align = s.align ∧ (enterResync s).ports = s.ports ∧
      (enterResync s).classifier = s.classifier ∧ (enterResync s).policy = s.policy ∧
      (enterResync s).routes = s.routes ∧ (enterResync s).agent = s.agent ∧ (enterResync s).freeDraws = s.freeDraws := by
  simp [enterResync]

@[simp] theorem breakStream_frame (s : State) :
    (breakStream s).pending = s.pending ∧ (breakStream s).resetHeld = s.resetHeld ∧
      (breakStream s).straps = s.straps ∧ (breakStream s).trunkRx = s.trunkRx ∧ (breakStream s).trunkTx = s.trunkTx ∧
      (breakStream s).il = s.il ∧ (breakStream s).sched = s.sched ∧ (breakStream s).align = s.align ∧
      (breakStream s).ports = s.ports ∧ (breakStream s).classifier = s.classifier ∧
      (breakStream s).policy = s.policy ∧ (breakStream s).routes = s.routes ∧ (breakStream s).agent = s.agent ∧
      (breakStream s).freeDraws = s.freeDraws := by
  simp [breakStream]

/-- A grammar violation touches the Deinterleaver, the store and the Agent alone (R92). -/
@[simp] theorem violation_frame (s : State) :
    (violation s).pending = s.pending ∧ (violation s).resetHeld = s.resetHeld ∧ (violation s).straps = s.straps ∧
      (violation s).trunkRx = s.trunkRx ∧ (violation s).trunkTx = s.trunkTx ∧ (violation s).il = s.il ∧
      (violation s).sched = s.sched ∧ (violation s).align = s.align ∧ (violation s).ports = s.ports ∧
      (violation s).classifier = s.classifier ∧ (violation s).policy = s.policy ∧ (violation s).routes = s.routes ∧
      (violation s).freeDraws = s.freeDraws := by
  simp [violation]

@[simp] theorem actOn_frame (y : TrunkSymbol) (f : Option OpenFrame) (s : State) :
    (actOn y f s).pending = s.pending ∧ (actOn y f s).resetHeld = s.resetHeld ∧ (actOn y f s).straps = s.straps ∧
      (actOn y f s).trunkRx = s.trunkRx ∧ (actOn y f s).trunkTx = s.trunkTx ∧ (actOn y f s).il = s.il ∧
      (actOn y f s).sched = s.sched ∧ (actOn y f s).align = s.align ∧ (actOn y f s).classifier = s.classifier ∧
      (actOn y f s).policy = s.policy ∧ (actOn y f s).routes = s.routes ∧ (actOn y f s).freeDraws = s.freeDraws := by
  unfold actOn; split <;> simp

/-- A symbol reaches the Deinterleaver. -/
@[simp] theorem rxSymbol_frame (y : TrunkSymbol) (s : State) :
    (rxSymbol y s).pending = s.pending ∧ (rxSymbol y s).resetHeld = s.resetHeld ∧
      (rxSymbol y s).straps = s.straps ∧ (rxSymbol y s).trunkRx = s.trunkRx ∧ (rxSymbol y s).trunkTx = s.trunkTx ∧
      (rxSymbol y s).il = s.il ∧ (rxSymbol y s).sched = s.sched ∧ (rxSymbol y s).align = s.align ∧
      (rxSymbol y s).classifier = s.classifier ∧ (rxSymbol y s).policy = s.policy ∧
      (rxSymbol y s).routes = s.routes ∧ (rxSymbol y s).freeDraws = s.freeDraws := by
  unfold rxSymbol
  split
  · unfold rxInResync
    split <;> simp
  · unfold rxInNormal
    split <;> simp

@[simp] theorem undecodedWord_frame (s : State) :
    (undecodedWord s).pending = s.pending ∧ (undecodedWord s).resetHeld = s.resetHeld ∧
      (undecodedWord s).straps = s.straps ∧ (undecodedWord s).trunkRx = s.trunkRx ∧
      (undecodedWord s).trunkTx = s.trunkTx ∧ (undecodedWord s).il = s.il ∧ (undecodedWord s).sched = s.sched ∧
      (undecodedWord s).align = s.align ∧ (undecodedWord s).ports = s.ports ∧
      (undecodedWord s).classifier = s.classifier ∧ (undecodedWord s).policy = s.policy ∧
      (undecodedWord s).routes = s.routes ∧ (undecodedWord s).agent = s.agent ∧
      (undecodedWord s).freeDraws = s.freeDraws := by
  unfold undecodedWord; split <;> simp

@[simp] theorem rxUndecodable_frame (s : State) :
    (rxUndecodable s).pending = s.pending ∧ (rxUndecodable s).resetHeld = s.resetHeld ∧
      (rxUndecodable s).straps = s.straps ∧ (rxUndecodable s).trunkRx = s.trunkRx ∧
      (rxUndecodable s).trunkTx = s.trunkTx ∧ (rxUndecodable s).il = s.il ∧ (rxUndecodable s).sched = s.sched ∧
      (rxUndecodable s).align = s.align ∧ (rxUndecodable s).ports = s.ports ∧
      (rxUndecodable s).classifier = s.classifier ∧ (rxUndecodable s).policy = s.policy ∧
      (rxUndecodable s).routes = s.routes ∧ (rxUndecodable s).freeDraws = s.freeDraws := by
  unfold rxUndecodable undecodedRaises; split <;> simp

@[simp] theorem deinterleaverDown_frame (s : State) :
    (deinterleaverDown s).pending = s.pending ∧ (deinterleaverDown s).resetHeld = s.resetHeld ∧
      (deinterleaverDown s).straps = s.straps ∧ (deinterleaverDown s).trunkRx = s.trunkRx ∧
      (deinterleaverDown s).trunkTx = s.trunkTx ∧ (deinterleaverDown s).il = s.il ∧
      (deinterleaverDown s).sched = s.sched ∧ (deinterleaverDown s).align = s.align ∧
      (deinterleaverDown s).ports = s.ports ∧ (deinterleaverDown s).classifier = s.classifier ∧
      (deinterleaverDown s).policy = s.policy ∧ (deinterleaverDown s).routes = s.routes ∧
      (deinterleaverDown s).agent = s.agent ∧ (deinterleaverDown s).freeDraws = s.freeDraws := by
  simp [deinterleaverDown]

@[simp] theorem discards_frame (l : List Cls) (r : DiscardReason) (s : State) :
    (l.foldl (fun s c => discardContext c r s) s).pending = s.pending ∧
      (l.foldl (fun s c => discardContext c r s) s).resetHeld = s.resetHeld ∧
      (l.foldl (fun s c => discardContext c r s) s).straps = s.straps ∧
      (l.foldl (fun s c => discardContext c r s) s).trunkRx = s.trunkRx ∧
      (l.foldl (fun s c => discardContext c r s) s).trunkTx = s.trunkTx ∧
      (l.foldl (fun s c => discardContext c r s) s).il = s.il ∧
      (l.foldl (fun s c => discardContext c r s) s).sched = s.sched ∧
      (l.foldl (fun s c => discardContext c r s) s).align = s.align ∧
      (l.foldl (fun s c => discardContext c r s) s).ports = s.ports ∧
      (l.foldl (fun s c => discardContext c r s) s).classifier = s.classifier ∧
      (l.foldl (fun s c => discardContext c r s) s).policy = s.policy ∧
      (l.foldl (fun s c => discardContext c r s) s).routes = s.routes ∧
      (l.foldl (fun s c => discardContext c r s) s).agent = s.agent ∧
      (l.foldl (fun s c => discardContext c r s) s).freeDraws = s.freeDraws := by
  induction l generalizing s with
  | nil => simp
  | cons c l ih => simp [ih]

@[simp] theorem deinterleaverTrafficReset_frame (s : State) :
    (deinterleaverTrafficReset s).pending = s.pending ∧ (deinterleaverTrafficReset s).resetHeld = s.resetHeld ∧
      (deinterleaverTrafficReset s).straps = s.straps ∧ (deinterleaverTrafficReset s).trunkRx = s.trunkRx ∧
      (deinterleaverTrafficReset s).trunkTx = s.trunkTx ∧ (deinterleaverTrafficReset s).il = s.il ∧
      (deinterleaverTrafficReset s).sched = s.sched ∧ (deinterleaverTrafficReset s).align = s.align ∧
      (deinterleaverTrafficReset s).ports = s.ports ∧ (deinterleaverTrafficReset s).classifier = s.classifier ∧
      (deinterleaverTrafficReset s).policy = s.policy ∧ (deinterleaverTrafficReset s).routes = s.routes ∧
      (deinterleaverTrafficReset s).agent = s.agent ∧ (deinterleaverTrafficReset s).freeDraws = s.freeDraws := by
  exact discards_frame _ _ _

@[simp] theorem updFramer_frame (p : PortIx) (f : Framer → Framer) (s : State) :
    (updFramer p f s).pending = s.pending ∧ (updFramer p f s).resetHeld = s.resetHeld ∧
      (updFramer p f s).straps = s.straps ∧ (updFramer p f s).trunkRx = s.trunkRx ∧
      (updFramer p f s).trunkTx = s.trunkTx ∧ (updFramer p f s).il = s.il ∧ (updFramer p f s).sched = s.sched ∧
      (updFramer p f s).align = s.align ∧ (updFramer p f s).rx = s.rx ∧ (updFramer p f s).store = s.store ∧
      (updFramer p f s).classifier = s.classifier ∧ (updFramer p f s).policy = s.policy ∧
      (updFramer p f s).routes = s.routes ∧ (updFramer p f s).agent = s.agent ∧
      (updFramer p f s).freeDraws = s.freeDraws := by
  simp [updFramer]

@[simp] theorem framerBegin_frame (p : PortIx) (s : State) :
    (framerBegin p s).pending = s.pending ∧ (framerBegin p s).resetHeld = s.resetHeld ∧
      (framerBegin p s).straps = s.straps ∧ (framerBegin p s).trunkRx = s.trunkRx ∧
      (framerBegin p s).trunkTx = s.trunkTx ∧ (framerBegin p s).il = s.il ∧ (framerBegin p s).sched = s.sched ∧
      (framerBegin p s).align = s.align ∧ (framerBegin p s).rx = s.rx ∧
      (framerBegin p s).classifier = s.classifier ∧ (framerBegin p s).policy = s.policy ∧
      (framerBegin p s).routes = s.routes ∧ (framerBegin p s).freeDraws = s.freeDraws := by
  unfold framerBegin; split <;> simp

@[simp] theorem framerFails_frame (p : PortIx) (r : FailReason) (y : FramerState) (s : State) :
    (framerFails p r y s).pending = s.pending ∧ (framerFails p r y s).resetHeld = s.resetHeld ∧
      (framerFails p r y s).straps = s.straps ∧ (framerFails p r y s).trunkRx = s.trunkRx ∧
      (framerFails p r y s).trunkTx = s.trunkTx ∧ (framerFails p r y s).il = s.il ∧
      (framerFails p r y s).sched = s.sched ∧ (framerFails p r y s).align = s.align ∧
      (framerFails p r y s).rx = s.rx ∧ (framerFails p r y s).classifier = s.classifier ∧
      (framerFails p r y s).policy = s.policy ∧ (framerFails p r y s).routes = s.routes ∧
      (framerFails p r y s).agent = s.agent ∧ (framerFails p r y s).freeDraws = s.freeDraws := by
  unfold framerFails; split <;> simp

@[simp] theorem framerRelinquishes_frame (p : PortIx) (d : DescId) (f : PortCounters → PortCounters) (s : State) :
    (framerRelinquishes p d f s).pending = s.pending ∧ (framerRelinquishes p d f s).resetHeld = s.resetHeld ∧
      (framerRelinquishes p d f s).straps = s.straps ∧ (framerRelinquishes p d f s).trunkRx = s.trunkRx ∧
      (framerRelinquishes p d f s).trunkTx = s.trunkTx ∧ (framerRelinquishes p d f s).il = s.il ∧
      (framerRelinquishes p d f s).sched = s.sched ∧ (framerRelinquishes p d f s).align = s.align ∧
      (framerRelinquishes p d f s).rx = s.rx ∧ (framerRelinquishes p d f s).classifier = s.classifier ∧
      (framerRelinquishes p d f s).policy = s.policy ∧ (framerRelinquishes p d f s).routes = s.routes ∧
      (framerRelinquishes p d f s).agent = s.agent ∧ (framerRelinquishes p d f s).freeDraws = s.freeDraws := by
  simp [framerRelinquishes]

@[simp] theorem framerAdmit_frame (p : PortIx) (d : DescId) (c : Cls) (s : State) :
    (framerAdmit p d c s).pending = s.pending ∧ (framerAdmit p d c s).resetHeld = s.resetHeld ∧
      (framerAdmit p d c s).straps = s.straps ∧ (framerAdmit p d c s).trunkRx = s.trunkRx ∧
      (framerAdmit p d c s).trunkTx = s.trunkTx ∧ (framerAdmit p d c s).il = s.il ∧
      (framerAdmit p d c s).sched = s.sched ∧ (framerAdmit p d c s).align = s.align ∧
      (framerAdmit p d c s).rx = s.rx ∧ (framerAdmit p d c s).classifier = s.classifier ∧
      (framerAdmit p d c s).policy = s.policy ∧ (framerAdmit p d c s).routes = s.routes ∧
      (framerAdmit p d c s).agent = s.agent ∧ (framerAdmit p d c s).freeDraws = s.freeDraws := by
  unfold framerAdmit; split <;> simp

@[simp] theorem tribHeaderComplete_frame (p : PortIx) (d : DescId) (s : State) :
    (tribHeaderComplete p d s).pending = s.pending ∧ (tribHeaderComplete p d s).resetHeld = s.resetHeld ∧
      (tribHeaderComplete p d s).straps = s.straps ∧ (tribHeaderComplete p d s).trunkRx = s.trunkRx ∧
      (tribHeaderComplete p d s).trunkTx = s.trunkTx ∧ (tribHeaderComplete p d s).il = s.il ∧
      (tribHeaderComplete p d s).sched = s.sched ∧ (tribHeaderComplete p d s).align = s.align ∧
      (tribHeaderComplete p d s).rx = s.rx ∧ (tribHeaderComplete p d s).policy = s.policy ∧
      (tribHeaderComplete p d s).routes = s.routes ∧ (tribHeaderComplete p d s).agent = s.agent ∧
      (tribHeaderComplete p d s).freeDraws = s.freeDraws := by
  unfold tribHeaderComplete; dsimp only; split; · simp
  split; · simp
  split <;> simp

@[simp] theorem framerByte_frame (p : PortIx) (d : DescId) (b : Byte) (s : State) :
    (framerByte p d b s).pending = s.pending ∧ (framerByte p d b s).resetHeld = s.resetHeld ∧
      (framerByte p d b s).straps = s.straps ∧ (framerByte p d b s).trunkRx = s.trunkRx ∧
      (framerByte p d b s).trunkTx = s.trunkTx ∧ (framerByte p d b s).il = s.il ∧
      (framerByte p d b s).sched = s.sched ∧ (framerByte p d b s).align = s.align ∧
      (framerByte p d b s).rx = s.rx ∧ (framerByte p d b s).policy = s.policy ∧
      (framerByte p d b s).routes = s.routes ∧ (framerByte p d b s).freeDraws = s.freeDraws := by
  unfold framerByte
  split
  · simp
  · split
    · simp
    · dsimp only
      split <;> simp

@[simp] theorem framerEnd_frame (p : PortIx) (d : DescId) (s : State) :
    (framerEnd p d s).pending = s.pending ∧ (framerEnd p d s).resetHeld = s.resetHeld ∧
      (framerEnd p d s).straps = s.straps ∧ (framerEnd p d s).trunkRx = s.trunkRx ∧
      (framerEnd p d s).trunkTx = s.trunkTx ∧ (framerEnd p d s).il = s.il ∧ (framerEnd p d s).sched = s.sched ∧
      (framerEnd p d s).align = s.align ∧ (framerEnd p d s).rx = s.rx ∧
      (framerEnd p d s).classifier = s.classifier ∧ (framerEnd p d s).policy = s.policy ∧
      (framerEnd p d s).routes = s.routes ∧ (framerEnd p d s).agent = s.agent ∧
      (framerEnd p d s).freeDraws = s.freeDraws := by
  unfold framerEnd; split; · simp
  split <;> simp

@[simp] theorem idleSlot_frame (p : PortIx) (s : State) :
    (idleSlot p s).pending = s.pending ∧ (idleSlot p s).resetHeld = s.resetHeld ∧ (idleSlot p s).straps = s.straps ∧
      (idleSlot p s).trunkRx = s.trunkRx ∧ (idleSlot p s).trunkTx = s.trunkTx ∧ (idleSlot p s).il = s.il ∧
      (idleSlot p s).sched = s.sched ∧ (idleSlot p s).align = s.align ∧ (idleSlot p s).rx = s.rx ∧
      (idleSlot p s).classifier = s.classifier ∧ (idleSlot p s).policy = s.policy ∧ (idleSlot p s).routes = s.routes ∧
      (idleSlot p s).agent = s.agent ∧ (idleSlot p s).freeDraws = s.freeDraws := by
  unfold idleSlot; split; · simp
  split <;> simp

@[simp] theorem framerSymbol_frame (p : PortIx) (y : TribSymbol) (s : State) :
    (framerSymbol p y s).pending = s.pending ∧ (framerSymbol p y s).resetHeld = s.resetHeld ∧
      (framerSymbol p y s).straps = s.straps ∧ (framerSymbol p y s).trunkRx = s.trunkRx ∧
      (framerSymbol p y s).trunkTx = s.trunkTx ∧ (framerSymbol p y s).il = s.il ∧
      (framerSymbol p y s).sched = s.sched ∧ (framerSymbol p y s).align = s.align ∧
      (framerSymbol p y s).rx = s.rx ∧ (framerSymbol p y s).policy = s.policy ∧
      (framerSymbol p y s).routes = s.routes ∧ (framerSymbol p y s).freeDraws = s.freeDraws := by
  unfold framerSymbol idleRaises
  split <;> first | (simp; done) | (split <;> simp)

/-- A symbol reaches a framer. -/
@[simp] theorem tribSymbol_frame (p : PortIx) (y : TribSymbol) (s : State) :
    (tribSymbol p y s).pending = s.pending ∧ (tribSymbol p y s).resetHeld = s.resetHeld ∧
      (tribSymbol p y s).straps = s.straps ∧ (tribSymbol p y s).trunkRx = s.trunkRx ∧
      (tribSymbol p y s).trunkTx = s.trunkTx ∧ (tribSymbol p y s).il = s.il ∧ (tribSymbol p y s).sched = s.sched ∧
      (tribSymbol p y s).align = s.align ∧ (tribSymbol p y s).rx = s.rx ∧ (tribSymbol p y s).policy = s.policy ∧
      (tribSymbol p y s).routes = s.routes ∧ (tribSymbol p y s).freeDraws = s.freeDraws := by
  unfold tribSymbol; split <;> simp

@[simp] theorem dropRefs_frame (l : List DescId) (s : State) :
    (dropRefs l s).pending = s.pending ∧ (dropRefs l s).resetHeld = s.resetHeld ∧
      (dropRefs l s).straps = s.straps ∧ (dropRefs l s).trunkRx = s.trunkRx ∧ (dropRefs l s).trunkTx = s.trunkTx ∧
      (dropRefs l s).il = s.il ∧ (dropRefs l s).sched = s.sched ∧ (dropRefs l s).align = s.align ∧
      (dropRefs l s).rx = s.rx ∧ (dropRefs l s).ports = s.ports ∧ (dropRefs l s).classifier = s.classifier ∧
      (dropRefs l s).policy = s.policy ∧ (dropRefs l s).routes = s.routes ∧ (dropRefs l s).agent = s.agent ∧
      (dropRefs l s).freeDraws = s.freeDraws := by
  simp [dropRefs]

@[simp] theorem emptyDelivery_frame (p : PortIx) (s : State) :
    (emptyDelivery p s).pending = s.pending ∧ (emptyDelivery p s).resetHeld = s.resetHeld ∧
      (emptyDelivery p s).straps = s.straps ∧ (emptyDelivery p s).trunkRx = s.trunkRx ∧
      (emptyDelivery p s).trunkTx = s.trunkTx ∧ (emptyDelivery p s).il = s.il ∧
      (emptyDelivery p s).sched = s.sched ∧ (emptyDelivery p s).align = s.align ∧ (emptyDelivery p s).rx = s.rx ∧
      (emptyDelivery p s).classifier = s.classifier ∧ (emptyDelivery p s).policy = s.policy ∧
      (emptyDelivery p s).routes = s.routes ∧ (emptyDelivery p s).agent = s.agent ∧
      (emptyDelivery p s).freeDraws = s.freeDraws := by
  simp [emptyDelivery]

@[simp] theorem abandonSending_frame (p : PortIx) (s : State) :
    (abandonSending p s).pending = s.pending ∧ (abandonSending p s).resetHeld = s.resetHeld ∧
      (abandonSending p s).straps = s.straps ∧ (abandonSending p s).trunkRx = s.trunkRx ∧
      (abandonSending p s).trunkTx = s.trunkTx ∧ (abandonSending p s).il = s.il ∧
      (abandonSending p s).sched = s.sched ∧ (abandonSending p s).align = s.align ∧
      (abandonSending p s).rx = s.rx ∧ (abandonSending p s).classifier = s.classifier ∧
      (abandonSending p s).policy = s.policy ∧ (abandonSending p s).routes = s.routes ∧
      (abandonSending p s).agent = s.agent ∧ (abandonSending p s).freeDraws = s.freeDraws := by
  unfold abandonSending; split <;> simp

@[simp] theorem stopServing_frame (p : PortIx) (s : State) :
    (stopServing p s).pending = s.pending ∧ (stopServing p s).resetHeld = s.resetHeld ∧
      (stopServing p s).straps = s.straps ∧ (stopServing p s).trunkRx = s.trunkRx ∧
      (stopServing p s).trunkTx = s.trunkTx ∧ (stopServing p s).il = s.il ∧ (stopServing p s).sched = s.sched ∧
      (stopServing p s).align = s.align ∧ (stopServing p s).rx = s.rx ∧
      (stopServing p s).classifier = s.classifier ∧ (stopServing p s).policy = s.policy ∧
      (stopServing p s).routes = s.routes ∧ (stopServing p s).agent = s.agent ∧
      (stopServing p s).freeDraws = s.freeDraws := by
  unfold stopServing; dsimp only; split <;> simp

@[simp] theorem startServing_frame (p : PortIx) (s : State) :
    (startServing p s).pending = s.pending ∧ (startServing p s).resetHeld = s.resetHeld ∧
      (startServing p s).straps = s.straps ∧ (startServing p s).trunkRx = s.trunkRx ∧
      (startServing p s).trunkTx = s.trunkTx ∧ (startServing p s).il = s.il ∧ (startServing p s).sched = s.sched ∧
      (startServing p s).align = s.align ∧ (startServing p s).rx = s.rx ∧ (startServing p s).store = s.store ∧
      (startServing p s).classifier = s.classifier ∧ (startServing p s).policy = s.policy ∧
      (startServing p s).routes = s.routes ∧ (startServing p s).agent = s.agent ∧
      (startServing p s).freeDraws = s.freeDraws := by
  simp [startServing]

@[simp] theorem changePort_frame (p : PortIx) (f : Port → Port) (s : State) :
    (changePort p f s).pending = s.pending ∧ (changePort p f s).resetHeld = s.resetHeld ∧
      (changePort p f s).straps = s.straps ∧ (changePort p f s).trunkRx = s.trunkRx ∧
      (changePort p f s).trunkTx = s.trunkTx ∧ (changePort p f s).il = s.il ∧ (changePort p f s).sched = s.sched ∧
      (changePort p f s).align = s.align ∧ (changePort p f s).rx = s.rx ∧
      (changePort p f s).classifier = s.classifier ∧ (changePort p f s).policy = s.policy ∧
      (changePort p f s).routes = s.routes ∧ (changePort p f s).agent = s.agent ∧
      (changePort p f s).freeDraws = s.freeDraws := by
  unfold changePort; dsimp only; split <;> simp

@[simp] theorem framerTrafficReset_frame (p : PortIx) (s : State) :
    (framerTrafficReset p s).pending = s.pending ∧ (framerTrafficReset p s).resetHeld = s.resetHeld ∧
      (framerTrafficReset p s).straps = s.straps ∧ (framerTrafficReset p s).trunkRx = s.trunkRx ∧
      (framerTrafficReset p s).trunkTx = s.trunkTx ∧ (framerTrafficReset p s).il = s.il ∧
      (framerTrafficReset p s).sched = s.sched ∧ (framerTrafficReset p s).align = s.align ∧
      (framerTrafficReset p s).rx = s.rx ∧ (framerTrafficReset p s).classifier = s.classifier ∧
      (framerTrafficReset p s).policy = s.policy ∧ (framerTrafficReset p s).routes = s.routes ∧
      (framerTrafficReset p s).agent = s.agent ∧ (framerTrafficReset p s).freeDraws = s.freeDraws := by
  unfold framerTrafficReset; split <;> simp

@[simp] theorem txNext_frame (p : PortIx) (s : State) :
    ((txNext p s).1).pending = s.pending ∧ ((txNext p s).1).resetHeld = s.resetHeld ∧
      ((txNext p s).1).straps = s.straps ∧ ((txNext p s).1).trunkRx = s.trunkRx ∧
      ((txNext p s).1).trunkTx = s.trunkTx ∧ ((txNext p s).1).il = s.il ∧ ((txNext p s).1).sched = s.sched ∧
      ((txNext p s).1).align = s.align ∧ ((txNext p s).1).rx = s.rx ∧ ((txNext p s).1).store = s.store ∧
      ((txNext p s).1).classifier = s.classifier ∧ ((txNext p s).1).policy = s.policy ∧
      ((txNext p s).1).routes = s.routes ∧ ((txNext p s).1).agent = s.agent ∧
      ((txNext p s).1).freeDraws = s.freeDraws := by
  unfold txNext txChoose; split; · simp
  split <;> simp

@[simp] theorem txSent_frame (p : PortIx) (y : TribSymbol) (s : State) :
    (txSent p y s).pending = s.pending ∧ (txSent p y s).resetHeld = s.resetHeld ∧ (txSent p y s).straps = s.straps ∧
      (txSent p y s).trunkRx = s.trunkRx ∧ (txSent p y s).trunkTx = s.trunkTx ∧ (txSent p y s).il = s.il ∧
      (txSent p y s).sched = s.sched ∧ (txSent p y s).align = s.align ∧ (txSent p y s).rx = s.rx ∧
      (txSent p y s).classifier = s.classifier ∧ (txSent p y s).policy = s.policy ∧ (txSent p y s).routes = s.routes ∧
      (txSent p y s).agent = s.agent ∧ (txSent p y s).freeDraws = s.freeDraws := by
  unfold txSent; split <;> simp

/-- A slot of a port's transmitter. -/
@[simp] theorem tribTxSlot_frame (p : PortIx) (s : State) :
    (tribTxSlot p s).pending = s.pending ∧ (tribTxSlot p s).resetHeld = s.resetHeld ∧
      (tribTxSlot p s).straps = s.straps ∧ (tribTxSlot p s).trunkRx = s.trunkRx ∧
      (tribTxSlot p s).trunkTx = s.trunkTx ∧ (tribTxSlot p s).il = s.il ∧ (tribTxSlot p s).sched = s.sched ∧
      (tribTxSlot p s).align = s.align ∧ (tribTxSlot p s).rx = s.rx ∧ (tribTxSlot p s).classifier = s.classifier ∧
      (tribTxSlot p s).policy = s.policy ∧ (tribTxSlot p s).routes = s.routes ∧ (tribTxSlot p s).agent = s.agent ∧
      (tribTxSlot p s).freeDraws = s.freeDraws := by
  unfold tribTxSlot txServe txSend
  split
  · dsimp only; split <;> simp
  · simp

@[simp] theorem trunkFalls_frame (s : State) :
    (trunkFalls s).pending = s.pending ∧ (trunkFalls s).resetHeld = s.resetHeld ∧ (trunkFalls s).straps = s.straps ∧
      (trunkFalls s).trunkTx = s.trunkTx ∧ (trunkFalls s).sched = s.sched ∧ (trunkFalls s).ports = s.ports ∧
      (trunkFalls s).classifier = s.classifier ∧ (trunkFalls s).policy = s.policy ∧ (trunkFalls s).routes = s.routes ∧
      (trunkFalls s).freeDraws = s.freeDraws := by
  simp [trunkFalls]

/-- A trunk DOWN event (R2). -/
@[simp] theorem trunkDown_frame (s : State) :
    (trunkDown s).pending = s.pending ∧ (trunkDown s).resetHeld = s.resetHeld ∧ (trunkDown s).straps = s.straps ∧
      (trunkDown s).trunkTx = s.trunkTx ∧ (trunkDown s).sched = s.sched ∧ (trunkDown s).ports = s.ports ∧
      (trunkDown s).classifier = s.classifier ∧ (trunkDown s).policy = s.policy ∧ (trunkDown s).routes = s.routes ∧
      (trunkDown s).freeDraws = s.freeDraws := by
  unfold trunkDown; split <;> simp

@[simp] theorem trunkUp_frame (s : State) :
    (trunkUp s).pending = s.pending ∧ (trunkUp s).resetHeld = s.resetHeld ∧ (trunkUp s).straps = s.straps ∧
      (trunkUp s).trunkTx = s.trunkTx ∧ (trunkUp s).il = s.il ∧ (trunkUp s).sched = s.sched ∧
      (trunkUp s).align = s.align ∧ (trunkUp s).rx = s.rx ∧ (trunkUp s).store = s.store ∧
      (trunkUp s).ports = s.ports ∧ (trunkUp s).classifier = s.classifier ∧ (trunkUp s).policy = s.policy ∧
      (trunkUp s).routes = s.routes ∧ (trunkUp s).freeDraws = s.freeDraws := by
  unfold trunkUp; split <;> simp

@[simp] theorem updPortRx_frame (p : PortIx) (f : LineRx → LineRx) (s : State) :
    (updPortRx p f s).pending = s.pending ∧ (updPortRx p f s).resetHeld = s.resetHeld ∧
      (updPortRx p f s).straps = s.straps ∧ (updPortRx p f s).trunkRx = s.trunkRx ∧
      (updPortRx p f s).trunkTx = s.trunkTx ∧ (updPortRx p f s).il = s.il ∧ (updPortRx p f s).sched = s.sched ∧
      (updPortRx p f s).align = s.align ∧ (updPortRx p f s).rx = s.rx ∧ (updPortRx p f s).store = s.store ∧
      (updPortRx p f s).classifier = s.classifier ∧ (updPortRx p f s).policy = s.policy ∧
      (updPortRx p f s).routes = s.routes ∧ (updPortRx p f s).agent = s.agent ∧
      (updPortRx p f s).freeDraws = s.freeDraws := by
  simp [updPortRx]

@[simp] theorem tributaryFalls_frame (p : PortIx) (s : State) :
    (tributaryFalls p s).pending = s.pending ∧ (tributaryFalls p s).resetHeld = s.resetHeld ∧
      (tributaryFalls p s).straps = s.straps ∧ (tributaryFalls p s).trunkRx = s.trunkRx ∧
      (tributaryFalls p s).trunkTx = s.trunkTx ∧ (tributaryFalls p s).il = s.il ∧
      (tributaryFalls p s).sched = s.sched ∧ (tributaryFalls p s).align = s.align ∧ (tributaryFalls p s).rx = s.rx ∧
      (tributaryFalls p s).classifier = s.classifier ∧ (tributaryFalls p s).policy = s.policy ∧
      (tributaryFalls p s).routes = s.routes ∧ (tributaryFalls p s).agent = s.agent ∧
      (tributaryFalls p s).freeDraws = s.freeDraws := by
  simp [tributaryFalls]

@[simp] theorem tributaryDown_frame (p : PortIx) (s : State) :
    (tributaryDown p s).pending = s.pending ∧ (tributaryDown p s).resetHeld = s.resetHeld ∧
      (tributaryDown p s).straps = s.straps ∧ (tributaryDown p s).trunkRx = s.trunkRx ∧
      (tributaryDown p s).trunkTx = s.trunkTx ∧ (tributaryDown p s).il = s.il ∧ (tributaryDown p s).sched = s.sched ∧
      (tributaryDown p s).align = s.align ∧ (tributaryDown p s).rx = s.rx ∧
      (tributaryDown p s).classifier = s.classifier ∧ (tributaryDown p s).policy = s.policy ∧
      (tributaryDown p s).routes = s.routes ∧ (tributaryDown p s).freeDraws = s.freeDraws := by
  unfold tributaryDown; split <;> simp

@[simp] theorem tributaryUp_frame (p : PortIx) (s : State) :
    (tributaryUp p s).pending = s.pending ∧ (tributaryUp p s).resetHeld = s.resetHeld ∧
      (tributaryUp p s).straps = s.straps ∧ (tributaryUp p s).trunkRx = s.trunkRx ∧
      (tributaryUp p s).trunkTx = s.trunkTx ∧ (tributaryUp p s).il = s.il ∧ (tributaryUp p s).sched = s.sched ∧
      (tributaryUp p s).align = s.align ∧ (tributaryUp p s).rx = s.rx ∧
      (tributaryUp p s).classifier = s.classifier ∧ (tributaryUp p s).policy = s.policy ∧
      (tributaryUp p s).routes = s.routes ∧ (tributaryUp p s).freeDraws = s.freeDraws := by
  unfold tributaryUp; split <;> simp

/-- One slot of a tributary's receiver. -/
@[simp] theorem tribDecoded_frame (p : PortIx) (y : TribSymbol) (s : State) :
    (tribDecoded p y s).pending = s.pending ∧ (tribDecoded p y s).resetHeld = s.resetHeld ∧
      (tribDecoded p y s).straps = s.straps ∧ (tribDecoded p y s).trunkRx = s.trunkRx ∧
      (tribDecoded p y s).trunkTx = s.trunkTx ∧ (tribDecoded p y s).il = s.il ∧ (tribDecoded p y s).sched = s.sched ∧
      (tribDecoded p y s).align = s.align ∧ (tribDecoded p y s).rx = s.rx ∧ (tribDecoded p y s).policy = s.policy ∧
      (tribDecoded p y s).routes = s.routes ∧ (tribDecoded p y s).freeDraws = s.freeDraws := by
  unfold tribDecoded; split; · simp
  dsimp only; split <;> simp

@[simp] theorem tribFailed_frame (p : PortIx) (s : State) :
    (tribFailed p s).pending = s.pending ∧ (tribFailed p s).resetHeld = s.resetHeld ∧
      (tribFailed p s).straps = s.straps ∧ (tribFailed p s).trunkRx = s.trunkRx ∧
      (tribFailed p s).trunkTx = s.trunkTx ∧ (tribFailed p s).il = s.il ∧ (tribFailed p s).sched = s.sched ∧
      (tribFailed p s).align = s.align ∧ (tribFailed p s).rx = s.rx ∧ (tribFailed p s).classifier = s.classifier ∧
      (tribFailed p s).policy = s.policy ∧ (tribFailed p s).routes = s.routes := by
  unfold tribFailed; split
  · dsimp only; split <;> simp
  · simp

end Sys2Proof.Machine
end

