-- ==== Sys2Proof/Laws/AgentFrames.lean ====
section
/-! SUPPORT. What each operation of the Management Agent leaves unchanged in the state. -/

namespace Sys2Proof.Machine

@[simp] theorem discards_queued_frame (l : List DescId) (r : FailReason) (s : State) :
    (l.foldl (fun s d => discardQueued d r s) s).pending = s.pending ∧
      (l.foldl (fun s d => discardQueued d r s) s).resetHeld = s.resetHeld ∧
      (l.foldl (fun s d => discardQueued d r s) s).straps = s.straps ∧
      (l.foldl (fun s d => discardQueued d r s) s).trunkRx = s.trunkRx ∧
      (l.foldl (fun s d => discardQueued d r s) s).trunkTx = s.trunkTx ∧
      (l.foldl (fun s d => discardQueued d r s) s).sched = s.sched ∧
      (l.foldl (fun s d => discardQueued d r s) s).align = s.align ∧
      (l.foldl (fun s d => discardQueued d r s) s).rx = s.rx ∧
      (l.foldl (fun s d => discardQueued d r s) s).classifier = s.classifier ∧
      (l.foldl (fun s d => discardQueued d r s) s).policy = s.policy ∧
      (l.foldl (fun s d => discardQueued d r s) s).routes = s.routes ∧
      (l.foldl (fun s d => discardQueued d r s) s).agent = s.agent ∧
      (l.foldl (fun s d => discardQueued d r s) s).freeDraws = s.freeDraws := by
  induction l generalizing s with
  | nil => simp
  | cons d l ih => simp [ih]

@[simp] theorem emptyClassQueue_frame (c : Cls) (r : FailReason) (s : State) :
    (emptyClassQueue c r s).pending = s.pending ∧ (emptyClassQueue c r s).resetHeld = s.resetHeld ∧
      (emptyClassQueue c r s).straps = s.straps ∧ (emptyClassQueue c r s).trunkRx = s.trunkRx ∧
      (emptyClassQueue c r s).trunkTx = s.trunkTx ∧ (emptyClassQueue c r s).sched = s.sched ∧
      (emptyClassQueue c r s).align = s.align ∧ (emptyClassQueue c r s).rx = s.rx ∧
      (emptyClassQueue c r s).classifier = s.classifier ∧ (emptyClassQueue c r s).policy = s.policy ∧
      (emptyClassQueue c r s).routes = s.routes ∧ (emptyClassQueue c r s).agent = s.agent ∧
      (emptyClassQueue c r s).freeDraws = s.freeDraws := by
  exact discards_queued_frame _ _ _

@[simp] theorem applyConfigs_frame (i : Nat) (l : List PortConfig) (s : State) :
    (applyConfigs i l s).pending = s.pending ∧ (applyConfigs i l s).resetHeld = s.resetHeld ∧
      (applyConfigs i l s).straps = s.straps ∧ (applyConfigs i l s).trunkRx = s.trunkRx ∧
      (applyConfigs i l s).trunkTx = s.trunkTx ∧ (applyConfigs i l s).il = s.il ∧
      (applyConfigs i l s).sched = s.sched ∧ (applyConfigs i l s).align = s.align ∧
      (applyConfigs i l s).rx = s.rx ∧ (applyConfigs i l s).classifier = s.classifier ∧
      (applyConfigs i l s).policy = s.policy ∧ (applyConfigs i l s).routes = s.routes ∧
      (applyConfigs i l s).agent = s.agent ∧ (applyConfigs i l s).freeDraws = s.freeDraws := by
  induction l generalizing i s with
  | nil => simp [applyConfigs]
  | cons x l ih =>
    simp only [applyConfigs, ih]
    split <;> simp

@[simp] theorem updReplay_frame (f : List ReplayEntry → List ReplayEntry) (s : State) :
    (updReplay f s).pending = s.pending ∧ (updReplay f s).resetHeld = s.resetHeld ∧
      (updReplay f s).straps = s.straps ∧ (updReplay f s).trunkRx = s.trunkRx ∧
      (updReplay f s).trunkTx = s.trunkTx ∧ (updReplay f s).il = s.il ∧ (updReplay f s).sched = s.sched ∧
      (updReplay f s).align = s.align ∧ (updReplay f s).rx = s.rx ∧ (updReplay f s).store = s.store ∧
      (updReplay f s).ports = s.ports ∧ (updReplay f s).classifier = s.classifier ∧
      (updReplay f s).policy = s.policy ∧ (updReplay f s).routes = s.routes ∧
      (updReplay f s).freeDraws = s.freeDraws := by
  simp [updReplay]

@[simp] theorem recordOutcome_frame (r : Request) (x : Status) (s : State) :
    (recordOutcome r x s).pending = s.pending ∧ (recordOutcome r x s).resetHeld = s.resetHeld ∧
      (recordOutcome r x s).straps = s.straps ∧ (recordOutcome r x s).trunkRx = s.trunkRx ∧
      (recordOutcome r x s).trunkTx = s.trunkTx ∧ (recordOutcome r x s).il = s.il ∧
      (recordOutcome r x s).sched = s.sched ∧ (recordOutcome r x s).align = s.align ∧
      (recordOutcome r x s).rx = s.rx ∧ (recordOutcome r x s).store = s.store ∧
      (recordOutcome r x s).ports = s.ports ∧ (recordOutcome r x s).classifier = s.classifier ∧
      (recordOutcome r x s).policy = s.policy ∧ (recordOutcome r x s).routes = s.routes ∧
      (recordOutcome r x s).freeDraws = s.freeDraws := by
  unfold recordOutcome; split <;> simp

@[simp] theorem clearCounters_frame (s : State) :
    (clearCounters s).pending = s.pending ∧ (clearCounters s).resetHeld = s.resetHeld ∧
      (clearCounters s).straps = s.straps ∧ (clearCounters s).trunkRx = s.trunkRx ∧
      (clearCounters s).trunkTx = s.trunkTx ∧ (clearCounters s).store = s.store ∧
      (clearCounters s).policy = s.policy ∧ (clearCounters s).routes = s.routes ∧
      (clearCounters s).freeDraws = s.freeDraws := by
  simp [clearCounters]

@[simp] theorem dropInbox_frame (s : State) :
    (dropInbox s).pending = s.pending ∧ (dropInbox s).resetHeld = s.resetHeld ∧ (dropInbox s).straps = s.straps ∧
      (dropInbox s).trunkRx = s.trunkRx ∧ (dropInbox s).trunkTx = s.trunkTx ∧ (dropInbox s).il = s.il ∧
      (dropInbox s).sched = s.sched ∧ (dropInbox s).align = s.align ∧ (dropInbox s).rx = s.rx ∧
      (dropInbox s).ports = s.ports ∧ (dropInbox s).classifier = s.classifier ∧ (dropInbox s).policy = s.policy ∧
      (dropInbox s).routes = s.routes ∧ (dropInbox s).freeDraws = s.freeDraws := by
  simp [dropInbox]

@[simp] theorem portTrafficReset_frame (p : PortIx) (s : State) :
    (portTrafficReset p s).pending = s.pending ∧ (portTrafficReset p s).resetHeld = s.resetHeld ∧
      (portTrafficReset p s).straps = s.straps ∧ (portTrafficReset p s).trunkRx = s.trunkRx ∧
      (portTrafficReset p s).trunkTx = s.trunkTx ∧ (portTrafficReset p s).il = s.il ∧
      (portTrafficReset p s).sched = s.sched ∧ (portTrafficReset p s).align = s.align ∧
      (portTrafficReset p s).rx = s.rx ∧ (portTrafficReset p s).classifier = s.classifier ∧
      (portTrafficReset p s).policy = s.policy ∧ (portTrafficReset p s).routes = s.routes ∧
      (portTrafficReset p s).agent = s.agent ∧ (portTrafficReset p s).freeDraws = s.freeDraws := by
  simp [portTrafficReset]

@[simp] theorem performQuery_frame (s : State) :
    (performQuery s).state.pending = s.pending ∧ (performQuery s).state.resetHeld = s.resetHeld ∧
      (performQuery s).state.straps = s.straps ∧ (performQuery s).state.trunkRx = s.trunkRx ∧
      (performQuery s).state.trunkTx = s.trunkTx ∧ (performQuery s).state.il = s.il ∧
      (performQuery s).state.sched = s.sched ∧ (performQuery s).state.align = s.align ∧
      (performQuery s).state.rx = s.rx ∧ (performQuery s).state.store = s.store ∧
      (performQuery s).state.ports = s.ports ∧ (performQuery s).state.classifier = s.classifier ∧
      (performQuery s).state.policy = s.policy ∧ (performQuery s).state.routes = s.routes ∧
      (performQuery s).state.agent = s.agent ∧ (performQuery s).state.freeDraws = s.freeDraws := by
  simp [performQuery]

@[simp] theorem performCommit_frame (s : State) :
    (performCommit s).state.pending = s.pending ∧ (performCommit s).state.resetHeld = s.resetHeld ∧
      (performCommit s).state.straps = s.straps ∧ (performCommit s).state.trunkRx = s.trunkRx ∧
      (performCommit s).state.trunkTx = s.trunkTx ∧ (performCommit s).state.il = s.il ∧
      (performCommit s).state.align = s.align ∧ (performCommit s).state.rx = s.rx ∧
      (performCommit s).state.store = s.store ∧ (performCommit s).state.ports = s.ports ∧
      (performCommit s).state.classifier = s.classifier ∧ (performCommit s).state.policy = s.policy ∧
      (performCommit s).state.routes = s.routes ∧ (performCommit s).state.agent = s.agent ∧
      (performCommit s).state.freeDraws = s.freeDraws := by
  unfold performCommit; split; · simp [Done.refuse]
  split <;> simp [Done.refuse, Done.ok]

@[simp] theorem performAbandon_frame (s : State) :
    (performAbandon s).state.pending = s.pending ∧ (performAbandon s).state.resetHeld = s.resetHeld ∧
      (performAbandon s).state.straps = s.straps ∧ (performAbandon s).state.trunkRx = s.trunkRx ∧
      (performAbandon s).state.trunkTx = s.trunkTx ∧ (performAbandon s).state.il = s.il ∧
      (performAbandon s).state.align = s.align ∧ (performAbandon s).state.rx = s.rx ∧
      (performAbandon s).state.store = s.store ∧ (performAbandon s).state.ports = s.ports ∧
      (performAbandon s).state.classifier = s.classifier ∧ (performAbandon s).state.policy = s.policy ∧
      (performAbandon s).state.routes = s.routes ∧ (performAbandon s).state.agent = s.agent ∧
      (performAbandon s).state.freeDraws = s.freeDraws := by
  unfold performAbandon; split <;> simp [Done.refuse, Done.ok]

@[simp] theorem performTrafficReset_frame (s : State) :
    (performTrafficReset s).state.pending = s.pending ∧ (performTrafficReset s).state.resetHeld = s.resetHeld ∧
      (performTrafficReset s).state.straps = s.straps ∧ (performTrafficReset s).state.trunkRx = s.trunkRx ∧
      (performTrafficReset s).state.trunkTx = s.trunkTx ∧ (performTrafficReset s).state.sched = s.sched ∧
      (performTrafficReset s).state.align = s.align ∧ (performTrafficReset s).state.classifier = s.classifier ∧
      (performTrafficReset s).state.policy = s.policy ∧ (performTrafficReset s).state.routes = s.routes ∧
      (performTrafficReset s).state.freeDraws = s.freeDraws := by
  simp [performTrafficReset, Done.ok]

@[simp] theorem performRead_frame (t : TableId) (r : Request) (s : State) :
    (performRead t r s).state.pending = s.pending ∧ (performRead t r s).state.resetHeld = s.resetHeld ∧
      (performRead t r s).state.straps = s.straps ∧ (performRead t r s).state.trunkRx = s.trunkRx ∧
      (performRead t r s).state.trunkTx = s.trunkTx ∧ (performRead t r s).state.il = s.il ∧
      (performRead t r s).state.sched = s.sched ∧ (performRead t r s).state.align = s.align ∧
      (performRead t r s).state.rx = s.rx ∧ (performRead t r s).state.store = s.store ∧
      (performRead t r s).state.ports = s.ports ∧ (performRead t r s).state.classifier = s.classifier ∧
      (performRead t r s).state.policy = s.policy ∧ (performRead t r s).state.routes = s.routes ∧
      (performRead t r s).state.agent = s.agent ∧ (performRead t r s).state.freeDraws = s.freeDraws := by
  simp [performRead]

@[simp] theorem performWriteClassify_frame (r : Request) (s : State) :
    (performWriteClassify r s).state.pending = s.pending ∧
      (performWriteClassify r s).state.resetHeld = s.resetHeld ∧
      (performWriteClassify r s).state.straps = s.straps ∧ (performWriteClassify r s).state.trunkRx = s.trunkRx ∧
      (performWriteClassify r s).state.trunkTx = s.trunkTx ∧ (performWriteClassify r s).state.il = s.il ∧
      (performWriteClassify r s).state.sched = s.sched ∧ (performWriteClassify r s).state.align = s.align ∧
      (performWriteClassify r s).state.rx = s.rx ∧ (performWriteClassify r s).state.store = s.store ∧
      (performWriteClassify r s).state.ports = s.ports ∧ (performWriteClassify r s).state.policy = s.policy ∧
      (performWriteClassify r s).state.routes = s.routes ∧ (performWriteClassify r s).state.agent = s.agent ∧
      (performWriteClassify r s).state.freeDraws = s.freeDraws := by
  unfold performWriteClassify; split <;> simp [Done.refuse, Done.ok]

@[simp] theorem performWritePortDefault_frame (r : Request) (s : State) :
    (performWritePortDefault r s).state.pending = s.pending ∧
      (performWritePortDefault r s).state.resetHeld = s.resetHeld ∧
      (performWritePortDefault r s).state.straps = s.straps ∧
      (performWritePortDefault r s).state.trunkRx = s.trunkRx ∧
      (performWritePortDefault r s).state.trunkTx = s.trunkTx ∧ (performWritePortDefault r s).state.il = s.il ∧
      (performWritePortDefault r s).state.sched = s.sched ∧ (performWritePortDefault r s).state.align = s.align ∧
      (performWritePortDefault r s).state.rx = s.rx ∧ (performWritePortDefault r s).state.store = s.store ∧
      (performWritePortDefault r s).state.ports = s.ports ∧ (performWritePortDefault r s).state.policy = s.policy ∧
      (performWritePortDefault r s).state.routes = s.routes ∧ (performWritePortDefault r s).state.agent = s.agent ∧
      (performWritePortDefault r s).state.freeDraws = s.freeDraws := by
  unfold performWritePortDefault; split <;> simp [Done.refuse, Done.ok]

@[simp] theorem performWriteClassPolicy_frame (r : Request) (s : State) :
    (performWriteClassPolicy r s).state.pending = s.pending ∧
      (performWriteClassPolicy r s).state.resetHeld = s.resetHeld ∧
      (performWriteClassPolicy r s).state.straps = s.straps ∧
      (performWriteClassPolicy r s).state.trunkRx = s.trunkRx ∧
      (performWriteClassPolicy r s).state.trunkTx = s.trunkTx ∧ (performWriteClassPolicy r s).state.il = s.il ∧
      (performWriteClassPolicy r s).state.sched = s.sched ∧ (performWriteClassPolicy r s).state.align = s.align ∧
      (performWriteClassPolicy r s).state.rx = s.rx ∧ (performWriteClassPolicy r s).state.store = s.store ∧
      (performWriteClassPolicy r s).state.ports = s.ports ∧
      (performWriteClassPolicy r s).state.classifier = s.classifier ∧
      (performWriteClassPolicy r s).state.routes = s.routes ∧ (performWriteClassPolicy r s).state.agent = s.agent ∧
      (performWriteClassPolicy r s).state.freeDraws = s.freeDraws := by
  unfold performWriteClassPolicy; split <;> simp [Done.refuse, Done.ok]

@[simp] theorem performWritePortConfig_frame (r : Request) (s : State) :
    (performWritePortConfig r s).state.pending = s.pending ∧
      (performWritePortConfig r s).state.resetHeld = s.resetHeld ∧
      (performWritePortConfig r s).state.straps = s.straps ∧
      (performWritePortConfig r s).state.trunkRx = s.trunkRx ∧
      (performWritePortConfig r s).state.trunkTx = s.trunkTx ∧ (performWritePortConfig r s).state.il = s.il ∧
      (performWritePortConfig r s).state.sched = s.sched ∧ (performWritePortConfig r s).state.align = s.align ∧
      (performWritePortConfig r s).state.rx = s.rx ∧ (performWritePortConfig r s).state.classifier = s.classifier ∧
      (performWritePortConfig r s).state.policy = s.policy ∧ (performWritePortConfig r s).state.routes = s.routes ∧
      (performWritePortConfig r s).state.agent = s.agent ∧
      (performWritePortConfig r s).state.freeDraws = s.freeDraws := by
  unfold performWritePortConfig; split <;> simp [Done.refuse, Done.ok]

@[simp] theorem performWriteRoute_frame (r : Request) (s : State) :
    (performWriteRoute r s).state.pending = s.pending ∧ (performWriteRoute r s).state.resetHeld = s.resetHeld ∧
      (performWriteRoute r s).state.straps = s.straps ∧ (performWriteRoute r s).state.trunkRx = s.trunkRx ∧
      (performWriteRoute r s).state.trunkTx = s.trunkTx ∧ (performWriteRoute r s).state.il = s.il ∧
      (performWriteRoute r s).state.sched = s.sched ∧ (performWriteRoute r s).state.align = s.align ∧
      (performWriteRoute r s).state.rx = s.rx ∧ (performWriteRoute r s).state.store = s.store ∧
      (performWriteRoute r s).state.ports = s.ports ∧ (performWriteRoute r s).state.classifier = s.classifier ∧
      (performWriteRoute r s).state.policy = s.policy ∧ (performWriteRoute r s).state.agent = s.agent ∧
      (performWriteRoute r s).state.freeDraws = s.freeDraws := by
  unfold performWriteRoute; split; · simp [Done.refuse]
  split <;> simp [Done.refuse, Done.ok]

@[simp] theorem performWriteStandby_frame (r : Request) (s : State) :
    (performWriteStandby r s).state.pending = s.pending ∧ (performWriteStandby r s).state.resetHeld = s.resetHeld ∧
      (performWriteStandby r s).state.straps = s.straps ∧ (performWriteStandby r s).state.trunkRx = s.trunkRx ∧
      (performWriteStandby r s).state.trunkTx = s.trunkTx ∧ (performWriteStandby r s).state.il = s.il ∧
      (performWriteStandby r s).state.align = s.align ∧ (performWriteStandby r s).state.rx = s.rx ∧
      (performWriteStandby r s).state.store = s.store ∧ (performWriteStandby r s).state.ports = s.ports ∧
      (performWriteStandby r s).state.classifier = s.classifier ∧
      (performWriteStandby r s).state.policy = s.policy ∧ (performWriteStandby r s).state.routes = s.routes ∧
      (performWriteStandby r s).state.agent = s.agent ∧ (performWriteStandby r s).state.freeDraws = s.freeDraws := by
  unfold performWriteStandby; split; · simp [Done.refuse]
  split <;> simp [Done.refuse, Done.ok]

@[simp] theorem performWrite_frame (t : TableId) (r : Request) (s : State) :
    (performWrite t r s).state.pending = s.pending ∧ (performWrite t r s).state.resetHeld = s.resetHeld ∧
      (performWrite t r s).state.straps = s.straps ∧ (performWrite t r s).state.trunkRx = s.trunkRx ∧
      (performWrite t r s).state.trunkTx = s.trunkTx ∧ (performWrite t r s).state.il = s.il ∧
      (performWrite t r s).state.align = s.align ∧ (performWrite t r s).state.rx = s.rx ∧
      (performWrite t r s).state.agent = s.agent ∧ (performWrite t r s).state.freeDraws = s.freeDraws := by
  unfold performWrite; split <;> simp [Done.refuse]

@[simp] theorem performSetAlign_frame (r : Request) (s : State) :
    (performSetAlign r s).state.pending = s.pending ∧ (performSetAlign r s).state.resetHeld = s.resetHeld ∧
      (performSetAlign r s).state.straps = s.straps ∧ (performSetAlign r s).state.trunkRx = s.trunkRx ∧
      (performSetAlign r s).state.trunkTx = s.trunkTx ∧ (performSetAlign r s).state.il = s.il ∧
      (performSetAlign r s).state.sched = s.sched ∧ (performSetAlign r s).state.rx = s.rx ∧
      (performSetAlign r s).state.store = s.store ∧ (performSetAlign r s).state.ports = s.ports ∧
      (performSetAlign r s).state.classifier = s.classifier ∧ (performSetAlign r s).state.policy = s.policy ∧
      (performSetAlign r s).state.routes = s.routes ∧ (performSetAlign r s).state.agent = s.agent ∧
      (performSetAlign r s).state.freeDraws = s.freeDraws := by
  unfold performSetAlign; dsimp only; split; · simp [Done.refuse]
  split
  · split; · simp [Done.refuse]
    split <;> simp [Done.ok]
  · split <;> simp [Done.ok]

@[simp] theorem performSetGlobal_frame (r : Request) (s : State) :
    (performSetGlobal r s).state.pending = s.pending ∧ (performSetGlobal r s).state.resetHeld = s.resetHeld ∧
      (performSetGlobal r s).state.straps = s.straps ∧ (performSetGlobal r s).state.trunkRx = s.trunkRx ∧
      (performSetGlobal r s).state.trunkTx = s.trunkTx ∧ (performSetGlobal r s).state.il = s.il ∧
      (performSetGlobal r s).state.sched = s.sched ∧ (performSetGlobal r s).state.align = s.align ∧
      (performSetGlobal r s).state.rx = s.rx ∧ (performSetGlobal r s).state.store = s.store ∧
      (performSetGlobal r s).state.ports = s.ports ∧ (performSetGlobal r s).state.classifier = s.classifier ∧
      (performSetGlobal r s).state.policy = s.policy ∧ (performSetGlobal r s).state.routes = s.routes ∧
      (performSetGlobal r s).state.freeDraws = s.freeDraws := by
  unfold performSetGlobal; dsimp only; split <;> simp [Done.refuse, Done.ok]

@[simp] theorem performReadCounters_frame (r : Request) (s : State) :
    (performReadCounters r s).state.pending = s.pending ∧ (performReadCounters r s).state.resetHeld = s.resetHeld ∧
      (performReadCounters r s).state.straps = s.straps ∧ (performReadCounters r s).state.trunkRx = s.trunkRx ∧
      (performReadCounters r s).state.trunkTx = s.trunkTx ∧ (performReadCounters r s).state.store = s.store ∧
      (performReadCounters r s).state.policy = s.policy ∧ (performReadCounters r s).state.routes = s.routes ∧
      (performReadCounters r s).state.freeDraws = s.freeDraws := by
  unfold performReadCounters; dsimp only; split <;> simp

@[simp] theorem performFlush_frame (r : Request) (s : State) :
    (performFlush r s).state.pending = s.pending ∧ (performFlush r s).state.resetHeld = s.resetHeld ∧
      (performFlush r s).state.straps = s.straps ∧ (performFlush r s).state.trunkRx = s.trunkRx ∧
      (performFlush r s).state.trunkTx = s.trunkTx ∧ (performFlush r s).state.sched = s.sched ∧
      (performFlush r s).state.align = s.align ∧ (performFlush r s).state.rx = s.rx ∧
      (performFlush r s).state.classifier = s.classifier ∧ (performFlush r s).state.policy = s.policy ∧
      (performFlush r s).state.routes = s.routes ∧ (performFlush r s).state.agent = s.agent ∧
      (performFlush r s).state.freeDraws = s.freeDraws := by
  unfold performFlush; split
  · split <;> simp [Done.refuse, performFlushClass, Done.ok]
  · split
    · split <;> simp [Done.refuse, performFlushDelivery, Done.ok]
    · simp [Done.refuse]

/-- What the execution of a request may touch. -/
@[simp] theorem performKind_frame (k : ReqKind) (r : Request) (s : State) :
    (performKind k r s).state.pending = s.pending ∧ (performKind k r s).state.resetHeld = s.resetHeld ∧
      (performKind k r s).state.straps = s.straps ∧ (performKind k r s).state.trunkRx = s.trunkRx ∧
      (performKind k r s).state.trunkTx = s.trunkTx ∧ (performKind k r s).state.freeDraws = s.freeDraws := by
  unfold performKind; split <;> first | simp | (split <;> simp [Done.refuse])

@[simp] theorem perform_frame (r : Request) (s : State) :
    (perform r s).state.pending = s.pending ∧ (perform r s).state.resetHeld = s.resetHeld ∧
      (perform r s).state.straps = s.straps ∧ (perform r s).state.trunkRx = s.trunkRx ∧
      (perform r s).state.trunkTx = s.trunkTx ∧ (perform r s).state.freeDraws = s.freeDraws := by
  unfold perform; split <;> simp [Done.refuse]

@[simp] theorem countAgent_frame (f : AgentCounters → AgentCounters) (s : State) :
    (countAgent f s).pending = s.pending ∧ (countAgent f s).resetHeld = s.resetHeld ∧
      (countAgent f s).straps = s.straps ∧ (countAgent f s).trunkRx = s.trunkRx ∧
      (countAgent f s).trunkTx = s.trunkTx ∧ (countAgent f s).il = s.il ∧ (countAgent f s).sched = s.sched ∧
      (countAgent f s).align = s.align ∧ (countAgent f s).rx = s.rx ∧ (countAgent f s).store = s.store ∧
      (countAgent f s).ports = s.ports ∧ (countAgent f s).classifier = s.classifier ∧
      (countAgent f s).policy = s.policy ∧ (countAgent f s).routes = s.routes ∧
      (countAgent f s).freeDraws = s.freeDraws := by
  simp [countAgent]

@[simp] theorem countExecuted_frame (s : State) :
    (countExecuted s).pending = s.pending ∧ (countExecuted s).resetHeld = s.resetHeld ∧
      (countExecuted s).straps = s.straps ∧ (countExecuted s).trunkRx = s.trunkRx ∧
      (countExecuted s).trunkTx = s.trunkTx ∧ (countExecuted s).il = s.il ∧ (countExecuted s).sched = s.sched ∧
      (countExecuted s).align = s.align ∧ (countExecuted s).rx = s.rx ∧ (countExecuted s).store = s.store ∧
      (countExecuted s).ports = s.ports ∧ (countExecuted s).classifier = s.classifier ∧
      (countExecuted s).policy = s.policy ∧ (countExecuted s).routes = s.routes ∧
      (countExecuted s).freeDraws = s.freeDraws := by
  simp [countExecuted]

@[simp] theorem countRefused_frame (x : Status) (s : State) :
    (countRefused x s).pending = s.pending ∧ (countRefused x s).resetHeld = s.resetHeld ∧
      (countRefused x s).straps = s.straps ∧ (countRefused x s).trunkRx = s.trunkRx ∧
      (countRefused x s).trunkTx = s.trunkTx ∧ (countRefused x s).il = s.il ∧ (countRefused x s).sched = s.sched ∧
      (countRefused x s).align = s.align ∧ (countRefused x s).rx = s.rx ∧ (countRefused x s).store = s.store ∧
      (countRefused x s).ports = s.ports ∧ (countRefused x s).classifier = s.classifier ∧
      (countRefused x s).policy = s.policy ∧ (countRefused x s).routes = s.routes ∧
      (countRefused x s).freeDraws = s.freeDraws := by
  unfold countRefused; split <;> simp

@[simp] theorem performCounted_frame (r : Request) (s : State) :
    (performCounted r s).state.pending = s.pending ∧ (performCounted r s).state.resetHeld = s.resetHeld ∧
      (performCounted r s).state.straps = s.straps ∧ (performCounted r s).state.trunkRx = s.trunkRx ∧
      (performCounted r s).state.trunkTx = s.trunkTx := by
  unfold performCounted; dsimp only; split; · simp
  split <;> simp

@[simp] theorem dropRequest_frame (s : State) :
    (dropRequest s).pending = s.pending ∧ (dropRequest s).resetHeld = s.resetHeld ∧
      (dropRequest s).straps = s.straps ∧ (dropRequest s).trunkRx = s.trunkRx ∧
      (dropRequest s).trunkTx = s.trunkTx ∧ (dropRequest s).il = s.il ∧ (dropRequest s).sched = s.sched ∧
      (dropRequest s).align = s.align ∧ (dropRequest s).rx = s.rx ∧ (dropRequest s).ports = s.ports ∧
      (dropRequest s).classifier = s.classifier ∧ (dropRequest s).policy = s.policy ∧
      (dropRequest s).routes = s.routes ∧ (dropRequest s).freeDraws = s.freeDraws := by
  unfold dropRequest; split <;> simp

@[simp] theorem reply_frame (d : DescId) (r : Request) (x : Status) (a b : Bool) (l : List Byte) (s : State) :
    (reply d r x a b l s).pending = s.pending ∧ (reply d r x a b l s).resetHeld = s.resetHeld ∧
      (reply d r x a b l s).straps = s.straps ∧ (reply d r x a b l s).trunkRx = s.trunkRx ∧
      (reply d r x a b l s).trunkTx = s.trunkTx ∧ (reply d r x a b l s).il = s.il ∧
      (reply d r x a b l s).sched = s.sched ∧ (reply d r x a b l s).align = s.align ∧
      (reply d r x a b l s).rx = s.rx ∧ (reply d r x a b l s).ports = s.ports ∧
      (reply d r x a b l s).classifier = s.classifier ∧ (reply d r x a b l s).policy = s.policy ∧
      (reply d r x a b l s).routes = s.routes ∧ (reply d r x a b l s).freeDraws = s.freeDraws := by
  simp [reply]

@[simp] theorem answerReplay_frame (d : DescId) (r : Request) (e : ReplayEntry) (s : State) :
    (answerReplay d r e s).pending = s.pending ∧ (answerReplay d r e s).resetHeld = s.resetHeld ∧
      (answerReplay d r e s).straps = s.straps ∧ (answerReplay d r e s).trunkRx = s.trunkRx ∧
      (answerReplay d r e s).trunkTx = s.trunkTx ∧ (answerReplay d r e s).il = s.il ∧
      (answerReplay d r e s).sched = s.sched ∧ (answerReplay d r e s).align = s.align ∧
      (answerReplay d r e s).rx = s.rx ∧ (answerReplay d r e s).ports = s.ports ∧
      (answerReplay d r e s).classifier = s.classifier ∧ (answerReplay d r e s).policy = s.policy ∧
      (answerReplay d r e s).routes = s.routes ∧ (answerReplay d r e s).freeDraws = s.freeDraws := by
  simp [answerReplay]

@[simp] theorem beginDrain_frame (s : State) :
    (beginDrain s).pending = s.pending ∧ (beginDrain s).resetHeld = s.resetHeld ∧
      (beginDrain s).straps = s.straps ∧ (beginDrain s).trunkRx = s.trunkRx ∧ (beginDrain s).trunkTx = s.trunkTx ∧
      (beginDrain s).sched = s.sched ∧ (beginDrain s).align = s.align ∧ (beginDrain s).rx = s.rx ∧
      (beginDrain s).ports = s.ports ∧ (beginDrain s).classifier = s.classifier ∧
      (beginDrain s).policy = s.policy ∧ (beginDrain s).routes = s.routes ∧ (beginDrain s).freeDraws = s.freeDraws := by
  unfold beginDrain; split <;> simp

@[simp] theorem oweReply_frame (d : DescId) (r : Request) (s : State) :
    (oweReply d r s).pending = s.pending ∧ (oweReply d r s).resetHeld = s.resetHeld ∧
      (oweReply d r s).straps = s.straps ∧ (oweReply d r s).trunkRx = s.trunkRx ∧
      (oweReply d r s).trunkTx = s.trunkTx ∧ (oweReply d r s).il = s.il ∧ (oweReply d r s).sched = s.sched ∧
      (oweReply d r s).align = s.align ∧ (oweReply d r s).rx = s.rx ∧ (oweReply d r s).store = s.store ∧
      (oweReply d r s).ports = s.ports ∧ (oweReply d r s).classifier = s.classifier ∧
      (oweReply d r s).policy = s.policy ∧ (oweReply d r s).routes = s.routes ∧
      (oweReply d r s).freeDraws = s.freeDraws := by
  simp [oweReply]

@[simp] theorem execute_frame (d : DescId) (r : Request) (s : State) :
    (execute d r s).pending = s.pending ∧ (execute d r s).resetHeld = s.resetHeld ∧
      (execute d r s).straps = s.straps ∧ (execute d r s).trunkRx = s.trunkRx ∧ (execute d r s).trunkTx = s.trunkTx := by
  unfold execute; dsimp only; split <;> simp

/-- The execution step of a request (R164). -/
@[simp] theorem serve_frame (d : DescId) (r : Request) (s : State) :
    (serve d r s).pending = s.pending ∧ (serve d r s).resetHeld = s.resetHeld ∧ (serve d r s).straps = s.straps ∧
      (serve d r s).trunkRx = s.trunkRx ∧ (serve d r s).trunkTx = s.trunkTx := by
  unfold serve; dsimp only; split <;> simp

@[simp] theorem waitForStore_frame (s : State) :
    (waitForStore s).pending = s.pending ∧ (waitForStore s).resetHeld = s.resetHeld ∧
      (waitForStore s).straps = s.straps ∧ (waitForStore s).trunkRx = s.trunkRx ∧
      (waitForStore s).trunkTx = s.trunkTx ∧ (waitForStore s).il = s.il ∧ (waitForStore s).sched = s.sched ∧
      (waitForStore s).align = s.align ∧ (waitForStore s).rx = s.rx ∧ (waitForStore s).store = s.store ∧
      (waitForStore s).ports = s.ports ∧ (waitForStore s).classifier = s.classifier ∧
      (waitForStore s).policy = s.policy ∧ (waitForStore s).routes = s.routes ∧
      (waitForStore s).freeDraws = s.freeDraws := by
  simp [waitForStore]

@[simp] theorem buildNotice_frame (d : DescId) (x : NoticeRecord) (s : State) :
    (buildNotice d x s).pending = s.pending ∧ (buildNotice d x s).resetHeld = s.resetHeld ∧
      (buildNotice d x s).straps = s.straps ∧ (buildNotice d x s).trunkRx = s.trunkRx ∧
      (buildNotice d x s).trunkTx = s.trunkTx ∧ (buildNotice d x s).il = s.il ∧
      (buildNotice d x s).sched = s.sched ∧ (buildNotice d x s).align = s.align ∧ (buildNotice d x s).rx = s.rx ∧
      (buildNotice d x s).ports = s.ports ∧ (buildNotice d x s).classifier = s.classifier ∧
      (buildNotice d x s).policy = s.policy ∧ (buildNotice d x s).routes = s.routes ∧
      (buildNotice d x s).freeDraws = s.freeDraws := by
  simp [buildNotice]

@[simp] theorem claimNotice_frame (s : State) :
    (claimNotice s).pending = s.pending ∧ (claimNotice s).resetHeld = s.resetHeld ∧
      (claimNotice s).straps = s.straps ∧ (claimNotice s).trunkRx = s.trunkRx ∧
      (claimNotice s).trunkTx = s.trunkTx ∧ (claimNotice s).il = s.il ∧ (claimNotice s).sched = s.sched ∧
      (claimNotice s).align = s.align ∧ (claimNotice s).rx = s.rx ∧ (claimNotice s).ports = s.ports ∧
      (claimNotice s).classifier = s.classifier ∧ (claimNotice s).policy = s.policy ∧
      (claimNotice s).routes = s.routes ∧ (claimNotice s).freeDraws = s.freeDraws := by
  unfold claimNotice; split; · simp
  split <;> simp

@[simp] theorem claimReply_frame (s : State) :
    (claimReply s).pending = s.pending ∧ (claimReply s).resetHeld = s.resetHeld ∧
      (claimReply s).straps = s.straps ∧ (claimReply s).trunkRx = s.trunkRx ∧ (claimReply s).trunkTx = s.trunkTx := by
  unfold claimReply; split; · simp
  dsimp only
  split <;> simp

@[simp] theorem claimJob_frame (s : State) :
    (claimJob s).pending = s.pending ∧ (claimJob s).resetHeld = s.resetHeld ∧ (claimJob s).straps = s.straps ∧
      (claimJob s).trunkRx = s.trunkRx ∧ (claimJob s).trunkTx = s.trunkTx := by
  unfold claimJob; split <;> simp

@[simp] theorem takeRequest_frame (s : State) :
    (takeRequest s).pending = s.pending ∧ (takeRequest s).resetHeld = s.resetHeld ∧
      (takeRequest s).straps = s.straps ∧ (takeRequest s).trunkRx = s.trunkRx ∧
      (takeRequest s).trunkTx = s.trunkTx ∧ (takeRequest s).il = s.il ∧ (takeRequest s).sched = s.sched ∧
      (takeRequest s).align = s.align ∧ (takeRequest s).rx = s.rx ∧ (takeRequest s).store = s.store ∧
      (takeRequest s).ports = s.ports ∧ (takeRequest s).classifier = s.classifier ∧
      (takeRequest s).policy = s.policy ∧ (takeRequest s).routes = s.routes ∧
      (takeRequest s).freeDraws = s.freeDraws := by
  unfold takeRequest; split <;> simp

@[simp] theorem dropUnanswerable_frame (s : State) :
    (dropUnanswerable s).pending = s.pending ∧ (dropUnanswerable s).resetHeld = s.resetHeld ∧
      (dropUnanswerable s).straps = s.straps ∧ (dropUnanswerable s).trunkRx = s.trunkRx ∧
      (dropUnanswerable s).trunkTx = s.trunkTx ∧ (dropUnanswerable s).il = s.il ∧
      (dropUnanswerable s).sched = s.sched ∧ (dropUnanswerable s).align = s.align ∧
      (dropUnanswerable s).rx = s.rx ∧ (dropUnanswerable s).ports = s.ports ∧
      (dropUnanswerable s).classifier = s.classifier ∧ (dropUnanswerable s).policy = s.policy ∧
      (dropUnanswerable s).routes = s.routes ∧ (dropUnanswerable s).freeDraws = s.freeDraws := by
  simp [dropUnanswerable]

@[simp] theorem chooseReply_frame (s : State) :
    (chooseReply s).pending = s.pending ∧ (chooseReply s).resetHeld = s.resetHeld ∧
      (chooseReply s).straps = s.straps ∧ (chooseReply s).trunkRx = s.trunkRx ∧ (chooseReply s).trunkTx = s.trunkTx := by
  unfold chooseReply; dsimp only; split <;> simp

@[simp] theorem chooseNotice_frame (s : State) :
    (chooseNotice s).pending = s.pending ∧ (chooseNotice s).resetHeld = s.resetHeld ∧
      (chooseNotice s).straps = s.straps ∧ (chooseNotice s).trunkRx = s.trunkRx ∧
      (chooseNotice s).trunkTx = s.trunkTx ∧ (chooseNotice s).il = s.il ∧ (chooseNotice s).sched = s.sched ∧
      (chooseNotice s).align = s.align ∧ (chooseNotice s).rx = s.rx ∧ (chooseNotice s).ports = s.ports ∧
      (chooseNotice s).classifier = s.classifier ∧ (chooseNotice s).policy = s.policy ∧
      (chooseNotice s).routes = s.routes ∧ (chooseNotice s).freeDraws = s.freeDraws := by
  simp [chooseNotice]

@[simp] theorem chooseJob_frame (s : State) :
    (chooseJob s).pending = s.pending ∧ (chooseJob s).resetHeld = s.resetHeld ∧ (chooseJob s).straps = s.straps ∧
      (chooseJob s).trunkRx = s.trunkRx ∧ (chooseJob s).trunkTx = s.trunkTx := by
  unfold chooseJob; split <;> simp

@[simp] theorem builderChooseJob_frame (s : State) :
    (builderChooseJob s).pending = s.pending ∧ (builderChooseJob s).resetHeld = s.resetHeld ∧
      (builderChooseJob s).straps = s.straps ∧ (builderChooseJob s).trunkRx = s.trunkRx ∧
      (builderChooseJob s).trunkTx = s.trunkTx := by
  unfold builderChooseJob; split <;> simp

@[simp] theorem storeClaimGranted_frame (s : State) :
    (storeClaimGranted s).pending = s.pending ∧ (storeClaimGranted s).resetHeld = s.resetHeld ∧
      (storeClaimGranted s).straps = s.straps ∧ (storeClaimGranted s).trunkRx = s.trunkRx ∧
      (storeClaimGranted s).trunkTx = s.trunkTx := by
  unfold storeClaimGranted; split <;> simp

@[simp] theorem builderTurn_frame (s : State) :
    (builderTurn s).pending = s.pending ∧ (builderTurn s).resetHeld = s.resetHeld ∧
      (builderTurn s).straps = s.straps ∧ (builderTurn s).trunkRx = s.trunkRx ∧ (builderTurn s).trunkTx = s.trunkTx := by
  unfold builderTurn; split <;> simp

/-- The execution step of a request, by its row. -/
@[simp] theorem requestStep_frame (k : RequestRow) (s : State) :
    (requestStep k s).pending = s.pending ∧ (requestStep k s).resetHeld = s.resetHeld ∧
      (requestStep k s).straps = s.straps ∧ (requestStep k s).trunkRx = s.trunkRx ∧
      (requestStep k s).trunkTx = s.trunkTx := by
  unfold requestStep; split <;> simp

end Sys2Proof.Machine
end

