-- ==== Sys2Proof/Laws/AgentKept.lean ====
section
/-! SUPPORT. What the other blocks may do to the Agent: raise notices, hand on requests, count overflows; nothing else. -/

namespace Sys2Proof.Machine

/-- A property of the Agent's state that a raise of a notice and the offer of a request keep. -/
structure AgentClosed (P : State → Prop) : Prop where
  congr : ∀ s t, t.agent = s.agent → P s → P t
  raise : ∀ e s, P s → P (raise e s)
  inbox : ∀ d s, P s → P (inboxOffer d s)

/-- Between s and t the Agent has seen raises and offers, and nothing else. -/
def AgentKept (s t : State) : Prop := ∀ P, AgentClosed P → P s → P t

namespace AgentKept

theorem refl (s : State) : AgentKept s s := fun _ _ h => h

theorem of_eq {s t : State} (e : t.agent = s.agent) : AgentKept s t := fun _ k h => k.congr s t e h

theorem trans {s t u : State} (a : AgentKept s t) (b : AgentKept t u) : AgentKept s u := fun P k h => b P k (a P k h)

theorem via {s u t : State} (h : AgentKept u t) (e : u.agent = s.agent) : AgentKept s t := (of_eq e).trans h

theorem raise {s t : State} {e : Notice} (h : AgentKept s t) : AgentKept s (raise e t) :=
  fun P k hs => k.raise e t (h P k hs)

/-- The Agent's state is the same, but for the Notice List, the inbox and the counters. -/
theorem agent {s t : State} (h : AgentKept s t) :
    t.agent = { s.agent with notices := t.agent.notices, inbox := t.agent.inbox, counters := t.agent.counters } := by
  refine h (fun t => t.agent =
    { s.agent with notices := t.agent.notices, inbox := t.agent.inbox, counters := t.agent.counters }) ⟨?_, ?_, ?_⟩ rfl
  · intro u v e hu; rw [e]; exact hu
  · intro e u hu; unfold Machine.raise; simp only [State.updAgent_agent]; split
    · rw [hu]
    · exact hu
  · intro d u hu; unfold inboxOffer; split <;> (simp only [State.updStore_agent, State.updAgent_agent]; rw [hu])

theorem builder {s t : State} (h : AgentKept s t) : t.agent.builder = s.agent.builder := by rw [h.agent]
theorem owed {s t : State} (h : AgentKept s t) : t.agent.owed = s.agent.owed := by rw [h.agent]
theorem job {s t : State} (h : AgentKept s t) : t.agent.job = s.agent.job := by rw [h.agent]
theorem inHand {s t : State} (h : AgentKept s t) : t.agent.inHand = s.agent.inHand := by rw [h.agent]
theorem replay {s t : State} (h : AgentKept s t) : t.agent.replay = s.agent.replay := by rw [h.agent]
theorem address {s t : State} (h : AgentKept s t) : t.agent.address = s.agent.address := by rw [h.agent]
theorem mgmtClass {s t : State} (h : AgentKept s t) : t.agent.mgmtClass = s.agent.mgmtClass := by rw [h.agent]

theorem foldl {α : Type} {f : State → α → State} (hf : ∀ s a, AgentKept s (f s a)) (l : List α) (s : State) :
    AgentKept s (l.foldl f s) := by
  induction l generalizing s with
  | nil => exact refl s
  | cons a l ih => exact (hf s a).trans (ih _)

end AgentKept

theorem raise_kept (e : Notice) (s : State) : AgentKept s (raise e s) := AgentKept.raise (AgentKept.refl s)

theorem inboxOffer_kept (d : DescId) (s : State) : AgentKept s (inboxOffer d s) := fun _ k h => k.inbox d s h

theorem raiseAll_kept (es : List Notice) (s : State) : AgentKept s (raiseAll es s) := by
  have : ∀ (l : List Notice) (s : State), AgentKept s (raiseEach l s) := by
    intro l
    induction l with
    | nil => intro s; exact AgentKept.refl s
    | cons e l ih => intro s; exact (raise_kept e s).trans (ih _)
  exact AgentKept.via (this _ _) rfl

/-! ### The clock and the marks -/

theorem beginSlot_kept (s : State) : AgentKept s (beginSlot s) := AgentKept.of_eq (by simp)

theorem markArrives_kept (s : State) : AgentKept s (markArrives s) := by
  unfold markArrives; split
  · exact AgentKept.of_eq rfl
  · exact (AgentKept.of_eq (by simp) : AgentKept s (takeMark (beginSlot s))).trans (raiseAll_kept _ _)

theorem missedCheck_kept (s : State) : AgentKept s (missedCheck s) := AgentKept.of_eq (by simp)

/-! ### The Interleaver, but for the end of a drain -/

theorem unfitDiscard_kept (c : Cls) (d : DescId) (s : State) : AgentKept s (unfitDiscard c d s) :=
  AgentKept.of_eq (by simp)

theorem arbiter_kept (s : State) : AgentKept s (arbiter s).1 := AgentKept.of_eq (by simp)

theorem continueTop_kept (e : StackEntry) (s : State) : AgentKept s (continueTop e s).1 := AgentKept.of_eq (by simp)

theorem decideActive_kept (e : StackEntry) (s : State) : AgentKept s (decideActive e s).1 := AgentKept.of_eq (by simp)

theorem decideIdle_kept (s : State) : AgentKept s (decideIdle s).1 := AgentKept.of_eq (by simp)

/-- Outside a drain the decision of a slot leaves the Agent's own state alone. -/
theorem decide20_kept (s : State) (h : s.il.drain = false) : AgentKept s (decide20 s).1 := by
  unfold decide20
  rw [if_neg (by simp [h])]
  split
  · exact decideIdle_kept s
  · split
    · split
      · exact AgentKept.of_eq (by simp)
      · exact decideActive_kept _ s
    · split
      · exact AgentKept.of_eq (by simp)
      · exact decideIdle_kept s

/-! ### The receivers -/

theorem openContext_kept (c : Cls) (s : State) : AgentKept s (openContext c s) := by
  unfold openContext; split
  · exact AgentKept.of_eq rfl
  · exact AgentKept.raise (AgentKept.of_eq rfl)

theorem rxByte_kept (c : Cls) (b : Byte) (s : State) : AgentKept s (rxByte c b s) := by
  unfold rxByte; dsimp only; split
  · exact AgentKept.of_eq rfl
  · split
    · exact AgentKept.of_eq (by simp)
    · split
      · exact AgentKept.of_eq rfl
      · split
        · exact AgentKept.raise (AgentKept.of_eq (by simp))
        · split
          · exact AgentKept.of_eq (by simp)
          · exact AgentKept.of_eq rfl

theorem judgeFrame_kept {c : Cls} {f : DescId → State → State} (hf : ∀ d s, AgentKept s (f d s)) (s : State) :
    AgentKept s (judgeFrame c f s) := by
  unfold judgeFrame; split
  · exact AgentKept.of_eq (by simp)
  · split
    · exact AgentKept.of_eq (by simp)
    · unfold acceptFrame; split
      · exact AgentKept.of_eq rfl
      · exact AgentKept.via (hf _ _) rfl

theorem rxCloseFrame_kept (c : Cls) (s : State) : AgentKept s (rxCloseFrame c s) := by
  unfold rxCloseFrame; split
  · exact AgentKept.of_eq (by simp)
  · exact AgentKept.of_eq (by simp)
  · exact judgeFrame_kept (fun d s => AgentKept.of_eq (by simp)) s
  · exact judgeFrame_kept inboxOffer_kept s

theorem violation_kept (s : State) : AgentKept s (violation s) := AgentKept.raise (AgentKept.of_eq (by simp))

theorem rxSymbol_kept (y : TrunkSymbol) (s : State) : AgentKept s (rxSymbol y s) := by
  unfold rxSymbol; split
  · unfold rxInResync; split
    · exact AgentKept.via (openContext_kept _ _) rfl
    all_goals exact AgentKept.of_eq rfl
  · unfold rxInNormal; split
    · exact violation_kept s
    · rename_i l _
      refine (AgentKept.of_eq rfl : AgentKept s (s.updRx fun r => { r with stack := l })).trans ?_
      unfold actOn; split
      · exact openContext_kept _ _
      · exact rxByte_kept _ _ _
      · exact rxCloseFrame_kept _ _
      · exact AgentKept.of_eq (by simp)
      all_goals exact AgentKept.of_eq rfl

theorem rxUndecodable_kept (s : State) : AgentKept s (rxUndecodable s) := by
  exact (AgentKept.of_eq (by simp) : AgentKept s (undecodedWord s)).trans (raiseAll_kept _ _)

theorem framerBegin_kept (p : PortIx) (s : State) : AgentKept s (framerBegin p s) := by
  unfold framerBegin; split
  · exact AgentKept.of_eq (by simp)
  · exact AgentKept.raise (AgentKept.of_eq (by simp))

theorem framerSymbol_kept (p : PortIx) (y : TribSymbol) (s : State) : AgentKept s (framerSymbol p y s) := by
  unfold framerSymbol; split
  · exact AgentKept.of_eq rfl
  · exact framerBegin_kept p s
  · exact (AgentKept.of_eq (by simp)).trans (framerBegin_kept p (framerFails p .short .discard s))
  · exact AgentKept.of_eq rfl
  · split
    · exact AgentKept.of_eq rfl
    · unfold framerByte; split
      · exact AgentKept.of_eq (by simp)
      · split
        · exact AgentKept.raise (AgentKept.of_eq (by simp))
        · dsimp only; split
          · exact AgentKept.of_eq (by simp)
          · exact AgentKept.of_eq (by simp)
  · exact AgentKept.of_eq (by simp)
  · split
    · exact AgentKept.of_eq rfl
    · exact AgentKept.of_eq (by simp)
  · exact AgentKept.of_eq (by simp)
  · exact AgentKept.of_eq (by simp)
  · exact (AgentKept.of_eq (by simp) : AgentKept s (idleSlot p s)).trans (raiseAll_kept _ _)

theorem tribSymbol_kept (p : PortIx) (y : TribSymbol) (s : State) : AgentKept s (tribSymbol p y s) := by
  unfold tribSymbol; split
  · exact framerSymbol_kept p y s
  · exact AgentKept.of_eq rfl

theorem tributaryDown_kept (p : PortIx) (s : State) : AgentKept s (tributaryDown p s) := by
  unfold tributaryDown; split
  · exact AgentKept.raise (AgentKept.of_eq (by simp))
  · exact AgentKept.of_eq rfl

theorem tributaryUp_kept (p : PortIx) (s : State) : AgentKept s (tributaryUp p s) := by
  unfold tributaryUp; split
  · exact AgentKept.of_eq rfl
  · exact AgentKept.raise (AgentKept.of_eq (by simp))

theorem tribDecoded_kept (p : PortIx) (y : TribSymbol) (s : State) : AgentKept s (tribDecoded p y s) := by
  unfold tribDecoded; split
  · exact (tribSymbol_kept p y s).trans (AgentKept.of_eq (by simp))
  · dsimp only; split
    · exact (AgentKept.of_eq (by simp)).trans (tributaryUp_kept p (updPortRx p _ s))
    · exact AgentKept.of_eq (by simp)

theorem tribFailed_kept (p : PortIx) (s : State) : AgentKept s (tribFailed p s) := by
  unfold tribFailed; split
  · dsimp only; split
    · exact AgentKept.trans (AgentKept.of_eq (by simp)) (raiseAll_kept _ _)
    · exact AgentKept.trans (AgentKept.of_eq (by simp)) (raiseAll_kept _ _)
  · exact AgentKept.of_eq (by simp)

theorem trunkUp_kept (s : State) : AgentKept s (trunkUp s) := by
  unfold trunkUp; split
  · exact AgentKept.of_eq rfl
  · exact AgentKept.raise (AgentKept.of_eq rfl)

end Sys2Proof.Machine
end

