-- ==== Sys2Proof/Laws/Tables.lean ====
section
/-! SUPPORT. Reading a table of fixed size after an update. -/

namespace Sys2Proof.Machine

section
variable {α : Type} {n : Nat} (v : Vector α n) (i j : Fin n) (x : α) (f : α → α)

@[simp] theorem vget_vset_self : vget (vset v i x) i = x := by simp [vget, vset]

theorem vget_vset_of_ne (h : i ≠ j) : vget (vset v i x) j = vget v j := by
  have : i.val ≠ j.val := fun e => h (Fin.ext e)
  simp [vget, vset, this]

theorem vget_vset : vget (vset v i x) j = if i = j then x else vget v j := by
  by_cases h : i = j
  · subst h; simp
  · simp [vget_vset_of_ne v i j x h, h]

@[simp] theorem vget_vupd_self : vget (vupd v i f) i = f (vget v i) := by simp [vupd]

theorem vget_vupd_of_ne (h : i ≠ j) : vget (vupd v i f) j = vget v j := vget_vset_of_ne v i j _ h

theorem vget_vupd : vget (vupd v i f) j = if i = j then f (vget v j) else vget v j := by
  by_cases h : i = j
  · subst h; simp
  · simp [vget_vupd_of_ne v i j f h, h]

@[simp] theorem vget_replicate : vget (Vector.replicate n x) i = x := by simp [vget]

theorem vset_eq_self (h : vget v i = x) : vset v i x = v := by
  subst h; simp [vset, vget]

/-- Two tables with the same entries are the same table. -/
theorem vector_ext {v w : Vector α n} (h : ∀ i, vget v i = vget w i) : v = w := by
  apply Vector.ext
  intro i hi
  exact h ⟨i, hi⟩

end

/-- Every port is mapped. -/
@[simp] theorem vget_mapPorts (f : Port → Port) (v : Vector Port 4) (p : PortIx) :
    vget (mapPorts f v) p = f (vget v p) := by
  unfold mapPorts
  fin_cases p <;> simp [vget_vupd]

/-- Port p after an update of port q. -/
theorem port_updPort (s : State) (p q : PortIx) (f : Port → Port) :
    (s.updPort q f).port p = if q = p then f (s.port p) else s.port p := by
  simp [State.port, State.updPort, State.updPorts, vget_vupd]

@[simp] theorem port_updPort_self (s : State) (p : PortIx) (f : Port → Port) :
    (s.updPort p f).port p = f (s.port p) := by simp [port_updPort]

/-- Descriptor e after an update of descriptor d. -/
theorem FrameStore.desc_updDesc (st : FrameStore) (d e : DescId) (f : Descriptor → Descriptor) :
    (st.updDesc d f).desc e = if d = e then f (st.desc e) else st.desc e := by
  simp [FrameStore.desc, FrameStore.updDesc, vget_vupd]

@[simp] theorem FrameStore.desc_updDesc_self (st : FrameStore) (d : DescId) (f : Descriptor → Descriptor) :
    (st.updDesc d f).desc d = f (st.desc d) := by simp [FrameStore.desc_updDesc]

/-- An update of a descriptor touches nothing else of the store. -/
@[simp] theorem FrameStore.updDesc_frame (st : FrameStore) (d : DescId) (f : Descriptor → Descriptor) :
    (st.updDesc d f).cells = st.cells ∧ (st.updDesc d f).freeCells = st.freeCells ∧
      (st.updDesc d f).freeDescs = st.freeDescs ∧ (st.updDesc d f).queues = st.queues := ⟨rfl, rfl, rfl, rfl⟩

end Sys2Proof.Machine
end

