-- ==== Sys2Proof/Laws/Formats.lean ====
section
/-! SUPPORT. What the formats of chapter 12 read: codes of one byte, the entries of a WRITE, and a table after a WRITE. -/

namespace Sys2Proof.Machine

/-! ### Codes of one byte -/

theorem flagOf_eq (b : Byte) : flagOf b = if b = 0x00 ∨ b = 0x01 then some (decide (b = 0x01)) else none := by
  revert b; decide +kernel

theorem portOf_eq (b : Byte) : portOf b = if b.toNat ≤ 3 then some (Fin.ofNat 4 b.toNat) else none := by
  revert b; decide +kernel

theorem actionOf_eq (b : Byte) : actionOf b =
    if b.toNat ≤ 5 ∨ b = 0x80 then some (if b = 0x80 then .drop else .forward (Fin.ofNat 6 b.toNat)) else none := by
  revert b; decide +kernel

theorem word16_toNat (hi lo : Byte) : (word16 hi lo).toNat = hi.toNat * 256 + lo.toNat := by
  unfold word16
  rw [BitVec.toNat_append, ← Nat.shiftLeft_add_eq_or_of_lt lo.isLt, Nat.shiftLeft_eq]

/-! ### The entries of a WRITE -/

/-- The entries decoded are n, each at its place; and none are decoded just where one of them fails. -/
theorem decodeEntries_eq_some {α : Type} (r : Request) (size : Nat) (f : Nat → List Byte → Option α) (n : Nat)
    (es : List α) : decodeEntries r size f n = some es ↔
      es.length = n ∧ ∀ j x, es[j]? = some x → f j (r.entry size j) = some x := by
  induction n generalizing es with
  | zero => cases es <;> simp [decodeEntries]
  | succ n ih =>
    unfold decodeEntries
    constructor
    · intro h
      rcases hd : decodeEntries r size f n with _ | xs
      · simp [hd] at h
      rcases hf : f n (r.entry size n) with _ | x
      · simp [hd, hf] at h
      simp only [hd, hf, Option.some.injEq] at h
      obtain ⟨hl, hx⟩ := (ih xs).1 hd
      subst h
      refine ⟨by simp [hl], fun j y hy => ?_⟩
      rcases Nat.lt_trichotomy j n with hj | rfl | hj
      · exact hx j y (by rwa [List.getElem?_append_left (hl ▸ hj)] at hy)
      · simp only [List.getElem?_append_right (Nat.le_of_eq hl), hl, Nat.sub_self, List.getElem?_cons_zero,
          Option.some.injEq] at hy
        exact hy ▸ hf
      · have : (xs ++ [x]).length ≤ j := by simp [hl]; omega
        rw [List.getElem?_eq_none this] at hy; simp at hy
    · rintro ⟨hl, hx⟩
      obtain ⟨xs, x, rfl⟩ : ∃ xs x, es = xs ++ [x] :=
        ⟨es.dropLast, es.getLast (by rintro rfl; simp at hl), (List.dropLast_append_getLast _).symm⟩
      have hn : xs.length = n := by simpa using hl
      have hd : decodeEntries r size f n = some xs := (ih xs).2 ⟨hn, fun j y hy => hx j y (by
        rw [List.getElem?_append_left]; exact hy
        exact (List.getElem?_eq_some_iff.1 hy).1)⟩
      have hf : f n (r.entry size n) = some x := hx n x (by simp [← hn])
      simp [hd, hf]

/-! ### A table after a WRITE -/

theorem vget_writeFrom {α : Type} {n : Nat} (v : Vector α n) (k : Nat) (es : List α) (i : Fin n) :
    vget (writeFrom v k es) i =
      if k ≤ i.val ∧ i.val < k + es.length then es.getD (i.val - k) (vget v i) else vget v i := by
  induction es generalizing v k with
  | nil => simp [writeFrom]
  | cons x xs ih =>
    unfold writeFrom
    rw [ih]
    have hv : vget (if h : k < n then vset v ⟨k, h⟩ x else v) i = if i.val = k then x else vget v i := by
      split
      · rename_i h
        rw [vget_vset]
        by_cases hi : i.val = k
        · simp [hi, Fin.ext_iff]
        · rw [if_neg (by simpa [Fin.ext_iff, eq_comm] using hi), if_neg hi]
      · rw [if_neg (by have := i.isLt; omega)]
    rw [hv]
    rcases Nat.lt_trichotomy i.val k with h | h | h
    · rw [if_neg (by omega), if_neg (by omega), if_neg (by omega)]
    · rw [if_neg (by omega), if_pos h, if_pos (by simp; omega)]; simp [h]
    · obtain ⟨m, hm⟩ : ∃ m, i.val - k = m + 1 := ⟨i.val - k - 1, by omega⟩
      have hm' : i.val - (k + 1) = m := by omega
      rw [if_neg (by omega : ¬ i.val = k)]
      simp only [hm, hm', List.getD_cons_succ, List.length_cons]
      by_cases hl : i.val < k + 1 + xs.length
      · rw [if_pos ⟨by omega, hl⟩, if_pos (by omega)]
      · rw [if_neg (by omega), if_neg (by omega)]

/-- The valid entries hold no address twice, just where no two of them hold one. -/
theorem routeAddresses_nodup (v : Vector Route 64) : (routeAddresses v).Nodup ↔
    ∀ i j, i ≠ j → (vget v i).valid = true → (vget v j).valid = true → (vget v i).address ≠ (vget v j).address := by
  have hv : v.toList = (List.finRange 64).map (vget v) := by
    apply List.ext_getElem
    · simp
    · intro i h1 h2; simp [vget]
  unfold routeAddresses List.Nodup
  rw [hv, List.filter_map, List.map_map, List.pairwise_map, List.pairwise_filter]
  constructor
  · intro h i j hij hi hj
    have key : ∀ i j : Fin 64, i < j → (vget v i).valid = true → (vget v j).valid = true →
        (vget v i).address ≠ (vget v j).address := fun i j hlt hi hj => by
      have := List.pairwise_iff_getElem.1 h i j (by simp) (by simp) hlt
      simpa [hi, hj] using this
    rcases lt_or_gt_of_ne hij with hlt | hlt
    · exact key i j hlt hi hj
    · exact fun he => key j i hlt hj hi he.symm
  · intro h
    refine List.pairwise_iff_getElem.2 fun i j hi hj hlt hvi hvj => ?_
    simp at hi hj
    simpa using h ⟨i, hi⟩ ⟨j, hj⟩ (by simp; omega) (by simpa using hvi) (by simpa using hvj)

end Sys2Proof.Machine
end

