-- ==== Sys2Proof/Laws/Memory.lean ====
section
/-! SUPPORT. The cells' contents: a byte read after a write, and the canonical form that every write keeps. -/

namespace Sys2Proof.Machine

/-- What the canonical form says, entry by entry. -/
theorem Memory.wf_iff (m : Memory) :
    Memory.wf m = true ↔
      m.Pairwise (fun x y => x.1 < y.1) ∧ ∀ x ∈ m, x.1 < storeBytes ∧ x.2 ≠ unlistedByte := by
  simp [Memory.wf, List.all_eq_true]

/-- An address below every listed one is not listed. -/
theorem Memory.read_of_lt {m : Memory} {a : Nat} (h : ∀ x ∈ m, a < x.1) : Memory.read m a = unlistedByte := by
  induction m with
  | nil => rfl
  | cons x m ih =>
    have hx := h x (by simp)
    simp only [Memory.read]
    rw [if_neg (by omega)]
    exact ih fun y hy => h y (by simp [hy])

/-- A byte read after a write, in a memory whose addresses rise. -/
theorem Memory.read_write {m : Memory} (hm : m.Pairwise fun x y => x.1 < y.1) (a : Nat) (b : Byte) (k : Nat) :
    Memory.read (Memory.write m a b) k = if k = a then b else Memory.read m k := by
  induction m with
  | nil =>
    by_cases hk : k = a
    · subst hk
      by_cases hb : b = unlistedByte <;> simp [Memory.write, Memory.read, hb]
    · have hk' : a ≠ k := fun e => hk e.symm
      by_cases hb : b = unlistedByte <;> simp [Memory.write, Memory.read, hb, hk, hk']
  | cons x m ih =>
    obtain ⟨hx, hm'⟩ := List.pairwise_cons.mp hm
    have ih := ih hm'
    have low : ∀ k, k ≤ x.1 → Memory.read m k = unlistedByte := fun k hk =>
      Memory.read_of_lt fun y hy => lt_of_le_of_lt hk (hx y hy)
    simp only [Memory.write]
    rcases lt_trichotomy a x.1 with h | h | h
    · rw [if_pos h]
      have hl := low a h.le
      have hxa : x.1 ≠ a := by omega
      by_cases hk : k = a
      · subst hk
        by_cases hb : b = unlistedByte <;> simp [Memory.read, hb, hxa, hl]
      · have hk' : a ≠ k := fun e => hk e.symm
        by_cases hb : b = unlistedByte <;> simp [Memory.read, hb, hk, hk']
    · have hl := low a h.le
      rw [if_neg (by omega), if_pos h]
      by_cases hk : k = a
      · subst hk
        by_cases hb : b = unlistedByte
        · simp [hb, hl]
        · simp [Memory.read, hb]
      · have hk' : a ≠ k := fun e => hk e.symm
        have hxk : x.1 ≠ k := h ▸ hk'
        by_cases hb : b = unlistedByte <;> simp [Memory.read, hb, hk, hk', hxk]
    · rw [if_neg (by omega), if_neg (by omega)]
      simp only [Memory.read]
      by_cases hk : x.1 = k
      · have : k ≠ a := by omega
        simp [hk, this]
      · simp only [if_neg hk, ih]

/-- The addresses of a memory after a write. -/
theorem Memory.mem_write {m : Memory} {a : Nat} {b : Byte} {y : Host.Cell} (h : y ∈ Memory.write m a b) :
    y ∈ m ∨ (y = (a, b) ∧ b ≠ unlistedByte) := by
  induction m with
  | nil =>
    by_cases hb : b = unlistedByte <;> simp_all [Memory.write]
  | cons x m ih =>
    simp only [Memory.write] at h
    split at h
    · split at h <;> simp_all; tauto
    · split at h
      · split at h <;> simp_all; tauto
      · rcases List.mem_cons.mp h with h | h
        · simp [h]
        · rcases ih h with h | h <;> simp [h]

/-- A write inside the store keeps the canonical form. -/
theorem Memory.wf_write {m : Memory} (hm : Memory.wf m = true) {a : Nat} (ha : a < storeBytes) (b : Byte) :
    Memory.wf (Memory.write m a b) = true := by
  rw [Memory.wf_iff] at hm ⊢
  refine ⟨?_, fun y hy => ?_⟩
  · replace hm := hm.1
    induction m with
    | nil => by_cases hb : b = unlistedByte <;> simp [Memory.write, hb]
    | cons x m ih =>
      obtain ⟨hx, hm'⟩ := List.pairwise_cons.mp hm
      simp only [Memory.write]
      split
      · rename_i h
        split
        · exact hm
        · refine List.pairwise_cons.mpr ⟨fun y hy => ?_, hm⟩
          rcases List.mem_cons.mp hy with rfl | hy
          · exact h
          · exact lt_trans h (hx y hy)
      · split
        · rename_i h
          split
          · exact hm'
          · exact List.pairwise_cons.mpr ⟨fun y hy => h ▸ hx y hy, hm'⟩
        · refine List.pairwise_cons.mpr ⟨fun y hy => ?_, ih hm'⟩
          rcases Memory.mem_write hy with hy | ⟨rfl, _⟩
          · exact hx y hy
          · simp only; omega
  · rcases Memory.mem_write hy with hy | ⟨rfl, hb⟩
    · exact hm.2 y hy
    · exact ⟨ha, hb⟩

/-- The address of a byte of a chain lies in the store. -/
theorem FrameStore.byteAddr_lt {st : FrameStore} {d : DescId} {k a : Nat} (h : st.byteAddr d k = some a) :
    a < storeBytes := by
  simp only [FrameStore.byteAddr, Option.map_eq_some_iff] at h
  obtain ⟨c, _, rfl⟩ := h
  have hc := c.isLt
  have hm : (k - 1) % Config.cellBytes < Config.cellBytes := Nat.mod_lt _ (by decide)
  simp only [storeBytes, Config.cellBytes] at *
  omega

end Sys2Proof.Machine
end

