-- ==== Sys2Proof/Laws/Schedule.lean ====
section
/-! SUPPORT. What the operations of the Window Schedule do to it, and that they keep it well (ScheduleOk); what the arbiter
leaves of the schedule and of the Interleaver. -/

namespace Sys2Proof.Machine

theorem Schedule.bank_congr {c c' : Schedule} (a : c.bankA = c'.bankA) (b : c.bankB = c'.bankB) (k : BankId) :
    c.bank k = c'.bank k := by cases k <;> simp [Schedule.bank, a, b]

@[simp] theorem BankId.other_other (k : BankId) : k.other.other = k := by cases k <;> rfl

@[simp] theorem Schedule.setStandby_frame (k : Bank) (c : Schedule) :
    (c.setStandby k).active = c.active ∧ (c.setStandby k).activeBank = c.activeBank ∧
      (c.setStandby k).standbyBank = k ∧ (c.setStandby k).counter = c.counter ∧ (c.setStandby k).window = c.window ∧
      (c.setStandby k).openBefore = c.openBefore ∧ (c.setStandby k).commit = c.commit ∧
      (c.setStandby k).unfit = c.unfit ∧ (c.setStandby k).slotBegun = c.slotBegun ∧
      (c.setStandby k).slotByWrap = c.slotByWrap ∧ (c.setStandby k).slotWidth = c.slotWidth := by
  unfold Schedule.setStandby
  cases h : c.active <;> simp [Schedule.activeBank, Schedule.standbyBank, h, Schedule.bank, BankId.other]

/-! ### Valid banks -/

theorem Bank.length_pos {k : Bank} (h : k.valid = true) : 0 < k.length := by simp [Bank.valid] at h; omega

theorem Bank.offsets_above (k : Bank) (n : Nat) :
    k.offsetsRise n = true → ∀ i j, j ≤ n → i < j → (k.window i).offset < (k.window j).offset := by
  induction n with
  | zero => intro _ i j h1 h2; omega
  | succ n ih =>
    intro h i j h1 h2
    simp only [Bank.offsetsRise, Bool.and_eq_true, decide_eq_true_eq] at h
    rcases Nat.lt_or_ge j (n + 1) with h3 | h3
    · exact ih h.2 i j (by omega) h2
    · obtain rfl : j = n + 1 := by omega
      rcases Nat.lt_or_ge i n with h4 | h4
      · exact lt_trans (ih h.2 i n (le_refl _) h4) h.1.1
      · obtain rfl : i = n := by omega
        exact h.1.1

/-- Window 0 is in force at counter value 0 (R51, R52). -/
theorem Bank.windowFor_zero {k : Bank} (h : k.valid = true) : k.windowFor 0 = 0 := by
  have hr : k.offsetsRise (k.count - 1) = true := by simp [Bank.valid] at h; exact h.2
  have h0 : (k.window 0).offset = 0 := by simp [Bank.valid] at h; omega
  have : ∀ n, n ≤ k.count - 1 → k.lastAtOrBelow 0 n = 0 := by
    intro n
    induction n with
    | zero => intro _; rfl
    | succ n ih =>
      intro hn
      have := k.offsets_above _ hr 0 (n + 1) hn (by omega)
      simp [Bank.lastAtOrBelow, show ¬ (k.window (n + 1)).offset ≤ 0 by omega, ih (by omega)]
  exact this _ (le_refl _)

/-- At the offset of window i of a valid bank, window i is in force (R52). -/
theorem Bank.windowFor_offset {k : Bank} (h : k.valid = true) {i : Nat} (hi : i < k.count) :
    k.windowFor (k.window i).offset = i := by
  have hr : k.offsetsRise (k.count - 1) = true := by simp [Bank.valid] at h; exact h.2
  have : ∀ n, n ≤ k.count - 1 → i ≤ n → k.lastAtOrBelow (k.window i).offset n = i := by
    intro n
    induction n with
    | zero => intro _ h1; simp [Bank.lastAtOrBelow]; omega
    | succ n ih =>
      intro hn h1
      rcases Nat.lt_or_ge i (n + 1) with h2 | h2
      · have := k.offsets_above _ hr i (n + 1) hn h2
        simp [Bank.lastAtOrBelow, show ¬ (k.window (n + 1)).offset ≤ (k.window i).offset by omega,
          ih (by omega) (by omega)]
      · obtain rfl : i = n + 1 := by omega
        simp [Bank.lastAtOrBelow]
  exact this _ (le_refl _) (by omega)

/-! ### Boundaries and restarts -/

/-- What a cycle boundary leaves in the schedule (R54). -/
theorem boundary_sched (b : Bool) (s : State) :
    (boundary b s).sched = { s.sched with
      counter := 0, slotByWrap := b, window := 0, commit := .idle,
      active := if s.sched.commit = .pending then s.sched.active.other else s.sched.active } := by
  unfold boundary swapIfPending
  cases h : s.sched.commit <;> simp [h, Schedule.swap]

theorem ScheduleOk.congr {s t : State} (h : ScheduleOk s) (e : t.sched = s.sched) : ScheduleOk t := by
  unfold ScheduleOk at *; rw [e]; exact h

theorem ScheduleOk.raise {e : Notice} {s : State} (h : ScheduleOk s) : ScheduleOk (raise e s) := h.congr (by simp)

/-- The unfit counters, the open set before and the begun flag do not matter. -/
theorem ScheduleOk.congrClock {s t : State} (h : ScheduleOk s) (u : Vector Ctr 6) (o : ClassSet) (b : Bool)
    (e : t.sched = { s.sched with unfit := u, openBefore := o, slotBegun := b }) : ScheduleOk t := by
  unfold ScheduleOk at *
  have ha : t.sched.activeBank = s.sched.activeBank := by
    rw [e]; exact Schedule.bank_congr rfl rfl _
  have hb : t.sched.standbyBank = s.sched.standbyBank := by
    rw [e]; exact Schedule.bank_congr rfl rfl _
  rw [ha, hb, e]; exact h

theorem scheduleOk_boundary (b : Bool) (s : State) (hv : s.sched.activeBank.valid = true)
    (hs : s.sched.commit = .pending → s.sched.standbyBank.valid = true) : ScheduleOk (boundary b s) := by
  have e := boundary_sched b s
  have hv' : (boundary b s).sched.activeBank.valid = true := by
    cases h : s.sched.commit
    · rw [show (boundary b s).sched.activeBank = s.sched.activeBank by
        rw [e]; simp only [h, Schedule.activeBank]; exact Schedule.bank_congr rfl rfl _]
      exact hv
    · rw [show (boundary b s).sched.activeBank = s.sched.standbyBank by
        rw [e]; simp only [h, Schedule.activeBank, Schedule.standbyBank]; exact Schedule.bank_congr rfl rfl _]
      exact hs h
  have hc : (boundary b s).sched.counter = 0 := by rw [e]
  refine ⟨hv', ?_, ?_, ?_, ?_⟩
  · rw [hc]; exact Bank.length_pos hv'
  · rw [hc, Bank.windowFor_zero hv', e]
  · rw [e]; simp
  · intro _; exact hc

theorem ScheduleOk.beginSlot {s : State} (h : ScheduleOk s) : ScheduleOk (beginSlot s) := by
  obtain ⟨h1, h2, h3, h4, h5⟩ := h
  unfold Machine.beginSlot
  split
  · exact ⟨h1, h2, h3, h4, h5⟩
  · split
    · exact scheduleOk_boundary _ _ h1 h4
    · next hw =>
      simp only [wrapsNext, decide_eq_true_eq, not_le] at hw
      refine ⟨h1, hw, rfl, h4, ?_⟩
      intro h; simp [Schedule.advance, Schedule.nextSlot] at h

theorem ScheduleOk.restartWithoutBoundary {s : State} (h : ScheduleOk s) : ScheduleOk (restartWithoutBoundary s) := by
  obtain ⟨h1, h2, h3, h4, h5⟩ := h
  exact ⟨h1, Bank.length_pos h1, (Bank.windowFor_zero h1).symm, h4, fun _ => rfl⟩

theorem ScheduleOk.restartWithBoundary {s : State} (h : ScheduleOk s) : ScheduleOk (restartWithBoundary s) := by
  unfold Machine.restartWithBoundary; split
  · exact h
  · exact scheduleOk_boundary _ _ h.1 h.2.2.2.1

theorem ScheduleOk.raiseAll {es : List Notice} {s : State} (h : ScheduleOk s) : ScheduleOk (raiseAll es s) :=
  h.congr (by simp)

theorem ScheduleOk.takeMark {s : State} (h : ScheduleOk s) : ScheduleOk (takeMark s) := by
  unfold Machine.takeMark; split
  · exact h
  · exact ScheduleOk.restartWithBoundary (h.congr (by simp))
  · unfold markLocked; split
    · exact h.congr (by simp)
    · exact ScheduleOk.restartWithBoundary (h.congr (by simp))
    · exact ScheduleOk.restartWithoutBoundary (h.congr (by simp))
    · exact h.congr (by simp)
  · exact ScheduleOk.restartWithBoundary (h.congr (by simp))

theorem ScheduleOk.markArrives {s : State} (h : ScheduleOk s) : ScheduleOk (markArrives s) := by
  unfold Machine.markArrives; split
  · exact h
  · exact h.beginSlot.takeMark.raiseAll

/-! ### What the arbiter does to the schedule: the UNFIT counters alone (R70) -/

theorem examineQueue_sched (c : Cls) (ds : List DescId) (s : State) :
    ∃ v, (examineQueue c ds s).1.sched = { s.sched with unfit := v } := by
  induction ds generalizing s with
  | nil => exact ⟨_, rfl⟩
  | cons d ds ih =>
    obtain ⟨v, hv⟩ := ih (unfitDiscard c d s)
    by_cases h1 : isOpen s c
    · by_cases h2 : (vget s.policy c).preemptible
      · exact ⟨s.sched.unfit, by simp [examineQueue, h1, h2]⟩
      · cases h3 : fitCheck c ((s.store.desc d).frameBytes - 9) s
        · exact ⟨s.sched.unfit, by simp [examineQueue, h1, h2, h3]⟩
        · exact ⟨s.sched.unfit, by simp [examineQueue, h1, h2, h3]⟩
        · exact ⟨v, by simp [examineQueue, h1, h2, h3, hv]; simp [unfitDiscard]⟩
    · exact ⟨s.sched.unfit, by simp [examineQueue, h1]⟩

theorem arbitrate_sched (cs : List Cls) (s : State) :
    ∃ v, (arbitrate cs s).1.sched = { s.sched with unfit := v } := by
  induction cs generalizing s with
  | nil => exact ⟨_, rfl⟩
  | cons c cs ih =>
    rw [arbitrate]
    by_cases hx : examines s c
    · rw [if_pos hx]
      obtain ⟨v, hv⟩ := examineQueue_sched c (s.store.queue c) s
      rcases h : examineQueue c (s.store.queue c) s with ⟨s', us, x | x⟩
      · rw [h] at hv
        obtain ⟨w, hw⟩ := ih s'
        exact ⟨w, by simp only; rw [hw, hv]⟩
      · rw [h] at hv; exact ⟨v, hv⟩
    · rw [if_neg hx]; exact ih s

theorem arbiter_sched (s : State) : ∃ v, (arbiter s).1.sched = { s.sched with unfit := v } := arbitrate_sched _ s

/-- The arbiter leaves every class as open as it was. -/
@[simp] theorem arbiter_isOpen (s : State) (c : Cls) : isOpen (arbiter s).1 c = isOpen s c := by
  obtain ⟨v, hv⟩ := arbiter_sched s
  unfold isOpen; rw [hv]; rfl

/-! ### What the arbiter does to the Interleaver: it may end the reply hold, and nothing else (R44) -/

@[simp] theorem unfitDiscard_il (c : Cls) (d : DescId) (s : State) :
    (unfitDiscard c d s).il.stack = s.il.stack ∧ (unfitDiscard c d s).il.drain = s.il.drain ∧
      (unfitDiscard c d s).il.counters = s.il.counters := by
  unfold unfitDiscard discardQueued
  by_cases h : s.il.hold = some d <;> simp [h]

@[simp] theorem examineQueue_il (c : Cls) (ds : List DescId) (s : State) :
    (examineQueue c ds s).1.il.stack = s.il.stack ∧ (examineQueue c ds s).1.il.drain = s.il.drain ∧
      (examineQueue c ds s).1.il.counters = s.il.counters := by
  induction ds generalizing s with
  | nil => simp [examineQueue]
  | cons d ds ih =>
    unfold examineQueue
    split
    · simp
    · split
      · simp
      · split
        · simp
        · simp
        · simp [ih]

@[simp] theorem arbitrate_il (cs : List Cls) (s : State) :
    (arbitrate cs s).1.il.stack = s.il.stack ∧ (arbitrate cs s).1.il.drain = s.il.drain ∧
      (arbitrate cs s).1.il.counters = s.il.counters := by
  induction cs generalizing s with
  | nil => simp [arbitrate]
  | cons c cs ih =>
    rw [arbitrate]
    by_cases hx : examines s c
    · rw [if_pos hx]
      have h := examineQueue_il c (s.store.queue c) s
      rcases hq : examineQueue c (s.store.queue c) s with ⟨s', us, x | x⟩
      · rw [hq] at h; dsimp only at h ⊢; simp [ih, h]
      · rw [hq] at h; exact h
    · rw [if_neg hx]; exact ih s

@[simp] theorem arbiter_il (s : State) :
    (arbiter s).1.il.stack = s.il.stack ∧ (arbiter s).1.il.drain = s.il.drain ∧
      (arbiter s).1.il.counters = s.il.counters := arbitrate_il _ s

theorem decideActive_sched (e : StackEntry) (s : State) :
    ∃ v, (decideActive e s).1.sched = { s.sched with unfit := v } := by
  have h := arbiter_sched s
  unfold decideActive
  split
  · split
    · next k => rw [k] at h; simpa using h
    · next k => rw [k] at h; split <;> simpa using h
  · exact ⟨_, by simp; rfl⟩

theorem decideIdle_sched (s : State) : ∃ v, (decideIdle s).1.sched = { s.sched with unfit := v } := by
  have h := arbiter_sched (gateTop s)
  unfold decideIdle
  split
  · next k => rw [k] at h; simpa using h
  · next k => rw [k] at h; simpa using h

theorem decide20_sched (s : State) : ∃ v, (decide20 s).1.sched = { s.sched with unfit := v } := by
  unfold decide20
  split
  · exact ⟨_, by simp; rfl⟩
  · split
    · exact decideIdle_sched s
    · split
      · split
        · exact ⟨_, by simp; rfl⟩
        · exact decideActive_sched _ s
      · split
        · exact ⟨_, by simp; rfl⟩
        · exact decideIdle_sched s

theorem trunkDecision_sched (s : State) : ∃ v, (trunkDecision s).1.sched = { s.sched with unfit := v } := by
  obtain ⟨v, hv⟩ := decide20_sched (countOverrun (overrunClass s) s)
  exact ⟨v, by simp [trunkDecision, hv]⟩

/-- A decided slot leaves the clock alone. -/
theorem decideSlot_sched (s : State) : ∃ v, (decideSlot s).1.sched = { s.sched with unfit := v, slotBegun := false } := by
  unfold decideSlot
  dsimp only
  split
  · obtain ⟨v, hv⟩ := trunkDecision_sched s
    exact ⟨v, by simp [hv]⟩
  · exact ⟨s.sched.unfit, by simp⟩

theorem ScheduleOk.decideSlot {s : State} (h : ScheduleOk s) : ScheduleOk (decideSlot s).1 := by
  obtain ⟨v, hv⟩ := decideSlot_sched s
  exact h.congrClock v s.sched.openBefore false hv

end Sys2Proof.Machine
end

