-- ==== Sys2Proof/Laws/Step.lean ====
section
/-! SUPPORT. What exec and step can do, said once: every command is one of a few operations of the blocks. -/

namespace Sys2Proof.Machine

theorem whenRunning_keeps {P : State → Prop} {f : State → State} (h : ∀ s, P s → P (f s)) (s : State) (hs : P s) :
    P (whenRunning f s) := by
  unfold whenRunning; split
  · exact hs
  · exact h s hs

/-- The operations of the blocks that the commands are made of, each keeping a property of the state. -/
structure Kept (P : State → Prop) : Prop where
  reset : ∀ held straps l n, P (State.blocksReset held straps l n)
  raise : ∀ e s, P s → P (raise e s)
  setDraws : ∀ n s, P s → P (s.setDraws n)
  beginSlot : ∀ s, P s → P (beginSlot s)
  missedCheck : ∀ s, P s → P (missedCheck s)
  decideSlot : ∀ s, P s → P (decideSlot s).1
  endDrain : ∀ s, s.il.stack = [] → s.agent.builder = .executing → P s → P (endDrain s)
  trunkDown : ∀ s, P s → P (trunkDown s)
  trunkUp : ∀ s, P s → P (trunkUp s)
  tributaryDown : ∀ p s, P s → P (tributaryDown p s)
  tributaryUp : ∀ p s, P s → P (tributaryUp p s)
  symbolReceived : ∀ y s, P s → P (trunkDecoded (rxSymbol y) s)
  undecodable : ∀ s, P s → P (trunkDecoded rxUndecodable s)
  trunkFailed : ∀ s, P s → P (trunkFailed s)
  mark : ∀ s, P s → P (trunkDecoded (fun s => markArrives (rxSymbol .mark s)) s)
  tribDecoded : ∀ p y s, P s → P (tribDecoded p y s)
  tribFailed : ∀ p s, P s → P (tribFailed p s)
  tribTxSlot : ∀ p s, P s → P (tribTxSlot p s)
  builderChooseJob : ∀ s, P s → P (builderChooseJob s)
  storeClaimGranted : ∀ s, P s → P (storeClaimGranted s)

namespace Kept
variable {P : State → Prop} (k : Kept P)
include k

theorem raiseAll (es : List Notice) (s : State) (h : P s) : P (raiseAll es s) := raiseAll_keeps k.raise k.setDraws es s h

theorem trunkSlot (s : State) (h : P s) : P (trunkSlot s) :=
  k.raiseAll _ _ (k.decideSlot _ (k.missedCheck _ (k.beginSlot _ h)))

theorem trunkStallLimit (s : State) (h : P s) : P (trunkStallLimit s) := by
  unfold Machine.trunkStallLimit; split
  · exact k.trunkSlot s h
  · exact h

theorem windowEdge (s : State) (h : P s) : P (windowEdge s) := by
  unfold Machine.windowEdge; split
  · exact k.beginSlot s h
  · exact h

theorem cycleWrap (s : State) (h : P s) : P (cycleWrap s) := by
  unfold Machine.cycleWrap; split
  · exact k.raiseAll _ _ (k.beginSlot s h)
  · exact h

theorem missedMarkCheck (s : State) (h : P s) : P (missedMarkCheck s) := by
  unfold Machine.missedMarkCheck; split
  · exact k.raiseAll _ _ (k.missedCheck _ (k.beginSlot s h))
  · exact h

theorem drainEnd (s : State) (h : P s) : P (drainEnd s) := by
  unfold Machine.drainEnd; split
  · next hc =>
    simp only [Bool.and_eq_true, List.isEmpty_iff, decide_eq_true_eq] at hc
    exact k.endDrain s hc.1 hc.2 h
  · split
    · exact k.trunkSlot s h
    · exact h

theorem tribIdle (p : PortIx) (w : LineWord) (s : State) (h : P s) : P (tribIdle p w s) := by
  unfold Machine.tribIdle; split
  · exact k.tribDecoded p _ s h
  · exact k.tribFailed p s h

theorem tributaryStall (p : PortIx) (w : LineWord) (s : State) (h : P s) : P (tributaryStall p w s) := by
  unfold Machine.tributaryStall; split
  · exact k.tribIdle p w s h
  · exact h

theorem requestStep (r : RequestRow) (s : State) (h : P s) : P (requestStep r s) := by
  unfold Machine.requestStep; split
  · unfold builderTurn; split
    · exact k.builderChooseJob s h
    · exact k.storeClaimGranted s h
    · exact h
  · exact h

/-- A property that the operations keep is kept by every command. -/
theorem exec (c : Instr) (s t : State) (h : P s) (e : exec c s = .next t) : P t := by
  cases c <;> (injection e with e; subst e)
  case deviceReset => exact k.reset _ _ _ _
  case resetRelease => split; exacts [k.reset _ _ _ _, h]
  all_goals refine whenRunning_keeps ?_ s h
  case trunkSlot => exact k.trunkSlot
  case trunkStallLimit => exact k.trunkStallLimit
  case windowEdge => exact k.windowEdge
  case cycleWrap => exact k.cycleWrap
  case missedMarkCheck => exact k.missedMarkCheck
  case trunkDown => exact k.trunkDown
  case trunkUp => exact k.trunkUp
  case tributaryDown p => exact k.tributaryDown p
  case tributaryUp p => exact k.tributaryUp p
  case rxUndecodable w => split; exacts [k.undecodable, k.trunkFailed]
  case rxMark => exact k.mark
  case tribTxSlot p => exact k.tribTxSlot p
  case builderChooseJob => exact k.builderChooseJob
  case storeClaimGranted => exact k.storeClaimGranted
  case drainEnd => exact k.drainEnd
  case tributaryStall p w => exact k.tributaryStall p w
  case tribRxStart p => exact k.tribDecoded p _
  case tribRxData p b => exact k.tribDecoded p _
  case tribRxEnd p => exact k.tribDecoded p _
  case tribRxAbort p => exact k.tribDecoded p _
  case tribRxIdle p w => exact k.tribIdle p w
  case tribRxMark p => exact k.tribDecoded p _
  case rxOpen c => exact k.symbolReceived _
  case rxResume c => exact k.symbolReceived _
  case rxData b => exact k.symbolReceived _
  case rxPause => exact k.symbolReceived _
  case rxFill => exact k.symbolReceived _
  case rxClose => exact k.symbolReceived _
  case rxAbort => exact k.symbolReceived _
  case rxIdle => exact k.symbolReceived _
  all_goals exact k.requestStep _

/-- A property that the operations keep, and that does not look at the queue, is kept by every step. -/
theorem step (q : ∀ s l, P s → P { s with pending := l }) (s t : State) (h : P s) (e : step s = .next t) : P t := by
  unfold Machine.step at e
  split at e
  · injection e with e; subst e; exact h
  · next c rest _ => exact k.exec c _ t (q s rest h) e

end Kept

/-- A trunk word keeps a property that its handler keeps and that does not look at the receiver's runs. -/
theorem trunkDecoded_keeps {P : State → Prop} (hr : ∀ s f, P s → P (s.updTrunkRx f)) (hu : ∀ s, P s → P (trunkUp s))
    {f : State → State} (hf : ∀ s, P s → P (f s)) (s : State) (h : P s) : P (trunkDecoded f s) := by
  unfold trunkDecoded
  split
  · exact hr _ _ (hf s h)
  · dsimp only
    split
    · exact hu _ (hr _ _ h)
    · exact hr _ _ h

theorem trunkFailed_keeps {P : State → Prop} (hr : ∀ s f, P s → P (s.updTrunkRx f)) (hd : ∀ s, P s → P (trunkFalls s))
    (hw : ∀ s, P s → P (undecodedWord s)) (ha : ∀ es s, P s → P (raiseAll es s)) (s : State) (h : P s) :
    P (trunkFailed s) := by
  unfold trunkFailed
  split
  · dsimp only
    split
    · exact ha _ _ (hd _ (hr _ _ (hw s h)))
    · exact ha _ _ (hr _ _ (hw s h))
  · exact hr _ _ h

/-- A tributary word keeps a property that its handler keeps and that does not look at the receiver's runs. -/
theorem tribDecoded_keeps {P : State → Prop} {p : PortIx} (hr : ∀ s f, P s → P (updPortRx p f s))
    (hu : ∀ s, P s → P (tributaryUp p s)) (hf : ∀ y s, P s → P (tribSymbol p y s)) (y : TribSymbol) (s : State)
    (h : P s) : P (tribDecoded p y s) := by
  unfold tribDecoded
  split
  · exact hr _ _ (hf y s h)
  · dsimp only
    split
    · exact hu _ (hr _ _ h)
    · exact hr _ _ h

theorem tribFailed_keeps {P : State → Prop} {p : PortIx} (hr : ∀ s f, P s → P (updPortRx p f s))
    (hd : ∀ s, P s → P (tributaryFalls p s)) (hi : ∀ s, P s → P (idleSlot p s)) (ha : ∀ es s, P s → P (raiseAll es s))
    (s : State) (h : P s) : P (tribFailed p s) := by
  unfold tribFailed
  split
  · dsimp only
    split
    · exact ha _ _ (hd _ (hr _ _ (hi s h)))
    · exact ha _ _ (hr _ _ (hi s h))
  · exact hr _ _ h

/-! ### The builder's turn -/

/-- The execution step of a request keeps what its parts keep. -/
theorem serve_keeps {P : State → Prop} (hd : ∀ s, P s → P (dropRequest s))
    (hr : ∀ d r e s, P s → P (answerReplay d r e s)) (hf : ∀ s, P s → P s.drawFree)
    (hc : ∀ s, P s → P (countExecuted s)) (hp : ∀ r s, P s → P (perform r s).state)
    (hrec : ∀ r x s, P s → P (recordOutcome r x (countRefused x s)))
    (hb : ∀ d r s, P s → P (beginDrain (oweReply d r s)))
    (hrep : ∀ d r x a b data s, P s → P (reply d r x a b data s)) (d : DescId) (r : Request) (s : State) (h : P s) :
    P (serve d r s) := by
  have h1 := hd s h
  unfold serve
  dsimp only
  split
  · exact hr _ _ _ _ h1
  · unfold execute
    have hq : P (performCounted r (dropRequest s)).state := by
      unfold performCounted
      split
      · exact hc _ (hp _ _ (hf _ h1))
      · split
        · exact hp _ _ (hc _ (hf _ h1))
        · exact hp _ _ (hc _ h1)
    dsimp only
    split
    · exact hb _ _ _ (hrec _ _ _ hq)
    · exact hrep _ _ _ _ _ _ _ (hrec _ _ _ hq)

/-- The claim of a reply job keeps what the wait, the store's claim and the execution keep. -/
theorem claimReply_keeps {P : State → Prop} (hw : ∀ s, P s → P (waitForStore s))
    (hst : ∀ s st, P s → P (s.updStore fun _ => st)) (hs : ∀ d r s, P s → P (serve d r s)) (s : State) (h : P s) :
    P (claimReply s) := by
  unfold claimReply; split
  · exact h
  · dsimp only; split
    · exact hw s h
    · exact hs _ _ _ (hst s _ h)

theorem builderChooseJob_keeps {P : State → Prop} (ht : ∀ s, P s → P (takeRequest s))
    (hdrop : ∀ s, P s → P (dropUnanswerable s)) (hn : ∀ s, P s → P (chooseNotice s))
    (hc : ∀ s, P s → P (claimReply s)) (s : State) (h : P s) : P (builderChooseJob s) := by
  unfold builderChooseJob; split
  · unfold chooseJob; split
    · exact h
    · unfold chooseReply; dsimp only; split
      · exact hc _ (ht s h)
      · exact hdrop _ (ht s h)
    · exact hn s h
  · exact h
  · exact h

theorem storeClaimGranted_keeps {P : State → Prop} (hn : ∀ s, P s → P (claimNotice s))
    (hc : ∀ s, P s → P (claimReply s)) (s : State) (h : P s) : P (storeClaimGranted s) := by
  unfold storeClaimGranted; split
  · unfold claimJob; split
    · exact h
    · exact hc s h
    · exact hn s h
  · exact h
  · exact h

end Sys2Proof.Machine
end

