-- ==== Sys2Proof/Laws/Store.lean ====
section
/-! SUPPORT. What the Frame Store's operations do to each part of the store. -/

namespace Sys2Proof.Machine.FrameStore

variable (st : FrameStore) (d e : DescId)

@[simp] theorem updDesc_queue (f : Descriptor → Descriptor) (c : Cls) : (st.updDesc d f).queue c = st.queue c := rfl

/-! ### Releases and references -/

/-- A release touches the free lists and its descriptor. -/
@[simp] theorem release_frame :
    (st.release d).cells = st.cells ∧ (st.release d).queues = st.queues ∧
      (st.release d).freeDescs = st.freeDescs ++ [d] ∧
      (st.release d).freeCells = st.freeCells ++ (st.desc d).chain := by
  simp [release]

theorem release_desc : (st.release d).desc e = if d = e then Descriptor.unused else st.desc e := by
  unfold release; rw [desc_updDesc]; rfl

@[simp] theorem settle_frame : (st.settle d).cells = st.cells ∧ (st.settle d).queues = st.queues := by
  unfold settle; split <;> simp

theorem settle_of_refs (h : (st.desc d).refs ≠ 0) : st.settle d = st := by simp [settle, h]

theorem settle_of_filling (h : ended (st.desc d).state = false) : st.settle d = st := by simp [settle, h]

theorem settle_desc_of_ne (h : d ≠ e) : (st.settle d).desc e = st.desc e := by
  unfold settle; split
  · simp [release_desc, h]
  · rfl

@[simp] theorem dropRef_frame : (st.dropRef d).cells = st.cells ∧ (st.dropRef d).queues = st.queues := by
  simp [dropRef]

theorem dropRef_desc_of_ne (h : d ≠ e) : (st.dropRef d).desc e = st.desc e := by
  unfold dropRef; rw [settle_desc_of_ne _ _ _ h, desc_updDesc, if_neg h]

/-! ### Class queues -/

theorem unqueue_queue (c c' : Cls) :
    (st.unqueue c d).queue c' = if c = c' then (st.queue c').erase d else st.queue c' := by
  simp [unqueue, queue, vget_vupd]

@[simp] theorem unqueue_frame (c : Cls) :
    (st.unqueue c d).cells = st.cells ∧ (st.unqueue c d).freeDescs = st.freeDescs ∧
      (st.unqueue c d).freeCells = st.freeCells ∧ (st.unqueue c d).descs = st.descs := ⟨rfl, rfl, rfl, rfl⟩

theorem admitTail_queue (c c' : Cls) (k : Bool) :
    (st.admitTail c k d).queue c' = if c = c' then st.queue c' ++ [d] else st.queue c' := by
  simp only [admitTail, updDesc_queue]; simp [queue, vget_vupd]

theorem admitHead_queue (c c' : Cls) (k : Bool) :
    (st.admitHead c k d).queue c' = if c = c' then d :: st.queue c' else st.queue c' := by
  simp only [admitHead, updDesc_queue]; simp [queue, vget_vupd]

theorem admitTail_desc (c : Cls) (k : Bool) :
    (st.admitTail c k d).desc e = if d = e then admitted c k (st.desc e) else st.desc e := by
  unfold admitTail; rw [desc_updDesc]; rfl

theorem admitHead_desc (c : Cls) (k : Bool) :
    (st.admitHead c k d).desc e = if d = e then admitted c k (st.desc e) else st.desc e := by
  unfold admitHead; rw [desc_updDesc]; rfl

/-! ### Bytes written -/

@[simp] theorem writeByte_frame (k : Nat) (b : Byte) :
    (st.writeByte d k b).queues = st.queues ∧ (st.writeByte d k b).freeDescs = st.freeDescs ∧
      (st.writeByte d k b).freeCells = st.freeCells := by
  unfold writeByte; split <;> simp

/-- A byte written changes the bytes stored of its descriptor alone. -/
theorem writeByte_desc (k : Nat) (b : Byte) :
    ∃ n, (st.writeByte d k b).desc d = { st.desc d with stored := n } ∧
      ∀ e, e ≠ d → (st.writeByte d k b).desc e = st.desc e := by
  unfold writeByte; split
  · refine ⟨k, by rw [desc_updDesc_self]; rfl, fun e h => ?_⟩
    rw [desc_updDesc, if_neg (Ne.symm h)]; rfl
  · exact ⟨(st.desc d).stored, rfl, fun e _ => rfl⟩

@[simp] theorem writeBytes_frame (k : Nat) (bs : List Byte) (st : FrameStore) :
    (st.writeBytes d k bs).queues = st.queues ∧ (st.writeBytes d k bs).freeDescs = st.freeDescs ∧
      (st.writeBytes d k bs).freeCells = st.freeCells := by
  induction bs generalizing k st with
  | nil => exact ⟨rfl, rfl, rfl⟩
  | cons b bs ih => unfold writeBytes; obtain ⟨h1, h2, h3⟩ := ih (k + 1) (st.writeByte d k b); simp [h1, h2, h3]

theorem writeBytes_desc (k : Nat) (bs : List Byte) (st : FrameStore) :
    ∃ n, (st.writeBytes d k bs).desc d = { st.desc d with stored := n } ∧
      ∀ e, e ≠ d → (st.writeBytes d k bs).desc e = st.desc e := by
  induction bs generalizing k st with
  | nil => exact ⟨(st.desc d).stored, rfl, fun e _ => rfl⟩
  | cons b bs ih =>
    obtain ⟨n, h1, h2⟩ := ih (k + 1) (st.writeByte d k b)
    obtain ⟨m, g1, g2⟩ := st.writeByte_desc d k b
    refine ⟨n, ?_, fun e h => ?_⟩
    · unfold writeBytes; rw [h1, g1]
    · unfold writeBytes; rw [h2 e h, g2 e h]

@[simp] theorem build_frame (bs : List Byte) :
    (st.build d bs).queues = st.queues ∧ (st.build d bs).freeDescs = st.freeDescs ∧
      (st.build d bs).freeCells = st.freeCells := by
  simp [build, complete]

/-- A frame built (R116) is COMPLETE with its header; its chain, origin and references are those of the claim. -/
theorem build_desc (bs : List Byte) :
    ∃ n h, (st.build d bs).desc d = { st.desc d with stored := n, header := some h, state := .complete } ∧
      ∀ e, e ≠ d → (st.build d bs).desc e = st.desc e := by
  obtain ⟨n, h1, h2⟩ := writeBytes_desc d 1 bs st
  refine ⟨n, (st.writeBytes d 1 bs).readHeader d, ?_, fun e h => ?_⟩
  · unfold build complete; rw [desc_updDesc_self, desc_updDesc_self, h1]
  · unfold build complete; rw [desc_updDesc, if_neg (Ne.symm h), desc_updDesc, if_neg (Ne.symm h), h2 e h]

end Sys2Proof.Machine.FrameStore
end

