-- ==== Sys2Proof/Tests/Slice0.lean ====
section
/-! SUPPORT. Tests on small states, and for every obligation with hypotheses the states and operands that meet them. -/

namespace Sys2Proof.Tests
open Sys2Proof Sys2Proof.Machine
set_option Elab.async false

/-! ### Small states -/

/-- The state a command answers with. -/
def after (c : Instr) (s : State) : State :=
  match exec c s with
  | .next t => t
  | .fault _ => s
  | .refused _ => s

/-- The machine after reset with every line UP. -/
def up : State :=
  (State.reset.updTrunkRx fun _ => LineRx.report true).updPorts (mapPorts fun q => { q with rx := LineRx.report true })

/-- Several commands, one after another. -/
def run (cs : List Instr) (s : State) : State := cs.foldl (fun s c => after c s) s

/-- The cell of the helper frames: cell d for descriptor d. -/
def cellOf (d : DescId) : CellId := d.castLE (by decide)

/-- A frame of at most 64 bytes placed in descriptor d and cell d. -/
def put (d : DescId) (y : DescState) (o : Origin) (c : Option Cls) (refs : Nat) (bs : List Byte) (s : State) : State :=
  s.updStore fun st =>
    let st := { st with
      descs := vset st.descs d { Descriptor.unused with state := y, origin := some o, cls := c, refs := refs, chain := [cellOf d] }
      freeCells := st.freeCells.erase (cellOf d)
      freeDescs := st.freeDescs.erase d }
    let st := st.writeBytes d 1 bs
    if 7 ≤ bs.length then st.updDesc d fun x => { x with header := some (st.readHeader d) } else st

/-- A frame without payload, to station 0x0201. -/
def shortFrame : List Byte := frameOf 0x0201 0x0005 0x10 []

/-- A frame with forty bytes of payload. -/
def longFrame : List Byte := frameOf 0x0201 0x0005 0x10 (List.replicate 40 0xA5)

/-- An ACTIVE entry of class c for descriptor d. -/
def entry (d : DescId) (c : Cls) : StackEntry :=
  { desc := d, cls := c, state := .active, emitted := 0, fragment := 0, starve := 0, preemptible := true,
    fitChecked := false }

/-- The stack of the Interleaver set. -/
def stacked (es : List StackEntry) (s : State) : State := s.updIl fun il => { il with stack := es }

/-- A frame of class 3 in descriptor 0 on the stack, with the entry changed by f. -/
def onTrunk (y : DescState) (f : StackEntry → StackEntry) : State :=
  stacked [f (entry 0 3)] (put 0 y (.tributary 2) (some 3) 1 longFrame up)

/-- A second frame of class c, COMPLETE in descriptor 1, waits in its class queue. -/
def waiting (c : Cls) (s : State) : State :=
  (put 1 .complete (.tributary 1) (some c) 1 shortFrame s).updStore fun st => { st with queues := vset st.queues c [1] }

/-- An active bank whose window 1, from offset 20 on, lacks class 0. -/
def splitBank : Bank :=
  { length := 2048, count := 2,
    windows := ((Vector.replicate 16 { offset := 0, openSet := 0 }).set 0 { offset := 0, openSet := 0x3F }).set 1
      { offset := 20, openSet := 0x3E } }

/-- A bank in which classes 0 and 1 are open from 0 to 19, and class 1 alone from 20 on. -/
def narrowBank : Bank :=
  { length := 2048, count := 2,
    windows := ((Vector.replicate 16 { offset := 0, openSet := 0 }).set 0 { offset := 0, openSet := 0x03 }).set 1
      { offset := 20, openSet := 0x02 } }

/-- The schedule in bank k, with counter v and its window. -/
def inBank (k : Bank) (v : Nat) (begun : Bool) (s : State) : State :=
  s.updSched fun c =>
    { c with bankA := k, counter := v, window := k.windowFor v, openBefore := 0, slotBegun := begun }

/-- The schedule in splitBank, with counter v and its window. -/
def clocked (v : Nat) (begun : Bool) (s : State) : State :=
  s.updSched fun k => { k with bankA := splitBank, counter := v, window := splitBank.windowFor v, slotBegun := begun }

/-- A short frame, COMPLETE in descriptor d, at the tail of class queue c. -/
def queuing (c : Cls) (d : DescId) (s : State) : State :=
  (put d .complete (.tributary 1) (some c) 1 shortFrame s).updStore fun st =>
    { st with queues := vupd st.queues c (· ++ [d]) }

/-- A class 3 frame on the stack, and a class 0 frame too long for its run, in descriptor 1, in its queue. -/
def unfitOver (k : Bank) (y : DescState) (f : StackEntry → StackEntry) : State :=
  inBank k 0 true ((put 1 .complete (.tributary 1) (some 0) 1 longFrame (onTrunk y f)).updStore fun st =>
    { st with queues := vset st.queues 0 [1] })

/-- The Alignment Unit in FOLLOW. -/
def aligned (y : AlignState) (miss : Nat) (expect : Bool) (s : State) : State :=
  s.updAlign fun a => { a with mode := .follow, state := y, miss := miss, expect := expect }

/-- A request frame from 0x0400 with sequence number 7, in descriptor 0, at the head of the inbox. -/
def asked (kind table index count : Byte) (params : List Byte) (s : State) : State :=
  (put 0 .complete .trunk none 1
    (frameOf 0xFE00 0x0400 0x10 ([0x00, 0x07, kind, table, index, count] ++ params)) s).updAgent
    fun a => { a with inbox := [0] }

/-- Context c open on the trunk with a frame in descriptor 0. -/
def receiving (c : Cls) (x : Context) (bs : List Byte) (s : State) : State :=
  (put 0 .filling .trunk none 0 bs s).updRx fun r =>
    { r with mode := .normal, stack := [⟨c, .active⟩], contexts := vset r.contexts c { x with storage := some 0 } }

/-- The framer of port p with a frame in descriptor 0. -/
def framing (p : PortIx) (y : FramerState) (check : BitVec 16) (c : Option Cls) (refs : Nat) (bs : List Byte) (s : State) :
    State :=
  (put 0 .filling (.tributary p) c refs bs s).updPort p fun q =>
    { q with framer := { state := y, desc := some 0, check := check, gap := 0 } }

/-! ### Well-formed commands: one ill-formed term for each check -/

theorem test_wellFormed_rxUndecodable : WellFormed (.rxUndecodable (some 0x300)) = false := by decide
theorem test_wellFormed_tribRxIdle : WellFormed (.tribRxIdle 0 (some 0x350)) = false := by decide
theorem test_wellFormed_tributaryStall : WellFormed (.tributaryStall 1 (some 0x041)) = false := by decide
theorem test_wellFormed_good :
    WellFormed (.rxUndecodable (some 0x350)) = true ∧ WellFormed (.rxUndecodable none) = true ∧
      WellFormed (.tribRxIdle 0 (some 0x300)) = true ∧ WellFormed (.tribRxIdle 0 (some 0x310)) = true ∧
      WellFormed (.tributaryStall 1 none) = true := by decide

/-! ### The frame check and the symbol codes -/

/-- R4: the check of the nine bytes 1 to 9 written as digits. -/
theorem test_frameCheck :
    crcBytes freshCheck [0x31, 0x32, 0x33, 0x34, 0x35, 0x36, 0x37, 0x38, 0x39] = 0x29B1 := by decide +kernel

/-- R4: fed the whole frame, the register of a good frame reads 0. -/
theorem test_frameCheck_good : crcBytes freshCheck longFrame = 0 := by decide +kernel

theorem test_codes :
    trunkCode (.opened 3) = 0x313 ∧ trunkCode (.resume 5) = 0x325 ∧ trunkCode .close = 0x331 ∧
      tribCode .ended = 0x351 ∧ trunkSymbolOf 0x316 = none ∧ tribSymbolOf 0x331 = none ∧
      trunkCommandOf (some 0x351) = .rxUndecodable (some 0x351) ∧ tribCommandOf 2 (some 0x331) = .tribRxIdle 2 (some 0x331) :=
  by decide

/-! ### One step of each command -/

theorem test_deviceReset :
    (after .deviceReset up).resetHeld = true ∧ (after .deviceReset up).trunkRx.up = false ∧
      (after .deviceReset up).trunkTx = none := by decide +kernel

theorem test_resetRelease :
    (after (.resetRelease 0xB) (after .deviceReset up)).agent.address = 0xFE0B ∧
      (after (.resetRelease 0xB) up).agent.address = 0xFE00 := by decide +kernel

theorem test_trunkSlot : (after .trunkSlot (onTrunk .filling id)).trunkTx = some (.data 0x02) := by decide +kernel

/-- R23, R26: a waiting class 0 frame, not preemptible, is opened over an empty stack after its fit check. -/
theorem test_trunkSlot_opens :
    (after .trunkSlot (waiting 0 up)).trunkTx = some (.opened 0) ∧
      (after .trunkSlot (waiting 0 up)).il.stack.map StackEntry.fitChecked = [true] ∧
      (after .trunkSlot (waiting 0 up)).store.queue 0 = [] := by decide +kernel

theorem test_trunkStallLimit :
    (after .trunkStallLimit (onTrunk .filling fun e => { e with emitted := 49, starve := 1023 })).trunkTx = some .fill ∧
      ((after .trunkStallLimit (onTrunk .filling fun e => { e with emitted := 49, starve := 1023 })).store.desc 0).state =
        .failed .trunkStall := by decide +kernel

theorem test_windowEdge :
    (after .windowEdge (clocked 19 false up)).sched.window = 1 ∧
      (after .windowEdge (clocked 18 false up)).sched.counter = 18 := by decide +kernel

theorem test_cycleWrap :
    (after .cycleWrap (clocked 2047 false up)).sched.counter = 0 ∧
      (after .cycleWrap (clocked 2047 false up)).sched.slotByWrap = true ∧
      (after .cycleWrap (clocked 2046 false up)).sched.counter = 2046 := by decide +kernel

theorem test_missedMarkCheck :
    (after .missedMarkCheck (aligned .locked 0 true (clocked 17 true up))).align.miss = 1 ∧
      (after .missedMarkCheck (aligned .locked 3 true (clocked 17 true up))).align.state = .holdover ∧
      (after .missedMarkCheck (aligned .locked 0 true (clocked 16 true up))).align.miss = 0 := by decide +kernel

theorem test_trunkDown :
    (after .trunkDown (onTrunk .filling id)).il.stack = [] ∧ (after .trunkDown up).trunkRx.up = false ∧
      (after .trunkDown up).agent.notices.map NoticeRecord.first = [.lineEvent .trunk false] := by decide +kernel

theorem test_trunkUp :
    (after .trunkUp State.reset).trunkRx.up = true ∧ (after .trunkUp up).agent.notices = [] := by decide +kernel

theorem test_tributaryDown :
    ((after (.tributaryDown 2) (framing 2 .header 0 none 0 [0x02] up)).framer 2).state = .idle ∧
      ((after (.tributaryDown 2) (framing 2 .header 0 none 0 [0x02] up)).store.desc 0).state = .free ∧
      ((after (.tributaryDown 2) (framing 2 .header 0 none 0 [0x02] up)).port 2).counters.failedOther = 1 := by
  decide +kernel

theorem test_tributaryUp : ((after (.tributaryUp 3) State.reset).port 3).serving = true := by decide +kernel

theorem test_rxOpen :
    (after (.rxOpen 4) up).rx.mode = .normal ∧ (after (.rxOpen 4) up).rx.stack = [⟨4, .active⟩] ∧
      ((after (.rxOpen 4) up).context 4).storage = some 0 := by decide +kernel

theorem test_rxPause_rxResume :
    (run [.rxOpen 4, .rxPause] up).rx.stack = [⟨4, .suspended⟩] ∧
      (after (.rxResume 4) (run [.rxOpen 4, .rxPause] up)).rx.stack = [⟨4, .active⟩] ∧
      (after (.rxResume 3) (run [.rxOpen 4, .rxPause] up)).rx.mode = .resync := by decide +kernel

theorem test_rxData :
    ((run [.rxOpen 4, .rxData 0x5A] up).store.desc 0).chain = [0] ∧
      (run [.rxOpen 4, .rxData 0x5A] up).store.readByte 0 1 = 0x5A ∧
      (run [.rxOpen 4, .rxData 0x5A] up).store.freeCells.length = 511 := by decide +kernel

theorem test_rxFill :
    (after .rxFill (after (.rxOpen 4) up)).rx.mode = .normal ∧ (after .rxFill (after (.rxOpen 4) up)).rx.stack = [⟨4, .active⟩] ∧
      ((after .rxFill (after (.rxOpen 4) up)).context 4).received = 0 := by decide +kernel

theorem test_rxIdle :
    (after .rxIdle (after (.rxOpen 4) up)).rx.counters.violations = 1 ∧ (after .rxIdle up).rx.counters.violations = 0 := by decide +kernel

theorem test_rxClose :
    (after .rxClose (after (.rxOpen 4) up)).rx.counters.lengthErrors = 1 ∧
      (after .rxClose (after (.rxOpen 4) up)).rx.stack = [] := by decide +kernel

theorem test_rxAbort :
    (after .rxAbort (after (.rxOpen 4) up)).rx.counters = RxCounters.zero ∧
      ((after .rxAbort (after (.rxOpen 4) up)).store.desc 0).state = .free := by decide +kernel

theorem test_rxUndecodable :
    (after (.rxUndecodable none) up).trunkRx.failedRun = 1 ∧
      (after (.rxUndecodable (some 0x350)) (after (.rxOpen 4) up)).rx.counters.violations = 1 ∧
      (after (.rxUndecodable (some 0x350)) up).trunkRx.failedRun = 0 := by decide +kernel

theorem test_rxMark :
    (after .rxMark (aligned .seeking 0 false (clocked 700 true up))).align.state = .locked ∧
      (after .rxMark (aligned .seeking 0 false (clocked 700 true up))).sched.counter = 0 ∧
      (after .rxMark (aligned .locked 0 false (clocked 700 true up))).align.counters.misaligned = 1 := by decide +kernel

theorem test_tribRxStart :
    ((after (.tribRxStart 1) up).framer 1).state = .header ∧ ((after (.tribRxStart 1) up).framer 1).desc = some 0 ∧
      ((after (.tribRxStart 1) up).store.desc 0).origin = some (.tributary 1) := by decide +kernel

/-- R131: byte 7 completes the header, and the Port Default forwards the frame to class 5. -/
theorem test_tribRxData :
    ((after (.tribRxData 1 0) (framing 1 .header 0 none 0 [0x02, 0x01, 0x00, 0x05, 0x10, 0x00] up)).framer 1).state = .body ∧
      (after (.tribRxData 1 0) (framing 1 .header 0 none 0 [0x02, 0x01, 0x00, 0x05, 0x10, 0x00] up)).store.queue 5 = [0] := by
  decide +kernel

theorem test_tribRxEnd :
    ((after (.tribRxEnd 1) (framing 1 .body 0 (some 5) 1 shortFrame up)).port 1).counters.received = 1 ∧
      ((after (.tribRxEnd 1) (framing 1 .body 0 (some 5) 1 shortFrame up)).store.desc 0).state = .complete ∧
      ((after (.tribRxEnd 1) (framing 1 .body 9 (some 5) 1 shortFrame up)).store.desc 0).state = .failed .badCrc := by
  decide +kernel

theorem test_tribRxAbort :
    ((after (.tribRxAbort 1) (framing 1 .body 0 (some 5) 1 shortFrame up)).port 1).counters.failedStation = 1 := by
  decide +kernel

theorem test_tribRxIdle :
    ((after (.tribRxIdle 1 (some 0x300)) (framing 1 .body 0 (some 5) 1 shortFrame up)).framer 1).gap = 1 := by
  decide +kernel

theorem test_tribRxMark :
    ((after (.tribRxMark 1) (framing 1 .body 5 (some 5) 1 shortFrame up)).framer 1) = ⟨.body, some 0, 5, 0⟩ := by
  decide +kernel

theorem test_tributaryStall :
    ((after (.tributaryStall 1 none) ((framing 1 .body 0 (some 5) 1 shortFrame up).updPort 1 fun q =>
      { q with framer := { q.framer with gap := 2047 } })).store.desc 0).state = .failed .stall := by decide +kernel

theorem test_tribTxSlot :
    ((after (.tribTxSlot 0) ((put 0 .complete .trunk none 1 shortFrame up).updPort 0 fun q =>
      { q with sending := some ⟨0, 9⟩ })).port 0).txLine = some .ended ∧
      ((after (.tribTxSlot 0) ((put 0 .complete .trunk none 1 shortFrame up).updPort 0 fun q =>
        { q with delivery := [0] })).port 0).txLine = some .start := by decide +kernel

/-- R139: the START that a MARK displaces is sent next, though the queue has been flushed. -/
theorem test_tribTxSlot_displaced :
    (let s := (put 0 .complete .trunk none 1 shortFrame up).updPort 0 fun q =>
       { q with delivery := [0], markPending := true }
     let t := after (.tribTxSlot 0) s
     (t.port 0).txLine = some .mark ∧ (t.port 0).sending = some ⟨0, 0⟩ ∧
       ((after (.tribTxSlot 0) (emptyDelivery 0 t)).port 0).txLine = some .start) := by decide +kernel

/-- R82: a W lowered in a slot makes no check due in that slot, and one in the next. -/
theorem test_missedMarkCheck_width :
    (let s := (aligned .locked 0 true (clocked 14 true up)).updAlign fun a => { a with width := 8 }
     (after .trunkSlot s).align.miss = 0 ∧ (after .trunkSlot (after .trunkSlot s)).align.miss = 1) := by decide +kernel

theorem test_builderChooseJob :
    (after .builderChooseJob ((raise .alignLost up).updAgent fun a => { a with noticeDest := 0x0700 })).store.queue 1 = [0] ∧
      (after .builderChooseJob ((raise .alignLost up).updAgent fun a => { a with noticeDest := 0x0700 })).agent.notices = [] :=
  by decide +kernel

theorem test_storeClaimGranted :
    (after .storeClaimGranted ((raise .alignLost up).updAgent fun a =>
      { a with noticeDest := 0x0700, builder := .waitingStore, job := some .notice })).agent.builder = .idle := by
  decide +kernel

/-- R167, 12.2: the payload of the reply to a QUERY, after the reply's own cell and descriptor have been taken. -/
theorem test_query :
    (after .query (asked 1 0 0 0 [] up)).store.payload 1 17 =
      [0x00, 0x07, 0x81, 0x00, 0x00, 0x4E, 0x4C, 0x01, 0xFE, 0x00, 0x01, 0x00, 0x00, 0x00, 0x01, 0xFF, 0x7F] := by
  decide +kernel

/-- R166: entry 0 of CLASS_POLICY. -/
theorem test_read :
    (after .read (asked 2 3 0 1 [] up)).store.payload 1 8 = [0x00, 0x07, 0x82, 0x00, 0x00, 0x00, 0x00, 0x20] := by
  decide +kernel

theorem test_writeClassify :
    vget (after .writeClassify (asked 3 1 31 1 [0x8F, 0x10, 0xFF, 0x01, 0x04, 0x00, 0x80] up)).classifier.entries 31 =
      { valid := true, ports := 0xF, tagValue := 0x10, tagMask := 0xFF, srcMatch := true, srcValue := 0x0400,
        action := .drop, hits := 0 } := by decide +kernel

theorem test_writePortDefault :
    vget (after .writePortDefault (asked 3 2 3 1 [0x02] up)).classifier.defaults 3 = .forward 2 := by decide +kernel

theorem test_writeClassPolicy :
    vget (after .writeClassPolicy (asked 3 3 5 1 [0x00, 0x01, 0x80] up)).policy 5 = ⟨false, true, 128⟩ := by decide +kernel

theorem test_writeRoute :
    vget (after .writeRoute (asked 3 4 63 1 [0x01, 0x02, 0x01, 0x03] up)).routes 63 = ⟨true, 0x0201, 3⟩ ∧
      (after .writeRoute (asked 3 4 63 1 [0x01, 0xFE, 0x00, 0x03] up)).agent.counters.refused = 1 := by decide +kernel

theorem test_writePortConfig :
    ((after .writePortConfig (asked 3 5 2 1 [0x02, 0x00, 0x10] up)).port 2).config = ⟨false, true, 16⟩ := by decide +kernel

theorem test_writeScheduleStandby :
    (after .writeScheduleStandby (asked 3 7 0 1 [0x00, 0x08, 0x00, 0x02] up)).sched.bankB.length = 2048 ∧
      (after .writeScheduleStandby (asked 3 7 0 1 [0x00, 0x07, 0xFF, 0x02] up)).agent.counters.refused = 1 := by
  decide +kernel

theorem test_writeReadOnlyTable :
    (after .writeReadOnlyTable (asked 3 6 0 1 [0x00, 0x08, 0x00, 0x02] up)).store.payload 1 5 =
      [0x00, 0x07, 0x83, 0x07, 0x00] := by decide +kernel

theorem test_commit :
    (after .commit (asked 4 0 0 0 [] up)).sched.commit = .pending := by decide +kernel

theorem test_abandon :
    (after .abandon (asked 5 0 0 0 [] up)).store.payload 1 5 = [0x00, 0x07, 0x85, 0x09, 0x00] := by decide +kernel

theorem test_setAlign :
    (after .setAlign (asked 6 0 0 0 [0x03, 0x01, 0x20] up)).align.state = .seeking ∧
      (after .setAlign (asked 6 0 0 0 [0x03, 0x01, 0x20] up)).align.width = 32 := by decide +kernel

theorem test_setGlobal :
    (after .setGlobal (asked 7 0 0 0 [1, 0x02, 0x00, 1, 2, 1, 0x03, 0x00, 1, 0x00, 0x10, 1, 0x00, 0x01] up)).agent.address =
        0x0200 ∧
      (after .setGlobal (asked 7 0 0 0 [1, 0x02, 0x00, 1, 2, 1, 0x03, 0x00, 1, 0x00, 0x10, 1, 0x00, 0x01] up)).store.queue 2
        = [1] := by decide +kernel

theorem test_flushClassQueue :
    (after .flushClassQueue (waiting 4 (asked 9 0 0 0 [0x00, 0x04] up))).store.queue 4 = [] ∧
      ((after .flushClassQueue (waiting 4 (asked 9 0 0 0 [0x00, 0x04] up))).store.desc 1).state = .free := by decide +kernel

theorem test_flushDeliveryQueue :
    ((after .flushDeliveryQueue ((put 1 .complete .trunk none 1 shortFrame (asked 9 0 0 0 [0x01, 0x03] up)).updPort 3
      fun q => { q with delivery := [1] })).port 3).delivery = [] := by decide +kernel

theorem test_trafficReset :
    (after .trafficReset (waiting 4 (asked 10 0 0 0 [] up))).store.queue 4 = [] ∧
      (after .trafficReset (waiting 4 (asked 10 0 0 0 [] up))).store.queue 1 = [2] ∧
      (after .trafficReset (waiting 4 (asked 10 0 0 0 [] up))).il.hold = some 2 := by decide +kernel

theorem test_drainEnd :
    (after .drainEnd ((put 1 .filling .agent none 0 [] (onTrunk .filling id)).updIl fun il => { il with drain := true })
      ).trunkTx = some .abort := by decide +kernel

/-! ### The hypotheses of the obligations are met -/

theorem plain_of {s : State} (h : (!s.resetHeld && s.trunkRx.up && s.sched.slotBegun && !missedDue s &&
    decide (overrunClass s = none)) = true) : PlainSlot s := by
  simpa [PlainSlot, TrunkUp, and_assoc] using h

/-- An ACTIVE top that the arbiter is not asked about goes on. -/
theorem goes_of {e : StackEntry} {s : State}
    (h : (e.isActive && !frameFailed s e.desc && !(e.preemptible && limitsHold s e)) = true) : GoesOn e [] s s := by
  simp only [Bool.and_eq_true, Bool.not_eq_true'] at h
  exact ⟨h.1.1, h.1.2, .inl ⟨h.2, rfl, rfl⟩⟩

/-- What the arbiter answers, from the part of it that is small. -/
theorem arbiter_of {s : State} {us : List Cls} {x : Option Candidate} (h : (arbiter s).2 = (us, x)) :
    arbiter s = ((arbiter s).1, us, x) := by
  rw [← h]

/-- With every class queue empty the arbiter names nothing. -/
theorem arbiter_of_empty {s : State} (h : ∀ c, s.store.queue c = []) : arbiter s = (s, [], none) := by
  have : ∀ cs, arbitrate cs s = (s, [], none) := by
    intro cs
    induction cs with
    | nil => rfl
    | cons c cs ih => simp [arbitrate, h, examineQueue, ih]
  exact this _

/-- With one frame waiting, an eligible one, the arbiter names it. -/
theorem arbiter_of_single {s : State} {c : Cls} {d : DescId} (h : ∀ c', s.store.queue c' = if c' = c then [d] else [])
    (he : (examines s c && isOpen s c && ready (s.store.desc d) && holdAllows s d &&
      ((vget s.policy c).preemptible || decide (fitCheck c ((s.store.desc d).frameBytes - 9) s = .fits))) = true) :
    arbiter s = (s, [], some ⟨c, d, !(vget s.policy c).preemptible⟩) := by
  simp only [Bool.and_eq_true, Bool.or_eq_true, decide_eq_true_eq] at he
  obtain ⟨⟨⟨⟨h1, h2⟩, h3⟩, h4⟩, h5⟩ := he
  have this : ∀ cs, c ∈ cs → arbitrate cs s = (s, [], some ⟨c, d, !(vget s.policy c).preemptible⟩) := by
    intro cs
    induction cs with
    | nil => simp
    | cons k cs ih =>
      intro hm
      by_cases hk : k = c
      · subst hk
        cases hp : (vget s.policy k).preemptible
        · simp [hp] at h5
          simp [arbitrate, h, examineQueue, h1, h2, h3, h4, hp, h5]
        · simp [arbitrate, h, examineQueue, h1, h2, h3, h4, hp]
      · have := ih (by simpa [Ne.symm hk] using hm)
        simp [arbitrate, h, hk, examineQueue, this]
  exact this _ (by fin_cases c <;> simp)

/-- Every class closed in every slot of the counter, and closed in the slot before. -/
def shut (s : State) : State :=
  s.updSched fun k => { k with bankA := { k.bankA with windows := Vector.replicate 16 ⟨0, 0⟩ }, openBefore := 0 }

theorem witness_IdleOrOneCommand : State.reset.pending = [] := rfl

theorem witness_CodeWordsSpellTheirCommands :
    (WellFormed (.rxUndecodable none) = true ∧ receivedSlot (.rxUndecodable none) = some (none, none)) ∧
      WellFormed (.tribRxIdle 3 (some 0x332)) = false ∧
      WellFormed (.tribRxIdle 3 (some 0x331)) = true ∧
      receivedSlot (.tribRxIdle 3 (some 0x331)) = some (some 3, some 0x331) := by decide

theorem witness_ResetTakesAndReleases :
    (after .deviceReset up).resetHeld = true ∧ Instr.trunkSlot ≠ .deviceReset ∧ ∀ k, Instr.trunkSlot ≠ .resetRelease k := by
  decide +kernel

theorem witness_SlotsOfTheCounter :
    (let s := clocked 2046 false State.reset
     s.resetHeld = false ∧ s.trunkRx.up = false ∧ s.align.state ≠ .locked ∧ s.sched.slotBegun = false ∧
       s.sched.counter + 1 < s.sched.activeBank.length) ∧
    (let s := clocked 19 false up
     s.resetHeld = false ∧ s.sched.slotBegun = false ∧ s.sched.activeBank.valid = true ∧ 1 < s.sched.activeBank.count ∧
       (s.sched.activeBank.window 1).offset = s.sched.counter + 1) ∧
    (let s := clocked 2047 false up
     s.resetHeld = false ∧ s.sched.slotBegun = false ∧ s.sched.activeBank.length ≤ s.sched.counter + 1 ∧
       s.sched.commit = .idle) ∧
    (let s := (clocked 2047 false up).updSched fun k => { k with commit := .pending }
     s.resetHeld = false ∧ s.sched.slotBegun = false ∧ s.sched.activeBank.length ≤ s.sched.counter + 1 ∧
       s.sched.commit = .pending) ∧
    (up.resetHeld = false ∧ up.sched.slotBegun = true) := by decide +kernel

theorem witness_ActiveTopContinues :
    (let e := entry 0 3
     let s := onTrunk .filling id
     PlainSlot s ∧ GoesOn e [] s s ∧ s.il.drain = false ∧ s.il.stack = [e] ∧
       ¬ (remaining s e = 0 ∧ (s.store.desc e.desc).state = .complete) ∧ e.emitted < (s.store.desc e.desc).stored) ∧
    (let e := { entry 0 3 with emitted := 41, fragment := 32 }
     let s := unfitOver splitBank .filling fun e => { e with emitted := 41, fragment := 32 }
     let t := (arbiter s).1
     PlainSlot s ∧ GoesOn e [0] s t ∧ s.il.drain = false ∧ s.il.stack = [e] ∧
       ¬ (remaining t e = 0 ∧ (t.store.desc e.desc).state = .complete) ∧ e.emitted < (t.store.desc e.desc).stored) ∧
    (let e := { entry 0 3 with emitted := 49 }
     let s := onTrunk .complete fun e => { e with emitted := 49 }
     PlainSlot s ∧ GoesOn e [] s s ∧ s.il.drain = false ∧ s.il.stack = [e] ∧ remaining s e = 0 ∧
       (s.store.desc e.desc).state = .complete) ∧
    (let e := { entry 0 3 with emitted := 49, starve := 1022 }
     let s := onTrunk .filling fun e => { e with emitted := 49, starve := 1022 }
     PlainSlot s ∧ GoesOn e [] s s ∧ s.il.drain = false ∧ s.il.stack = [e] ∧
       ¬ (remaining s e = 0 ∧ (s.store.desc e.desc).state = .complete) ∧ (s.store.desc e.desc).stored ≤ e.emitted ∧
       e.starve + 1 < s.agent.stallLimit) := by
  refine ⟨⟨plain_of (by decide +kernel), goes_of (by decide +kernel), by decide +kernel⟩,
    ⟨plain_of (by decide +kernel), ⟨by decide +kernel, by decide +kernel, .inr ⟨by decide +kernel,
      arbiter_of (by decide +kernel), by decide +kernel⟩⟩, by decide +kernel⟩,
    ⟨plain_of (by decide +kernel), goes_of (by decide +kernel), by decide +kernel⟩,
    ⟨plain_of (by decide +kernel), goes_of (by decide +kernel), by decide +kernel⟩⟩

theorem witness_TopIsAbortedOrResumed :
    (let s := onTrunk (.failed .stall) id
     PlainSlot s ∧ s.il.stack = [entry 0 3] ∧ (entry 0 3).isActive = true ∧ s.il.drain = false ∧
       frameFailed s 0 = true) ∧
    (let s := (stacked [entry 1 2, { entry 0 3 with state := .suspended .gated }] (waiting 2 (onTrunk .filling id))).updIl
       fun il => { il with drain := true }
     PlainSlot s ∧ s.il.stack = [entry 1 2, { entry 0 3 with state := .suspended .gated }] ∧ s.il.drain = true) ∧
    (let e := { entry 0 3 with state := .suspended .gated }
     let s := onTrunk (.failed .badCrc) fun e => { e with state := .suspended .gated }
     PlainSlot s ∧ s.il.stack = [e] ∧ e.isActive = false ∧ frameFailed s e.desc = true) ∧
    (let e := { entry 0 3 with state := .suspended .preempted }
     let s := unfitOver splitBank .filling fun e => { e with state := .suspended .preempted }
     PlainSlot s ∧ arbiter s = ((arbiter s).1, [0], none) ∧ s.il.stack = [e] ∧ e.isActive = false ∧
       s.il.drain = false ∧ frameFailed s e.desc = false ∧ isOpen s e.cls = true) := by
  refine ⟨⟨plain_of (by decide +kernel), ?_⟩, ⟨plain_of (by decide +kernel), ?_⟩,
    ⟨plain_of (by decide +kernel), ?_⟩,
    ⟨plain_of (by decide +kernel), arbiter_of (by decide +kernel), ?_⟩⟩ <;>
    decide +kernel

theorem witness_TrunkStallFailsTheTop :
    (let e := { entry 0 3 with emitted := 49, starve := 1023 }
     let s := onTrunk .filling fun e => { e with emitted := 49, starve := 1023 }
     PlainSlot s ∧ GoesOn e [] s s ∧ s.il.drain = false ∧ s.il.stack = [e] ∧ (s.store.desc e.desc).state = .filling ∧
       (s.store.desc e.desc).refs ≠ 0 ∧ FrameStore.queued s.store e.desc = false ∧
       (s.store.desc e.desc).stored ≤ e.emitted ∧ s.agent.stallLimit ≤ e.starve + 1 ∧
       (s.store.desc e.desc).origin = some (.tributary 2)) ∧
    (let f := fun e : StackEntry => { e with emitted := 40, fragment := 32, starve := 1023 }
     let s := (unfitOver splitBank .filling f).updStore (FrameStore.updDesc 0 fun x => { x with stored := 40 })
     let t := (arbiter s).1
     PlainSlot s ∧ GoesOn (f (entry 0 3)) [0] s t ∧ (t.store.desc 0).state = .filling ∧ (t.store.desc 0).refs ≠ 0 ∧
       FrameStore.queued t.store 0 = false ∧ (t.store.desc 0).stored ≤ 40 ∧ s.agent.stallLimit ≤ 1024) := by
  refine ⟨⟨plain_of (by decide +kernel), goes_of (by decide +kernel), by decide +kernel⟩,
    ⟨plain_of (by decide +kernel), ⟨by decide +kernel, by decide +kernel, .inr ⟨by decide +kernel,
      arbiter_of (by decide +kernel), by decide +kernel⟩⟩, by decide +kernel⟩⟩

theorem witness_CandidateIsOpenedOrPreempts :
    (let s := waiting 0 up
     PlainSlot s ∧ arbiter s = (s, [], some ⟨0, 1, true⟩) ∧ s.il.drain = false ∧ s.il.stack = []) ∧
    (let e := { entry 0 3 with state := .suspended .gated }
     let s := queuing 1 2 (unfitOver splitBank .filling fun e => { e with state := .suspended .gated })
     PlainSlot s ∧ arbiter s = ((arbiter s).1, [0], some ⟨1, 2, false⟩) ∧ s.il.drain = false ∧ s.il.stack = [e] ∧
       frameFailed s e.desc = false ∧ e.isActive = false ∧ e.state = .suspended .gated) ∧
    (let e := { entry 0 3 with emitted := 41, fragment := 32 }
     let s := queuing 1 2 (unfitOver splitBank .filling fun e => { e with emitted := 41, fragment := 32 })
     PlainSlot s ∧ arbiter s = ((arbiter s).1, [0], some ⟨1, 2, false⟩) ∧ s.il.drain = false ∧ s.il.stack = [e] ∧
       e.isActive = true ∧ frameFailed s e.desc = false ∧ e.preemptible = true ∧ Config.minFrag ≤ e.fragment ∧
       Config.minTail ≤ remaining s e) ∧
    (let e := { entry 0 3 with state := .suspended .preempted }
     let s := queuing 1 2 (unfitOver narrowBank .filling fun e => { e with state := .suspended .preempted })
     let g := countIl (fun k => { k with gateSuspended := bump 3 k.gateSuspended })
       (setTop { e with state := .suspended .gated } s)
     PlainSlot s ∧ arbiter g = ((arbiter g).1, [0], some ⟨1, 2, false⟩) ∧ s.il.drain = false ∧ s.il.stack = [e] ∧
       frameFailed s e.desc = false ∧ isOpen s e.cls = false) := by
  refine ⟨⟨plain_of (by decide +kernel), arbiter_of_single (by decide +kernel) (by decide +kernel), by decide +kernel⟩,
    ⟨plain_of (by decide +kernel), arbiter_of (by decide +kernel), by decide +kernel⟩,
    ⟨plain_of (by decide +kernel), arbiter_of (by decide +kernel), by decide +kernel⟩,
    ⟨plain_of (by decide +kernel), arbiter_of (by decide +kernel), by decide +kernel⟩⟩

theorem witness_PauseOrIdleWithoutCandidate :
    (let e := { entry 0 3 with emitted := 41, fragment := 32 }
     let s := unfitOver narrowBank .filling fun e => { e with emitted := 41, fragment := 32 }
     PlainSlot s ∧ arbiter s = ((arbiter s).1, [0], none) ∧ s.il.drain = false ∧ s.il.stack = [e] ∧
       e.isActive = true ∧ frameFailed s e.desc = false ∧ e.preemptible = true ∧ Config.minFrag ≤ e.fragment ∧
       Config.minTail ≤ remaining s e ∧ isOpen s e.cls = false) ∧
    (PlainSlot up ∧ arbiter up = (up, [], none) ∧ up.il.drain = false ∧ up.il.stack = []) ∧
    (let e := { entry 0 3 with state := .suspended .gated }
     let s := unfitOver narrowBank .filling fun e => { e with state := .suspended .gated }
     PlainSlot s ∧ arbiter s = ((arbiter s).1, [0], none) ∧ s.il.drain = false ∧ s.il.stack = [e] ∧
       frameFailed s e.desc = false ∧ e.state = .suspended .gated ∧ isOpen s e.cls = false) ∧
    (let e := { entry 0 3 with state := .suspended .preempted }
     let s := shut (onTrunk .filling fun e => { e with state := .suspended .preempted })
     let g := countIl (fun k => { k with gateSuspended := bump 3 k.gateSuspended })
       (setTop { e with state := .suspended .gated } s)
     PlainSlot s ∧ arbiter g = (g, [], none) ∧ s.il.drain = false ∧ s.il.stack = [e] ∧ frameFailed s e.desc = false ∧
       e.state = .suspended .preempted ∧ isOpen s e.cls = false) := by
  refine ⟨⟨plain_of (by decide +kernel), arbiter_of (by decide +kernel), by decide +kernel⟩,
    ⟨plain_of (by decide +kernel), arbiter_of_empty (by decide +kernel), by decide +kernel⟩,
    ⟨plain_of (by decide +kernel), arbiter_of (by decide +kernel), by decide +kernel⟩,
    ⟨plain_of (by decide +kernel), arbiter_of_empty (by decide +kernel), by decide +kernel⟩⟩

theorem witness_GateOverrunIsCounted :
    (let e := { entry 0 3 with preemptible := false, fitChecked := true }
     let s := (shut (onTrunk .filling fun e => { e with preemptible := false, fitChecked := true })).updSched fun k =>
       { k with openBefore := 0x08 }
     (s.resetHeld = false ∧ s.trunkRx.up = true) ∧ s.sched.slotBegun = true ∧ missedDue s = false ∧ s.il.stack = [e] ∧
       e.isActive = true ∧ e.fitChecked = true ∧ classIn e.cls s.sched.openBefore = true ∧ isOpen s e.cls = false ∧
       s.il.drain = false ∧ e.preemptible = false ∧ maskAllows s.agent.noticeMask .gateOverrun = true) := by decide +kernel

theorem witness_SentSymbolsAreLegal :
    TrunkUp (waiting 0 (onTrunk .filling id)) ∧ TransmitStackOk (waiting 0 (onTrunk .filling id)) ∧
      step up = .next up := by
  refine ⟨⟨by decide +kernel, by decide +kernel⟩, ?_, rfl⟩
  unfold TransmitStackOk; decide +kernel

theorem witness_MissedMarkIsAMiss :
    (let s := aligned .locked 2 true (clocked 17 true up)
     s.resetHeld = false ∧ s.sched.slotBegun = true ∧ s.align.state = .locked ∧ s.align.expect = true ∧
       s.align.width < s.sched.counter ∧ s.sched.slotWidth < s.sched.counter ∧ s.align.miss + 1 < 4) ∧
    (let s := aligned .locked 3 true (clocked 17 true up)
     s.resetHeld = false ∧ s.sched.slotBegun = true ∧ s.align.state = .locked ∧ s.align.expect = true ∧
       s.align.width < s.sched.counter ∧ s.sched.slotWidth < s.sched.counter ∧ s.align.miss = 3) ∧
    (let s := (aligned .locked 3 true (clocked 16 true up)).updAlign fun a => { a with width := 8 }
     s.sched.slotBegun = true ∧ s.align.width < s.sched.counter ∧ s.sched.counter ≤ s.sched.slotWidth) ∧
    (let s := aligned .locked 3 true (clocked 16 false up)
     s.resetHeld = false ∧ s.sched.slotBegun = false ∧ s.align.state = .locked ∧ s.align.expect = true ∧
       s.sched.counter + 1 < s.sched.activeBank.length ∧ s.align.width < s.sched.counter + 1) := by decide +kernel

theorem witness_MarkInLockIsClassified :
    (let s := (aligned .locked 1 true (clocked 0 true up)).updSched fun k => { k with slotByWrap := true }
     TrunkUp s ∧ s.sched.slotBegun = true ∧ s.align.state = .locked ∧ s.sched.counter = 0 ∧
       s.sched.slotByWrap = true) ∧
    (let s := (aligned .locked 1 false (clocked 2032 true up)).updSched fun k => { k with commit := .pending }
     TrunkUp s ∧ s.sched.slotBegun = true ∧ s.align.state = .locked ∧ s.sched.commit = .pending ∧
       s.sched.slotByWrap = false ∧ s.sched.activeBank.length - s.align.width ≤ s.sched.counter) ∧
    (let s := (aligned .locked 1 true (clocked 16 true up)).updSched fun k => { k with commit := .pending }
     TrunkUp s ∧ s.sched.slotBegun = true ∧ s.align.state = .locked ∧
       s.sched.counter < s.sched.activeBank.length - s.align.width ∧ 1 ≤ s.sched.counter ∧
       s.sched.counter ≤ s.align.width ∧ s.align.expect = true) ∧
    (let s := aligned .locked 2 false (clocked 16 true up)
     TrunkUp s ∧ s.sched.slotBegun = true ∧ s.align.state = .locked ∧
       s.sched.counter < s.sched.activeBank.length - s.align.width ∧ 1 ≤ s.sched.counter ∧ s.align.expect = false ∧
       s.align.miss + 1 < 4) ∧
    (let s := aligned .locked 2 false (clocked 0 true up)
     TrunkUp s ∧ s.sched.slotBegun = true ∧ s.align.state = .locked ∧
       s.sched.counter < s.sched.activeBank.length - s.align.width ∧ s.sched.counter = 0 ∧ s.sched.slotByWrap = false) ∧
    (let s := (aligned .locked 3 true (clocked 17 true up)).updSched fun k => { k with commit := .pending }
     TrunkUp s ∧ s.sched.slotBegun = true ∧ s.align.state = .locked ∧
       s.sched.counter < s.sched.activeBank.length - s.align.width ∧
       s.align.width < s.sched.counter ∧ s.align.miss = 3) := by
  unfold TrunkUp; decide +kernel

theorem witness_MarkOutOfLockIsAccepted :
    (let s := (aligned .seeking 0 false (clocked 700 true up)).updSched fun k => { k with commit := .pending }
     TrunkUp s ∧ s.sched.slotBegun = true ∧ s.sched.slotByWrap = false ∧ s.align.state = .seeking) ∧
    (let s := (aligned .holdover 4 false (clocked 700 true up)).updSched fun k => { k with commit := .pending }
     TrunkUp s ∧ s.sched.slotBegun = true ∧ s.sched.slotByWrap = false ∧ s.align.state = .holdover ∧
       s.sched.commit = .pending) ∧
    (let s := (aligned .holdover 4 false (clocked 0 true up)).updSched fun k => { k with slotByWrap := true }
     TrunkUp s ∧ s.sched.slotBegun = true ∧ s.sched.slotByWrap = true ∧ s.align.state = .holdover) ∧
    (let s := (aligned .holdover 4 false (clocked 2047 false up)).updSched fun k => { k with commit := .pending }
     TrunkUp s ∧ s.align.state = .holdover ∧ s.sched.slotBegun = false ∧
       s.sched.activeBank.length ≤ s.sched.counter + 1 ∧ s.sched.commit = .pending) ∧
    (let s := (aligned .locked 0 true (clocked 2047 false up)).updSched fun k => { k with commit := .pending }
     TrunkUp s ∧ s.align.state ≠ .free ∧ s.align.state ≠ .holdover ∧ s.sched.slotBegun = false ∧
       s.sched.activeBank.length ≤ s.sched.counter + 1 ∧ s.sched.commit = .pending) ∧
    (let s := aligned .locked 0 true (clocked 5 false up)
     TrunkUp s ∧ s.align.state ≠ .free ∧ s.sched.counter + 1 < s.sched.activeBank.length) ∧
    (TrunkUp up ∧ up.align.state = .free) := by
  unfold TrunkUp; decide +kernel

theorem witness_RaiseIsTakenByTheNoticeList :
    (let s := up.updAgent fun a => { a with noticeMask := 0x1F7 }
     maskAllows s.agent.noticeMask Notice.alignLost.kind = false) ∧
    (maskAllows up.agent.noticeMask Notice.alignLost.kind = true ∧
      ∀ r ∈ up.agent.notices, r.first.kind ≠ Notice.alignLost.kind) ∧
    (let s := raise .alignLost (raise .trunkGrammar up)
     s.agent.notices = [{ first := .trunkGrammar, count := 1, counter := 0 }] ++
       { first := .alignLost, count := 1, counter := 0 } :: [] ∧
     ∀ x ∈ [({ first := .trunkGrammar, count := 1, counter := 0 } : NoticeRecord)], x.first.kind ≠ Notice.alignLost.kind) := by
  decide +kernel

theorem witness_TributaryDownAndUp :
    (let s := framing 2 .header 0 none 0 [0x02] up
     Serving 2 s ∧ (s.framer 2).receiving = true ∧ (s.framer 2).desc = some 0 ∧ (s.store.desc 0).state = .filling ∧
       (s.store.desc 0).origin = some (.tributary 2)) ∧
    (Serving 3 up ∧ (up.framer 3).receiving = false) ∧ (State.reset.port 3).rx.up = false ∧
    (let s := up.updPort 3 fun q => { q with config := { q.config with enabled := false } }
     s.resetHeld = false ∧ (s.port 3).rx.up = true ∧ (s.port 3).config.enabled = false) := by
  unfold Serving; decide +kernel

theorem witness_RunsOfWordsMakeTheReports :
    (DecodedOnTrunk .rxMark ∧ DecodedOnTrunk (.rxUndecodable (some 0x350)) ∧ DecodedAt 2 (.tribRxMark 2) ∧
      DecodedAt 2 (.tribRxIdle 2 (some 0x331))) ∧
    (let s := up.updTrunkRx fun r => { r with failedRun := 15 }
     s.resetHeld = false ∧ s.trunkRx.up = true ∧ countsAsDecoded none = false ∧ s.trunkRx.failedRun + 1 = 16) ∧
    (let s := up.updTrunkRx fun r => { r with failedRun := 14 }
     s.trunkRx.up = true ∧ s.trunkRx.failedRun + 1 < 16) ∧
    (let s := State.reset.updTrunkRx fun r => { r with decodedRun := 62 }
     s.trunkRx.up = false ∧ s.trunkRx.decodedRun + 1 < 64) ∧
    (let s := State.reset.updTrunkRx fun r => { r with decodedRun := 63 }
     s.resetHeld = false ∧ s.trunkRx.up = false ∧ s.trunkRx.decodedRun + 1 = 64) ∧
    (State.reset.trunkRx.up = false ∧ countsAsDecoded (some 0x352) = false) ∧
    (let s := updPortRx 3 (fun r => { r with failedRun := 15 }) up
     s.resetHeld = false ∧ (s.port 3).rx.up = true ∧ (s.port 3).rx.failedRun + 1 = 16) ∧
    (let s := updPortRx 3 (fun r => { r with failedRun := 14 }) up
     (s.port 3).rx.up = true ∧ (s.port 3).rx.failedRun + 1 < 16) ∧
    (let s := updPortRx 0 (fun r => { r with decodedRun := 62 }) State.reset
     (s.port 0).rx.up = false ∧ (s.port 0).rx.decodedRun + 1 < 64) ∧
    (let s := updPortRx 0 (fun r => { r with decodedRun := 63 }) State.reset
     s.resetHeld = false ∧ (s.port 0).rx.up = false ∧ (s.port 0).rx.decodedRun + 1 = 64) ∧
    (let s := (framing 1 .header 0 none 0 [1] up).updPort 1 fun q => { q with framer := { q.framer with gap := 2047 } }
     (s.port 1).serving = true ∧ (s.framer 1).receiving = true ∧
       (s.port 1).config.stallLimit ≤ (s.framer 1).gap + 1) := by
  refine ⟨⟨.inl ⟨.mark, rfl⟩, .inr ⟨_, by decide, rfl⟩, .inr (.inr (.inr (.inl rfl))),
    .inr (.inr (.inr (.inr (.inr ⟨_, by decide, rfl⟩))))⟩, ?_⟩
  decide +kernel

/-- Few descriptors and cells left free. -/
def scarce (d c : Nat) (s : State) : State :=
  s.updStore fun st => { st with freeDescs := st.freeDescs.take d, freeCells := st.freeCells.take c }

theorem witness_OpenTakesADescriptor :
    (let s := scarce 3 34 up
     TrunkUp s ∧ s.rx.mode = .resync ∧ s.store.freeDescs = 0 :: [1, 2] ∧ 3 ≤ s.store.freeDescs.length ∧
       34 ≤ s.store.freeCells.length) ∧
    (let s := after (.rxOpen 4) up
     TrunkUp s ∧ s.rx.mode = .normal ∧
       grammarStep (.opened 2) s.rx.stack = some [⟨2, .active⟩, ⟨4, .suspended⟩]) ∧
    (TrunkUp (scarce 2 34 up) ∧ (scarce 2 34 up).store.freeDescs.length < 3) ∧
    (TrunkUp (scarce 3 33 up) ∧ (scarce 3 33 up).store.freeCells.length < 34) := by
  unfold TrunkUp; decide +kernel

theorem witness_QuietSymbols :
    (let s := run [.rxOpen 4, .rxPause] up
     TrunkUp s ∧ s.rx.mode = .normal ∧ grammarStep (.resume 4) s.rx.stack = some [⟨4, .active⟩] ∧
       grammarStep .idle s.rx.stack = some [⟨4, .suspended⟩]) ∧
    (let s := after (.rxOpen 4) up
     TrunkUp s ∧ s.rx.mode = .normal ∧ grammarStep .pause s.rx.stack = some [⟨4, .suspended⟩] ∧
       grammarStep .fill s.rx.stack = some [⟨4, .active⟩]) ∧
    (TrunkUp up ∧ up.rx.mode = .resync ∧ countsAsDecoded (some 0x350) = true) := by
  unfold TrunkUp; decide +kernel

theorem witness_IllegalSymbolIsAViolation :
    (let s := run [.rxOpen 4, .rxData 1] up
     TrunkUp s ∧ s.rx.mode = .normal ∧ grammarStep (.opened 4) s.rx.stack = none ∧ grammarStep .idle s.rx.stack = none ∧
       (s.context 4).storage = some 0 ∧ countsAsDecoded none = false ∧ s.trunkRx.failedRun + 1 < Config.downRun) := by
  unfold TrunkUp; decide +kernel

/-- A context of a frame whose header is complete and to which no byte is missing. -/
def whole (y : Disposition) (check : BitVec 16) : Context :=
  { storage := none, received := 9, check := check, header := some ⟨0x0201, 0x0005, 0x10, 0⟩, disposition := y }

theorem witness_DataByteIsTakenOrPassedOver :
    (let s := receiving 4 { Context.closed with disposition := .discard .reset } [] up
     TrunkUp s ∧ s.rx.mode = .normal ∧ s.rx.stack = [⟨4, .active⟩] ∧ (s.context 4).disposition.isDiscard = true) ∧
    (let s := receiving 4 (whole .toAgent 0) shortFrame up
     TrunkUp s ∧ s.rx.mode = .normal ∧ s.rx.stack = [⟨4, .active⟩] ∧ (s.context 4).disposition.isDiscard = false ∧
       (s.context 4).isFull = true) ∧
    (let s := receiving 4 { Context.closed with received := 5 } [1, 2, 3, 4, 5] up
     TrunkUp s ∧ s.rx.mode = .normal ∧ s.rx.stack = [⟨4, .active⟩] ∧ (s.context 4).disposition.isDiscard = false ∧
       (s.context 4).isFull = false ∧ (s.context 4).storage = some 0 ∧ (s.store.lineByte 0 6).isSome = true ∧
       (s.context 4).received ≠ 6) ∧
    (let s := scarce 3 34 (after (.rxOpen 4) up)
     TrunkUp s ∧ s.rx.mode = .normal ∧ s.rx.stack = [⟨4, .active⟩] ∧ (s.context 4).disposition.isDiscard = false ∧
       (s.context 4).isFull = false ∧ (s.context 4).storage = some 0 ∧ s.store.lineByte 0 6 = none) := by
  unfold TrunkUp; decide +kernel

theorem witness_HeaderDecidesTheDisposition :
    (let s := receiving 4 { Context.closed with received := 6 } [0x02, 0x01, 0x00, 0x05, 0x10, 0x04] up
     TrunkUp s ∧ s.rx.mode = .normal ∧ s.rx.stack = [⟨4, .active⟩] ∧ (s.context 4).disposition = .awaitHeader ∧
       (s.context 4).header = none ∧ (s.context 4).storage = some 0 ∧ (s.context 4).received = 6 ∧
       ((s.store.lineByte 0 0).map fun st => (st.readHeader 0).len) = some 1024 ∧
       ((s.store.lineByte 0 1).map fun st => (st.readHeader 0).len) = some 1025) := by
  unfold TrunkUp; decide +kernel

theorem witness_TablesAreLookedUp :
    (routeAddresses (vset routesReset 63 ⟨true, 0x0201, 3⟩)).Nodup ∧
    (let k : Classifier := { Classifier.reset with
       entries := vset Classifier.reset.entries 31 { ClassEntry.reset with valid := true, ports := 0x8 } }
     (vget k.entries 31).matchesFrame 3 0x10 0x0005 = true ∧
       (∀ j, j < 31 → (vget k.entries j).matchesFrame 3 0x10 0x0005 = false) ∧
       ∀ i, (vget k.entries i).matchesFrame 0 0x10 0x0005 = false) := by decide +kernel

theorem witness_GoodFrameIsHandedOn :
    (let s := receiving 4 (whole .toAgent 0) shortFrame up
     TrunkUp s ∧ s.rx.mode = .normal ∧ s.rx.stack = [⟨4, .active⟩] ∧ (s.context 4).storage = some 0 ∧
       (s.context 4).isFull = true ∧ (s.context 4).check = 0 ∧ (s.store.desc 0).refs = 0 ∧
       (s.context 4).disposition = .toAgent ∧ s.agent.inbox.length < 4 ∧
       4 ≤ (s.updAgent fun a => { a with inbox := [1, 2, 3, 4] }).agent.inbox.length) ∧
    (let s := receiving 4 (whole (.toPorts (portSingle 3)) 0) shortFrame up
     (s.context 4).disposition = .toPorts (portSingle 3) ∧ (s.port 3).serving = true ∧
       (s.port 3).delivery.length < 32) ∧
    (let s := receiving 4 (whole (.toPorts (portSingle 3)) 0) shortFrame State.reset
     (s.context 4).disposition = .toPorts (portSingle 3) ∧ (s.port 3).serving = false) := by
  unfold TrunkUp; decide +kernel

theorem witness_RejectedFrameIsReleased :
    (let s := receiving 4 (whole .toAgent 1) shortFrame up
     TrunkUp s ∧ s.rx.mode = .normal ∧ s.rx.stack = [⟨4, .active⟩] ∧ (s.context 4).disposition = .toAgent ∧
       (s.context 4).isFull = true ∧ (s.context 4).check ≠ 0) ∧
    (let s := receiving 4 { whole (.toPorts 0) 0 with received := 8 } shortFrame up
     (s.context 4).disposition = .toPorts 0 ∧ (s.context 4).isFull = false) ∧
    (let s := receiving 4 Context.closed [] up
     (s.context 4).disposition = .awaitHeader) ∧
    (let s := receiving 4 { Context.closed with disposition := .discard .unrouted } [] up
     (s.context 4).disposition.isDiscard = true) := by
  unfold TrunkUp; decide +kernel

theorem witness_TakesAndReleases :
    (let st := (scarce 3 34 up).store
     st.freeDescs = 0 :: [1, 2] ∧ 3 ≤ st.freeDescs.length ∧ 34 ≤ st.freeCells.length) ∧
    (let st := (scarce 2 35 up).store
     st.freeCells = 0 :: st.freeCells.tail ∧ 2 ≤ st.freeDescs.length ∧ 35 ≤ st.freeCells.length ∧
       st.freeDescs.length < 3) ∧
    (let st := (scarce 1 34 up).store
     st.freeDescs.length < 2 ∧ st.freeCells.length < 35 ∧ st.freeDescs = 0 :: [] ∧ 34 ≤ st.freeCells.length ∧
       st.freeCells.length < 35) := by decide +kernel

theorem witness_StoredBytesReadBack :
    (let st := (put 0 .filling .trunk none 0 (List.replicate 64 0x11) up).store
     Memory.wf st.cells = true ∧ (st.desc 0).chain.length = cellsFor (st.desc 0).stored ∧
       (st.lineByte 0 0x5A).isSome = true ∧ (st.desc 0).stored = 64) ∧
    (let st := (put 0 .filling .trunk none 0 [] up).store
     Memory.wf st.cells = true ∧ (st.desc 0).chain.Nodup ∧ (List.replicate 64 (0x11 : Byte)).length ≤ (st.desc 0).chain.length * 64) := by
  decide +kernel

theorem witness_FailureActsOnItsHolder :
    (let s := put 0 .complete (.tributary 2) (some 3) 1 longFrame up
     (s.store.desc 0).state ≠ .filling) ∧
    (let s := framing 2 .header 0 none 0 [0x02] up
     (s.store.desc 0).state = .filling ∧ (s.store.desc 0).refs = 0 ∧ s.store.queued 0 = false ∧
       (s.store.desc 0).origin = some (.tributary 2) ∧ (s.framer 2).desc = some 0) ∧
    (let s := (framing 2 .body 0 (some 5) 1 shortFrame up).updStore fun st => { st with queues := vset st.queues 5 [0] }
     (s.store.desc 0).state = .filling ∧ (s.store.desc 0).refs = 1 ∧ (s.store.desc 0).cls = some 5 ∧
       0 ∈ s.store.queue 5) ∧
    (let s := onTrunk .filling id
     (s.store.desc 0).state = .filling ∧ (s.store.desc 0).refs ≠ 0 ∧ s.store.queued 0 = false) ∧
    (let s := receiving 4 Context.closed [] up
     (s.store.desc 0).state = .filling ∧ ∀ p, (s.store.desc 0).origin ≠ some (.tributary p)) := by decide +kernel

theorem witness_StartTakesADescriptor :
    (let s := scarce 3 34 up
     Serving 1 s ∧ (s.framer 1).state = .idle ∧ s.store.freeDescs = 0 :: [1, 2] ∧ 34 ≤ s.store.freeCells.length) ∧
    (let s := updFramer 3 (fun f => { f with state := .discard }) (scarce 2 100 up)
     Serving 3 s ∧ (s.framer 3).state = .discard ∧ s.store.freeDescs.length < 3) ∧
    (let s := scarce 100 33 up
     Serving 1 s ∧ s.store.freeCells.length < 34) ∧ countsAsDecoded (some 0x300) = true := by
  unfold Serving; decide +kernel

theorem witness_TributaryByteIsStored :
    (Serving 1 up ∧ (up.framer 1).receiving = false) ∧
    (let s := framing 1 .body 0 (some 5) 1 shortFrame up
     Serving 1 s ∧ (s.framer 1).receiving = true ∧ (s.framer 1).desc = some 0 ∧ (s.store.desc 0).isFull = true) ∧
    (let s := scarce 3 34 (after (.tribRxStart 1) up)
     Serving 1 s ∧ (s.framer 1).receiving = true ∧ (s.framer 1).desc = some 0 ∧ (s.store.desc 0).isFull = false ∧
       s.store.lineByte 0 7 = none) ∧
    (let s := framing 1 .header 0 none 0 [1, 2, 3, 4, 5] up
     Serving 1 s ∧ (s.framer 1).receiving = true ∧ (s.framer 1).desc = some 0 ∧ (s.store.desc 0).isFull = false ∧
       (s.store.lineByte 0 7).isSome = true ∧ (s.store.desc 0).stored ≠ 6) := by
  unfold Serving; decide +kernel

theorem witness_StationHeaderIsAdmittedOrDropped :
    (let s := framing 1 .header 0 none 0 [0x02, 0x01, 0x00, 0x05, 0x10, 0x00] up
     Serving 1 s ∧ (s.framer 1).state = .header ∧ (s.framer 1).desc = some 0 ∧ (s.store.desc 0).header = none ∧
       (s.store.desc 0).stored = 6 ∧ (s.store.lineByte 0 0).isSome = true) := by
  unfold Serving; decide +kernel

theorem witness_FrameEndsAndGaps :
    (Serving 1 up ∧ (up.framer 1).receiving = false ∧ NoReport 1 true up) ∧
    (let s := framing 1 .body 9 (some 5) 1 shortFrame up
     Serving 1 s ∧ (s.framer 1).receiving = true ∧ (s.framer 1).desc = some 0 ∧ (s.store.desc 0).isFull = true ∧
       (s.framer 1).check ≠ 0 ∧ (s.framer 1).gap + 1 < (s.port 1).config.stallLimit) ∧
    (let s := framing 1 .body 0 (some 5) 1 shortFrame up
     (s.framer 1).check = 0 ∧ (s.store.desc 0).refs ≠ 0) ∧
    (let s := framing 1 .body 0 none 0 shortFrame up
     (s.framer 1).check = 0 ∧ (s.store.desc 0).refs = 0 ∧ (s.store.desc 0).isFull = true) ∧
    (let s := (framing 1 .header 0 none 0 [1] up).updPort 1 fun q =>
       { q with rx := { q.rx with failedRun := 14 }, framer := { q.framer with gap := 2047 } }
     Serving 1 s ∧ NoReport 1 (countsAsDecoded none) s ∧ (s.framer 1).receiving = true ∧ (s.framer 1).desc = some 0 ∧
       (s.store.desc 0).isFull = false ∧ (s.port 1).config.stallLimit ≤ (s.framer 1).gap + 1) := by
  unfold Serving NoReport; decide +kernel

theorem witness_TransmitterSendsTheQueueInOrder :
    (State.reset.resetHeld = false ∧ (State.reset.port 0).serving = false) ∧
    (let s := up.updPort 0 fun q => { q with markPending := true }
     s.resetHeld = false ∧ (s.port 0).serving = true ∧ (s.port 0).displaced = none ∧ (s.port 0).markPending = true ∧
       (s.port 0).sending = none ∧ (s.port 0).delivery = []) ∧
    (let s := (put 0 .complete .trunk none 1 shortFrame up).updPort 3 fun q =>
       { q with delivery := [0], markPending := true }
     (s.port 3).serving = true ∧ (s.port 3).displaced = none ∧ (s.port 3).markPending = true ∧
       (s.port 3).sending = none ∧ (s.port 3).delivery = 0 :: []) ∧
    (let s := (put 0 .complete .trunk none 1 shortFrame up).updPort 3 fun q =>
       { q with sending := some ⟨0, 8⟩, markPending := true }
     (s.port 3).serving = true ∧ (s.port 3).displaced = none ∧ (s.port 3).markPending = true ∧
       (s.port 3).sending = some { desc := 0, sent := 8 }) ∧
    (let s := (put 0 .complete .trunk none 1 shortFrame up).updPort 3 fun q =>
       { q with sending := some ⟨0, 8⟩, displaced := some (.data 0x5A) }
     (s.port 3).serving = true ∧ (s.port 3).displaced = some (.data 0x5A) ∧ (s.port 3).markPending = false ∧
       (s.port 3).sending = some { desc := 0, sent := 8 }) ∧
    (let s := (put 0 .complete .trunk none 1 shortFrame up).updPort 3 fun q =>
       { q with sending := some ⟨0, 9⟩, displaced := some .ended }
     (s.port 3).serving = true ∧ (s.port 3).displaced = some .ended ∧ (s.port 3).markPending = false ∧
       (s.port 3).sending = some { desc := 0, sent := 9 }) ∧
    (let s := up.updPort 3 fun q => { q with displaced := some .idle, markPending := true }
     (s.port 3).serving = true ∧ (s.port 3).displaced = some .idle ∧ (s.port 3).markPending = true) ∧
    ((up.port 3).serving = true ∧ (up.port 3).displaced = none ∧ (up.port 3).markPending = false ∧
      (up.port 3).sending = none ∧ (up.port 3).delivery = []) ∧
    (let s := (put 0 .complete .trunk none 1 shortFrame up).updPort 3 fun q => { q with delivery := [0] }
     (s.port 3).serving = true ∧ (s.port 3).markPending = false ∧ (s.port 3).sending = none ∧
       (s.port 3).delivery = 0 :: []) ∧
    (let s := (put 0 .complete .trunk none 1 shortFrame up).updPort 3 fun q => { q with sending := some ⟨0, 8⟩ }
     (s.port 3).serving = true ∧ (s.port 3).markPending = false ∧ (s.port 3).sending = some { desc := 0, sent := 8 } ∧
       8 < (s.store.desc 0).frameBytes ∧ (s.store.desc 0).frameBytes ≤ 9) := by decide +kernel

theorem witness_BuilderAlternates :
    (let s := up.updAgent fun a => { a with builder := .waitingStore }
     s.resetHeld = false ∧ s.agent.builder ≠ .idle) := by decide +kernel

/-- A notice waits, and the notice destination is set. -/
def noticed (s : State) : State := (raise .alignLost s).updAgent fun a => { a with noticeDest := 0x0700 }

theorem witness_NoticeIsBuiltFromTheHeadRecord :
    (let s := noticed (scarce 0 512 up)
     s.resetHeld = false ∧ s.agent.notices = { first := .alignLost, count := 1, counter := 0 } :: [] ∧
       s.store.agentClaim 1 = none ∧ s.agent.builder = .idle ∧ chosenJob s = some .notice) ∧
    (let s := noticed (scarce 1 1 up)
     s.resetHeld = false ∧ (s.store.agentClaim 1).isSome = true ∧ s.agent.builder = .idle ∧ chosenJob s = some .notice) ∧
    (let s := (noticed up).updAgent fun a => { a with builder := .waitingStore, job := some .notice }
     s.agent.notices ≠ [] ∧ (s.store.agentClaim 1).isSome = true ∧ s.agent.builder = .waitingStore ∧
       s.agent.job = some .notice) := by decide +kernel

/-! #### Requests -/

/-- What RequestTaken asks, for the request that asked puts in descriptor 0 and a claim that gives descriptor d. -/
def takenFor (d : DescId) (s : State) : Bool :=
  !s.resetHeld && decide (s.agent.builder = .idle) && decide (chosenJob s = some .reply) &&
    decide (s.agent.inbox = [0]) && (s.store.request 0).answerable &&
    decide ((s.store.agentClaim (replyCells (s.store.request 0) s.agent.replay)).map Prod.fst = some d)

theorem taken_of {d : DescId} {s : State} (h : takenFor d s = true) : RequestTaken 0 d [] (s.store.request 0) s := by
  simp only [takenFor, Bool.and_eq_true, decide_eq_true_eq, Bool.not_eq_true'] at h
  obtain ⟨⟨⟨⟨⟨h1, h2⟩, h3⟩, h4⟩, h5⟩, h6⟩ := h
  exact ⟨h1, h2, h3, h4, rfl, h5, h6⟩

/-- What RequestReady asks of it. -/
def readyFor (k : RequestRow) (d : DescId) (s : State) : Bool :=
  takenFor d s && decide ((s.store.request 0).row = some k)

theorem ready_of {k : RequestRow} {d : DescId} {s : State} (h : readyFor k d s = true) :
    RequestReady k 0 d [] (s.store.request 0) s := by
  simp only [readyFor, Bool.and_eq_true, decide_eq_true_eq] at h
  exact ⟨taken_of h.1, h.2⟩

/-- Entries that a WRITE of one entry carries. -/
theorem entries_of {α : Type} {r : Request} {size : Nat} {f : Nat → List Byte → Option α}
    (h : (decodeEntries r size f r.count).isSome = true) : ∃ es, EntriesAre r size f es :=
  (Option.isSome_iff_exists.1 h).imp fun es he => (decodeEntries_eq_some r size f r.count es).1 he

/-- A request has been executed for requester 0x0400 with sequence number 7. -/
def replayed (kind : Byte) (s : State) : State :=
  updReplay (fun _ => [{ requester := 0x0400, seq := 7, kind := kind, status := .pending, replayed := false }]) s

theorem witness_UnservedRequests :
    (let s := asked 0x81 0 0 0 [] up
     s.resetHeld = false ∧ s.agent.builder = .idle ∧ chosenJob s = some .reply ∧ s.agent.inbox = 0 :: [] ∧
       (s.store.request 0).answerable = false) ∧
    (let s := scarce 0 512 (asked 1 0 0 0 [] up)
     s.resetHeld = false ∧ (s.store.request 0).answerable = true ∧ s.agent.builder = .idle ∧
       chosenJob s = some .reply ∧ s.agent.inbox = 0 :: [] ∧
       s.store.agentClaim (replyCells (s.store.request 0) s.agent.replay) = none) ∧
    (let s := (asked 1 0 0 0 [] up).updAgent fun a =>
       { a with inbox := [], inHand := some 0, builder := .waitingStore, job := some .reply }
     s.resetHeld = false ∧ (s.store.request 0).answerable = true ∧ s.agent.builder = .waitingStore ∧
       s.agent.job = some .reply ∧ s.agent.inHand = some 0 ∧ (s.store.request 0).row = some .query ∧
       (s.store.agentClaim (replyCells (s.store.request 0) s.agent.replay)).isSome = true) ∧
    (let s := (asked 9 0 0 0 [0x02, 0x00] up).updAgent fun a =>
       { a with inbox := [], inHand := some 0, builder := .waitingStore, job := some .reply }
     (s.store.request 0).answerable = true ∧ (s.store.request 0).row = none ∧
       (s.store.agentClaim (replyCells (s.store.request 0) s.agent.replay)).isSome = true) ∧
    (let s := scarce 1 0 ((asked 1 0 0 0 [] up).updAgent fun a =>
       { a with inbox := [], inHand := some 0, builder := .waitingStore, job := some .reply })
     s.agent.builder = .waitingStore ∧ s.agent.inHand = some 0 ∧
       s.store.agentClaim (replyCells (s.store.request 0) s.agent.replay) = none) := by decide +kernel

theorem witness_ReadyRequestIsAnswered :
    (let s := asked 1 0 0 0 [] up
     RequestReady .query 0 1 [] (s.store.request 0) s ∧ RequestRow.query ≠ .trafficReset ∧
       RequestRow.query ≠ .readCountersClear ∧ Fresh (s.store.request 0) s ∧
       (s.store.agentClaim (replyCells (s.store.request 0) s.agent.replay)).map Prod.fst = some 1) ∧
    (let s := asked 10 0 0 0 [0x00] up
     RequestReady .trafficReset 0 1 [] (s.store.request 0) s ∧ (s.store.request 0).preCheck ≠ .ok) ∧
    (let s := asked 9 0 0 0 [0x02, 0x00] up
     RequestTaken 0 1 [] (s.store.request 0) s ∧ (s.store.request 0).row = none ∧ Fresh (s.store.request 0) s) ∧
    (let s := replayed 9 (asked 9 0 0 0 [0x02, 0x00] up)
     RequestTaken 0 1 [] (s.store.request 0) s ∧ (s.store.request 0).row = none ∧ ¬ Fresh (s.store.request 0) s) := by
  refine ⟨⟨ready_of (by decide +kernel), by decide, by decide, ?_, by decide +kernel⟩,
    ⟨ready_of (by decide +kernel), by decide +kernel⟩, ⟨taken_of (by decide +kernel), by decide +kernel, ?_⟩,
    taken_of (by decide +kernel), by decide +kernel, ?_⟩ <;> unfold Fresh <;> decide +kernel

theorem witness_ReplayIsAnsweredWithoutExecution :
    (let s := replayed 4 (asked 4 0 0 0 [] up)
     RequestReady .commit 0 1 [] (s.store.request 0) s ∧
       replayEntry (s.store.request 0) s.agent.replay =
         some { requester := 0x0400, seq := 7, kind := 4, status := .pending, replayed := false }) :=
  ⟨ready_of (by decide +kernel), by decide +kernel⟩

theorem witness_RefusedRequestHasNoEffect :
    (let s := asked 5 0 0 0 [] up
     (perform (s.store.request 0) s).status ≠ .ok) ∧
    ((asked 11 0 0 0 [] up).store.request 0).preCheck = .badKind ∧ kindOf 11 = none ∧
    (let r := (asked 2 9 0 1 [] up).store.request 0
     kindOf r.kind = some .read ∧ tableOf r.table = none ∧ r.preCheck ≠ .ok) ∧
    (let r := (asked 2 3 6 0 [] up).store.request 0
     kindOf r.kind = some .read ∧ tableOf r.table = some .classPolicy ∧ r.len - 6 = 0 ∧ r.count = 0) ∧
    (let r := (asked 3 3 5 1 [0, 0] up).store.request 0
     kindOf r.kind = some .write ∧ tableOf r.table = some .classPolicy ∧ r.len - 6 ≠ r.count * 3) ∧
    (let r := (asked 3 3 6 1 [0, 0, 1] up).store.request 0
     kindOf r.kind = some .write ∧ tableOf r.table = some .classPolicy ∧ r.len - 6 = r.count * 3 ∧ 6 < r.index + r.count) ∧
    (let r := (asked 3 8 31 1 [0, 0, 0, 0] up).store.request 0
     kindOf r.kind = some .write ∧ tableOf r.table = some .hits ∧ r.len - 6 = r.count * 4 ∧ 1 ≤ r.count ∧
       r.index + r.count ≤ 32) ∧
    (let r := (asked 9 0 0 0 [0x00, 0x06] up).store.request 0
     kindOf r.kind = some .flush ∧ r.len - 6 = 2 ∧ r.preCheck = .ok ∧ (byteAt r.params 1).toNat = 6) ∧
    (let r := (asked 3 4 0 2 [1, 2, 1, 0, 1, 2, 1, 1] up).store.request 0
     kindOf r.kind = some .write ∧ tableOf r.table = some .route ∧ r.preCheck = .ok ∧
       (perform r up).status = .duplicate) := by decide +kernel

/-- A WRITE of each table that passes check 6, and one that fails it on its entry. -/
theorem witness_RefusedRequestHasNoEffect_writes :
    (let r := (asked 3 1 31 1 [0x8F, 0x10, 0xFF, 0x01, 0x04, 0x00, 0x80] up).store.request 0
     r.preCheck = .ok ∧ ∃ es, EntriesAre r 7 (fun _ bs => classEntryOf bs) es) ∧
    (let r := (asked 3 1 31 1 [0x10, 0x10, 0xFF, 0x01, 0x04, 0x00, 0x80] up).store.request 0
     r.preCheck = .ok ∧ kindOf r.kind = some .write ∧ tableOf r.table = some .classify ∧
       (perform r up).status = .badValue) ∧
    (let r := (asked 3 4 0 2 [1, 2, 1, 0, 1, 2, 1, 1] up).store.request 0
     r.preCheck = .ok ∧ ∃ es, EntriesAre r 4 (fun _ bs => routeOf up.agent.address bs) es ∧
       SameAddressTwice (routesAfter r es up)) ∧
    (let r := (asked 3 7 0 1 [0x00, 0x07, 0xFF, 0x01] up).store.request 0
     r.preCheck = .ok ∧ kindOf r.kind = some .write ∧ tableOf r.table = some .scheduleStandby ∧
       up.sched.commit = .idle ∧ (perform r up).status = .badValue) := by
  refine ⟨⟨by decide +kernel, entries_of (by decide +kernel)⟩, by decide +kernel, ⟨by decide +kernel, ?_⟩,
    by decide +kernel⟩
  refine ⟨[⟨true, 0x0201, 0⟩, ⟨true, 0x0201, 1⟩], (decodeEntries_eq_some _ _ _ _ _).1 (by decide +kernel), 0, 1, ?_⟩
  decide +kernel

theorem witness_ReadingRequests :
    (let s := asked 1 0 0 0 [] up
     RequestReady .query 0 1 [] (s.store.request 0) s ∧ (s.store.request 0).preCheck = .ok ∧
       kindOf (s.store.request 0).kind = some .query) ∧
    (let s := asked 2 4 63 1 [] up
     RequestReady .read 0 1 [] (s.store.request 0) s ∧ (s.store.request 0).preCheck = .ok ∧
       kindOf (s.store.request 0).kind = some .read ∧ tableOf (s.store.request 0).table = some .route) ∧
    (let s := asked 8 0 0 0 [0x00] up
     RequestReady .readCounters 0 1 [] (s.store.request 0) s ∧ (s.store.request 0).preCheck = .ok ∧
       kindOf (s.store.request 0).kind = some .readCounters) ∧
    (let s := asked 3 8 0 1 [0, 0, 0, 0] up
     RequestReady .writeReadOnlyTable 0 1 [] (s.store.request 0) s) :=
  ⟨⟨ready_of (by decide +kernel), by decide +kernel⟩, ⟨ready_of (by decide +kernel), by decide +kernel⟩,
    ⟨ready_of (by decide +kernel), by decide +kernel⟩, ready_of (by decide +kernel)⟩

/-- The request of asked is ready in row k, no replay, and passes the checks 1 to 5. -/
def goodFor (k : RequestRow) (s : State) : Bool :=
  readyFor k 1 s && decide (replayEntry (s.store.request 0) s.agent.replay = none) &&
    decide ((s.store.request 0).preCheck = .ok)

theorem good_of {k : RequestRow} {s : State} (h : goodFor k s = true) :
    RequestReady k 0 1 [] (s.store.request 0) s ∧ Fresh (s.store.request 0) s ∧ (s.store.request 0).preCheck = .ok := by
  simp only [goodFor, Bool.and_eq_true, decide_eq_true_eq] at h
  exact ⟨ready_of h.1.1, h.1.2, h.2⟩

theorem witness_WriteReachesItsTable :
    (let s := asked 3 1 31 1 [0x8F, 0x10, 0xFF, 0x01, 0x04, 0x00, 0x80] up
     goodFor .writeClassify s = true ∧ ∃ es, EntriesAre (s.store.request 0) 7 (fun _ bs => classEntryOf bs) es) ∧
    (let s := asked 3 2 3 1 [0x80] up
     goodFor .writePortDefault s = true ∧
       ∃ es, EntriesAre (s.store.request 0) 1 (fun _ bs => actionOf (byteAt bs 0)) es) ∧
    (let s := asked 3 3 5 1 [0x00, 0x01, 0x80] up
     goodFor .writeClassPolicy s = true ∧ ∃ es, EntriesAre (s.store.request 0) 3 (fun _ bs => classPolicyOf bs) es) ∧
    (let s := asked 3 4 63 1 [0x01, 0x02, 0x01, 0x03] up
     goodFor .writeRoute s = true ∧
       ∃ es, EntriesAre (s.store.request 0) 4 (fun _ bs => routeOf s.agent.address bs) es) ∧
    (let s := asked 3 5 3 1 [0x02, 0x00, 0x10] up
     goodFor .writePortConfig s = true ∧ ∃ es, EntriesAre (s.store.request 0) 3 (fun _ bs => portConfigOf bs) es) ∧
    (let s := asked 3 7 16 1 [0x0F, 0xFF, 0xFF, 0x3F] up
     goodFor .writeScheduleStandby s = true ∧
       ∃ es, EntriesAre (s.store.request 0) 4
         (fun j bs => scheduleEntryOf ((s.store.request 0).index + j) bs) es) :=
  ⟨⟨by decide +kernel, entries_of (by decide +kernel)⟩, ⟨by decide +kernel, entries_of (by decide +kernel)⟩,
    ⟨by decide +kernel, entries_of (by decide +kernel)⟩, ⟨by decide +kernel, entries_of (by decide +kernel)⟩,
    ⟨by decide +kernel, entries_of (by decide +kernel)⟩, by decide +kernel, entries_of (by decide +kernel)⟩

/-- An entry of each layout that a WRITE accepts, at the ends of its ranges. -/
theorem witness_WriteReachesItsTable_layouts :
    (let e : Route := ⟨true, 0x0001, 3⟩; e.address ≠ 0x0000 ∧ e.address ≠ 0xFFFF ∧ e.address ≠ (0xFE00 : Addr)) ∧
    classPolicyOf [0x01, 0x00, 0x80] = some ⟨true, false, 128⟩ ∧
    portConfigOf (layoutPortConfig ⟨true, false, 16⟩) = some ⟨true, false, 16⟩ ∧
    scheduleEntryOf 0 (layoutSchedule { Bank.reset with length := 1048576 } 0) = some (.header 1048576 1) ∧
    scheduleEntryOf 1 (layoutSchedule splitBank 1) = some (.window ⟨0, 0x3F⟩) := by decide +kernel

theorem witness_ScheduleAndAlignmentRequests :
    goodFor .commit (asked 4 0 0 0 [] up) = true ∧ goodFor .abandon (asked 5 0 0 0 [] up) = true ∧
      goodFor .setAlign (asked 6 0 0 0 [0x03, 0x01, 0xFF] up) = true ∧
      goodFor .setAlign (asked 6 0 0 0 [0x02, 0x07, 0x00] up) = true := by decide +kernel

theorem witness_SetGlobalAppliesItsFieldsTogether :
    goodFor .setGlobal (asked 7 0 0 0 [1, 0x02, 0x00, 1, 5, 1, 0x03, 0x00, 1, 0x00, 0x10, 1, 0x01, 0xFF] up) = true ∧
      goodFor .setGlobal (asked 7 0 0 0 [0, 0, 0, 2, 0, 0, 0, 0, 0, 0, 0, 0, 0, 0] up) = true := by decide +kernel

theorem witness_ClearingReadZeroesTheCounters :
    goodFor .readCountersClear (asked 8 0 0 0 [0x01] up) = true := by decide +kernel

/-! #### The invariants -/

theorem idles {s : State} (h : s.pending = []) : ∃ t, step s = .next t := ⟨s, by simp [step, h]⟩


/-- The descriptors of us, with one cell each, are the only ones off the free lists. -/
structure Placed (us : List DescId) (st : FrameStore) : Prop where
  freeDescs : ∀ d, d ∈ st.freeDescs ↔ d ∉ us
  nodup : st.freeDescs.Nodup
  freeCells : ∀ k, st.freeCells.count k = if k ∈ us.map cellOf then 0 else 1
  others : ∀ e, e ∉ us → st.desc e = Descriptor.unused
  chain : ∀ d ∈ us, (st.desc d).chain = [cellOf d]

/-- The descriptors of us are in use, and the holders of their references are as their counts say. -/
structure InUse (us : List DescId) (s : State) : Prop where
  placed : Placed us s.store
  state : ∀ d ∈ us, (s.store.desc d).state ≠ .free
  refs : ∀ e, (s.store.desc e).refs = s.holders e
  held : ∀ d ∈ us, FrameStore.ended (s.store.desc d).state = true → (s.store.desc d).refs ≠ 0
  queues : ∀ c, (s.store.queue c).Nodup ∧ ∀ e ∈ s.store.queue c, (s.store.desc e).cls = some c
  rest : s.il.hold = none ∧ (∀ p, s.framer p = Framer.reset) ∧ ∀ c, s.context c = Context.closed
  owed : ∀ r, s.agent.owed = some r → (s.store.desc r.desc).state = .filling ∧
    (s.store.desc r.desc).origin = some .agent ∧ (s.store.desc r.desc).refs = 0 ∧
    (s.store.desc r.desc).cls = none ∧ (s.store.desc r.desc).chain.length = 1

theorem cellOf_inj {d e : DescId} (h : cellOf d = cellOf e) : d = e := Fin.castLE_injective _ h

theorem InUse.storeOk {us : List DescId} {s : State} (h : InUse us s) : StoreOk s := by
  obtain ⟨⟨h1, h1', h2, h3, h4⟩, h5, h6, hn, h8, ⟨h10, h11, h12⟩, h13⟩ := h
  have free : ∀ e, (s.store.desc e).state = .free ↔ e ∉ us := by
    intro e
    by_cases he : e ∈ us
    · simp [h5 e he, he]
    · simp [h3 e he, he, Descriptor.unused]
  refine ⟨fun e => by rw [free, h1], h1', fun e he => h3 e ((free e).1 he), h6, ?_, fun c => (h8 c).2, fun c => (h8 c).1,
    ?_, ?_, ?_, ?_, ?_, h13, ?_⟩
  · intro e he
    by_cases hd : e ∈ us
    · exact hn e hd he
    · simp [h3 e hd, Descriptor.unused, FrameStore.ended] at he
  · intro x hx; simp [h10] at hx
  · intro p; rw [h11]; rfl
  · intro p e he; simp [h11, Framer.reset] at he
  · intro c e he; simp [h12, Context.closed] at he
  · intro c c' e he; simp [h12, Context.closed] at he
  · intro k
    have hc : ∀ e : DescId, (s.store.desc e).chain.count k = if e ∈ us ∧ cellOf e = k then 1 else 0 := by
      intro e
      by_cases he : e ∈ us
      · rw [h4 e he]; simp [he, List.count_singleton]
      · simp [h3 e he, he, Descriptor.unused]
    simp only [hc, h2]
    by_cases hk : k ∈ us.map cellOf
    · obtain ⟨d, hd, rfl⟩ := List.mem_map.1 hk
      rw [if_pos hk, Finset.sum_eq_single d]
      · simp [hd]
      · intro e _ he; rw [if_neg]; rintro ⟨_, h⟩; exact he (cellOf_inj h)
      · simp
    · have : ∀ e : DescId, (if e ∈ us ∧ cellOf e = k then 1 else 0) = 0 := fun e =>
        if_neg fun ⟨he, h⟩ => hk (h ▸ List.mem_map.2 ⟨e, he, rfl⟩)
      rw [if_neg hk, Finset.sum_eq_zero fun e _ => this e]; rfl

/-- The store after put. -/
theorem put_store (d : DescId) (y : DescState) (o : Origin) (c : Option Cls) (n : Nat) (bs : List Byte) (s : State) :
    (put d y o c n bs s).store.freeDescs = s.store.freeDescs.erase d ∧
      (put d y o c n bs s).store.freeCells = s.store.freeCells.erase (cellOf d) ∧
      (put d y o c n bs s).store.queues = s.store.queues ∧
      (∀ e, e ≠ d → (put d y o c n bs s).store.desc e = s.store.desc e) ∧
      ((put d y o c n bs s).store.desc d).chain = [cellOf d] ∧ ((put d y o c n bs s).store.desc d).state = y ∧
      ((put d y o c n bs s).store.desc d).refs = n ∧ ((put d y o c n bs s).store.desc d).cls = c ∧
      ((put d y o c n bs s).store.desc d).origin = some o := by
  unfold put
  simp only [State.updStore_store]
  set st : FrameStore := { s.store with
    descs := vset s.store.descs d { Descriptor.unused with state := y, origin := some o, cls := c, refs := n, chain := [cellOf d] }
    freeCells := s.store.freeCells.erase (cellOf d)
    freeDescs := s.store.freeDescs.erase d } with hst
  obtain ⟨w1, w2, w3⟩ := FrameStore.writeBytes_frame d 1 bs st
  obtain ⟨m, w4, w5⟩ := FrameStore.writeBytes_desc d 1 bs st
  have g4 : st.desc d = { Descriptor.unused with state := y, origin := some o, cls := c, refs := n, chain := [cellOf d] } := by
    simp [hst, FrameStore.desc]
  have g5 : ∀ e, e ≠ d → st.desc e = s.store.desc e := by
    intro e he
    simp [hst, FrameStore.desc, vget_vset_of_ne _ _ _ _ (Ne.symm he)]
  split
  · refine ⟨w2, w3, w1, fun e he => ?_, ?_, ?_, ?_, ?_, ?_⟩
    · rw [FrameStore.desc_updDesc, if_neg (Ne.symm he), w5 e he, g5 e he]
    all_goals rw [FrameStore.desc_updDesc_self, w4, g4]
  · refine ⟨w2, w3, w1, fun e he => ?_, ?_, ?_, ?_, ?_, ?_⟩
    · rw [w5 e he, g5 e he]
    all_goals rw [w4, g4]

theorem placed_reset : Placed [] FrameStore.reset :=
  ⟨by simp [FrameStore.reset], by simpa only [FrameStore.reset] using List.nodup_finRange 128,
    fun k => by simp [FrameStore.reset, List.count_eq_one_of_mem (List.nodup_finRange 512) (List.mem_finRange k)],
    by simp [FrameStore.reset, FrameStore.desc], by simp⟩

theorem Placed.put {us : List DescId} {s : State} (h : Placed us s.store) {d : DescId} (hd : d ∉ us) (y : DescState)
    (o : Origin) (c : Option Cls) (n : Nat) (bs : List Byte) : Placed (d :: us) (put d y o c n bs s).store := by
  obtain ⟨h1, h2, -, h4, h5, -⟩ := put_store d y o c n bs s
  refine ⟨fun e => ?_, ?_, fun k => ?_, fun e he => ?_, fun e he => ?_⟩
  · rw [h1, h.nodup.mem_erase_iff, h.freeDescs]; simp
  · rw [h1]; exact h.nodup.erase d
  · rw [h2]
    by_cases hk : k = cellOf d
    · have : cellOf d ∉ us.map cellOf := by
        rintro hm
        obtain ⟨e, he, hc⟩ := List.mem_map.1 hm
        exact hd (cellOf_inj hc ▸ he)
      subst hk
      rw [List.count_erase_self, h.freeCells, if_neg this]; simp
    · rw [List.count_erase_of_ne hk, h.freeCells]
      simp [hk]
  · simp only [List.mem_cons, not_or] at he
    rw [h4 e he.1]; exact h.others e he.2
  · by_cases hed : e = d
    · subst hed; exact h5
    · rw [h4 e hed]; exact h.chain e (by simpa [hed] using he)

/-- Other queues, over the same descriptors and cells. -/
theorem Placed.queued {us : List DescId} {st : FrameStore} (h : Placed us st) (qs : Vector (List DescId) 6) :
    Placed us { st with queues := qs } := ⟨h.freeDescs, h.nodup, h.freeCells, h.others, h.chain⟩

/-- Nothing is in use: no frame is stored, and nothing holds one. -/
structure Quiet (s : State) : Prop where
  store : s.store = FrameStore.reset
  il : s.il.stack = [] ∧ s.il.hold = none
  ports : ∀ p, s.framer p = Framer.reset ∧ (s.port p).delivery = [] ∧ (s.port p).sending = none
  contexts : ∀ c, s.context c = Context.closed
  agent : s.agent.owed = none ∧ s.agent.inHand = none ∧ s.agent.inbox = []

theorem Quiet.placed {s : State} (h : Quiet s) : Placed [] s.store := h.store ▸ placed_reset

theorem Quiet.queue {s : State} (h : Quiet s) (c : Cls) : s.store.queue c = [] := by
  rw [h.store]; simp [FrameStore.reset, FrameStore.queue]

theorem quiet_up : Quiet up := by
  refine ⟨by simp [up, State.reset, State.blocksReset], ⟨rfl, rfl⟩, fun p => ?_, fun c => ?_, rfl, rfl, rfl⟩
  · simp [State.framer, up, State.port, State.reset, State.blocksReset, Port.reset]
  · simp [State.context, up, State.reset, State.blocksReset, Deinterleaver.reset]

/-- A state in which a request waits, and nothing else is in use, obeys the store's invariants. -/
theorem asked_ok (kind table index count : Byte) (params : List Byte) {b : State} (q : Quiet b) :
    StoreOk (asked kind table index count params b) := by
  set bs := frameOf 0xFE00 0x0400 0x10 ([0x00, 0x07, kind, table, index, count] ++ params) with hbs
  have hst : (asked kind table index count params b).store = (put 0 .complete .trunk none 1 bs b).store := by
    simp [asked, hbs]
  obtain ⟨-, -, h3, h4, h5, h6, h7, h8, -⟩ := put_store 0 .complete .trunk none 1 bs b
  have hq : ∀ c, (asked kind table index count params b).store.queue c = [] := fun c => by
    rw [hst, FrameStore.queue, h3]; exact q.queue c
  refine InUse.storeOk (us := [0]) ⟨?_, ?_, fun e => ?_, ?_, fun c => by simp [hq],
    ⟨by simpa [asked, put] using q.il.2, fun p => ?_, fun c => ?_⟩, ?_⟩
  · rw [hst]; exact q.placed.put (by simp) _ _ _ _ _
  · intro d hd; obtain rfl : d = 0 := by simpa using hd
    simp [hst, h6]
  · have hp : ∀ p, (asked kind table index count params b).port p = b.port p := fun p => rfl
    have : (asked kind table index count params b).holders e = [0].count e := by
      simp only [State.holders, hp, hq, (q.ports _).2.1, (q.ports _).2.2]
      simp [asked, put, q.il.1, q.agent.2.1]
    rw [this, hst]
    by_cases he : e = 0
    · subst he; simp [h7]
    · rw [h4 e he, q.store]; simp [FrameStore.reset, FrameStore.desc, Descriptor.unused, Ne.symm he]
  · intro d hd; obtain rfl : d = 0 := by simpa using hd
    simp [hst, h7]
  · simpa [State.framer, State.port, asked, put] using (q.ports p).1
  · simpa [State.context, asked, put] using q.contexts c
  · intro r hr; simp [asked, put, q.agent.1] at hr

/-- Port 3 is disabled. -/
def without3 : State := up.updPort 3 fun q => { q with config := { q.config with enabled := false } }

theorem quiet_without3 : Quiet without3 := by
  have hp : ∀ p, (without3.port p).framer = (up.port p).framer ∧ (without3.port p).delivery = (up.port p).delivery ∧
      (without3.port p).sending = (up.port p).sending := by
    intro p
    simp only [without3, State.port, State.updPort, State.updPorts, vupd, vget_vset]
    by_cases h : 3 = p
    · subst h; simp
    · simp [h]
  refine ⟨quiet_up.store, quiet_up.il, fun p => ?_, quiet_up.contexts, quiet_up.agent⟩
  rw [State.framer, (hp p).1, (hp p).2.1, (hp p).2.2]; exact quiet_up.ports p

/-- A port stops serving, starts serving, and goes on serving by a WRITE_PORT_CONFIG. -/
theorem witness_WriteReachesItsTable_ports :
    (let s := asked 3 5 3 1 [0x02, 0x00, 0x10] up
     StoreOk s ∧ (s.port 3).serving = true ∧ ((after .writePortConfig s).port 3).serving = false) ∧
    (let s := asked 3 5 3 1 [0x01, 0x00, 0x10] without3
     StoreOk s ∧ goodFor .writePortConfig s = true ∧ (s.port 3).serving = false ∧
       ((after .writePortConfig s).port 3).serving = true) ∧
    (let s := asked 3 5 3 1 [0x03, 0x00, 0x10] up
     StoreOk s ∧ goodFor .writePortConfig s = true ∧ (s.port 3).serving = ((after .writePortConfig s).port 3).serving) :=
  ⟨⟨asked_ok _ _ _ _ _ quiet_up, by decide +kernel⟩, ⟨asked_ok _ _ _ _ _ quiet_without3, by decide +kernel⟩,
    asked_ok _ _ _ _ _ quiet_up, by decide +kernel⟩

theorem witness_FlushEmptiesItsQueue :
    (let s := asked 9 0 0 0 [0x00, 0x04] up
     StoreOk s ∧ goodFor .flushClassQueue s = true ∧ byteAt (s.store.request 0).params 1 = BitVec.ofNat 8 (4 : Cls).val) ∧
    (let s := asked 9 0 0 0 [0x01, 0x03] up
     StoreOk s ∧ goodFor .flushDeliveryQueue s = true ∧
       byteAt (s.store.request 0).params 1 = BitVec.ofNat 8 (3 : PortIx).val) :=
  ⟨⟨asked_ok _ _ _ _ _ quiet_up, by decide +kernel⟩, asked_ok _ _ _ _ _ quiet_up, by decide +kernel⟩

/-- A TRAFFIC_RESET waits in descriptor 0, which an entry of the Preemption Stack holds as well. -/
def resetOnTrunk : State :=
  stacked [entry 0 3] ((put 0 .complete .trunk none 2
    (frameOf 0xFE00 0x0400 0x10 [0x00, 0x07, 0x0A, 0, 0, 0]) up).updAgent fun a => { a with inbox := [0] })

theorem resetOnTrunk_ok : StoreOk resetOnTrunk := by
  set bs := frameOf 0xFE00 0x0400 0x10 [0x00, 0x07, 0x0A, 0, 0, 0] with hbs
  have hst : resetOnTrunk.store = (put 0 .complete .trunk none 2 bs up).store := by simp [resetOnTrunk, stacked, hbs]
  obtain ⟨-, -, h3, h4, h5, h6, h7, h8, -⟩ := put_store 0 .complete .trunk none 2 bs up
  have hq : ∀ c, resetOnTrunk.store.queue c = [] := fun c => by
    rw [hst, FrameStore.queue, h3]; exact quiet_up.queue c
  have hp : ∀ p, resetOnTrunk.port p = up.port p := by simp [State.port, resetOnTrunk, stacked, put]
  refine InUse.storeOk (us := [0]) ⟨?_, ?_, fun e => ?_, ?_, fun c => by simp [hq], ⟨rfl, fun p => ?_, fun c => ?_⟩, ?_⟩
  · rw [hst]; exact quiet_up.placed.put (by simp) _ _ _ _ _
  · intro d hd; obtain rfl : d = 0 := by simpa using hd
    simp [hst, h6]
  · have : resetOnTrunk.holders e = [0].count e + [0].count e := by
      simp only [State.holders, hp, hq, (quiet_up.ports _).2.1, (quiet_up.ports _).2.2]
      simp [resetOnTrunk, stacked, entry, put, up, State.reset, State.blocksReset, Agent.reset]
    rw [this, hst]
    by_cases he : e = 0
    · subst he; simp [h7]
    · rw [h4 e he, quiet_up.store]; simp [FrameStore.reset, FrameStore.desc, Descriptor.unused, Ne.symm he]
  · intro d hd; obtain rfl : d = 0 := by simpa using hd
    simp [hst, h7]
  · rw [State.framer, hp]; exact (quiet_up.ports p).1
  · exact quiet_up.contexts c
  · intro r hr; simp [resetOnTrunk, stacked, put, up, State.reset, State.blocksReset, Agent.reset] at hr

theorem witness_TrafficResetEmptiesTheDevice :
    (let s := asked 10 0 0 0 [] up
     StoreOk s ∧ MemoryOk s ∧ goodFor .trafficReset s = true ∧ s.il.stack = []) ∧
    StoreOk resetOnTrunk ∧ goodFor .trafficReset resetOnTrunk = true ∧ resetOnTrunk.il.stack ≠ [] := by
  refine ⟨⟨asked_ok _ _ _ _ _ quiet_up, ?_⟩, resetOnTrunk_ok, by decide +kernel⟩
  unfold MemoryOk; decide +kernel

theorem witness_ReplyFrameIsWritten :
    (let s := asked 9 0 0 0 [0x02, 0x00] up
     RequestTaken 0 1 [] (s.store.request 0) s ∧ StoreOk s ∧ MemoryOk s ∧ Fresh (s.store.request 0) s ∧
       (s.store.request 0).row ≠ some .trafficReset) ∧
    (let s := asked 2 4 63 1 [] up
     RequestReady .read 0 1 [] (s.store.request 0) s ∧ StoreOk s ∧ MemoryOk s ∧ RequestRow.read ≠ .trafficReset ∧
       Fresh (s.store.request 0) s ∧ (s.store.request 0).preCheck = .ok) ∧
    (let s := asked 8 0 0 0 [0x00] up
     RequestReady .readCounters 0 1 [] (s.store.request 0) s ∧ StoreOk s ∧ MemoryOk s ∧
       Fresh (s.store.request 0) s ∧ (s.store.request 0).preCheck = .ok) ∧
    (let s := asked 10 0 0 0 [0x00] up
     RequestReady .trafficReset 0 1 [] (s.store.request 0) s ∧ StoreOk s ∧ MemoryOk s ∧
       (s.store.request 0).preCheck ≠ .ok ∧ Fresh (s.store.request 0) s) ∧
    (let s := asked 4 0 0 0 [] (replayed 4 up)
     RequestReady .commit 0 1 [] (s.store.request 0) s ∧ StoreOk s ∧ MemoryOk s ∧ RequestRow.commit ≠ .trafficReset ∧
       replayEntry (s.store.request 0) s.agent.replay =
         some { requester := 0x0400, seq := 7, kind := 4, status := .pending, replayed := false }) := by
  have q : Quiet (replayed 4 up) :=
    ⟨quiet_up.store, quiet_up.il, quiet_up.ports, quiet_up.contexts, quiet_up.agent⟩
  refine ⟨⟨taken_of (by decide +kernel), asked_ok _ _ _ _ _ quiet_up, ?_⟩,
    ⟨ready_of (by decide +kernel), asked_ok _ _ _ _ _ quiet_up, ?_⟩,
    ⟨ready_of (by decide +kernel), asked_ok _ _ _ _ _ quiet_up, ?_⟩,
    ⟨ready_of (by decide +kernel), asked_ok _ _ _ _ _ quiet_up, ?_⟩,
    ready_of (by decide +kernel), asked_ok _ _ _ _ _ q, ?_⟩ <;>
    (unfold MemoryOk; try unfold Fresh) <;> decide +kernel

/-- A class 0 frame too long for every run of its class. -/
def unfitHead : State :=
  clocked 0 true ((put 1 .complete (.tributary 1) (some 0) 1 longFrame up).updStore fun st =>
    { st with queues := vset st.queues 0 [1] })

theorem unfitHead_ok : StoreOk unfitHead := by
  have hst : unfitHead.store = { (put 1 .complete (.tributary 1) (some 0) 1 longFrame up).store with
    queues := vset (put 1 .complete (.tributary 1) (some 0) 1 longFrame up).store.queues 0 [1] } := by
    simp [unfitHead, clocked]
  obtain ⟨-, -, h3, h4, h5, h6, h7, h8, -⟩ := put_store 1 .complete (.tributary 1) (some 0) 1 longFrame up
  have hd : ∀ e, unfitHead.store.desc e = (put 1 .complete (.tributary 1) (some 0) 1 longFrame up).store.desc e := by
    intro e; simp only [FrameStore.desc, hst]
  have hq : ∀ c, unfitHead.store.queue c = if c = 0 then [1] else [] := by
    intro c
    rw [hst, FrameStore.queue, vget_vset]
    by_cases hc : c = 0
    · rw [if_pos hc.symm, if_pos hc]
    · rw [if_neg (Ne.symm hc), if_neg hc, h3]; exact quiet_up.queue c
  have hp : ∀ p, unfitHead.port p = up.port p := by simp [State.port, unfitHead, clocked, put]
  refine InUse.storeOk (us := [1]) ⟨?_, ?_, fun e => ?_, ?_, fun c => ?_, ⟨?_, fun p => ?_, fun c => ?_⟩, ?_⟩
  · rw [hst]; exact (quiet_up.placed.put (by simp) _ _ _ _ _).queued _
  · intro d h; obtain rfl : d = 1 := by simpa using h
    simp [hd, h6]
  · have : unfitHead.holders e = [1].count e := by
      simp only [State.holders, hp, hq, (quiet_up.ports _).2.1, (quiet_up.ports _).2.2]
      have : ∑ x : Cls, List.count e (if x = 0 then [1] else []) = [1].count e := by
        rw [Finset.sum_eq_single 0] <;> simp +contextual
      rw [this]
      simp [unfitHead, clocked, put, up, State.reset, State.blocksReset, Interleaver.reset, Agent.reset]
    rw [this, hd]
    by_cases he : e = 1
    · subst he; simp [h7]
    · rw [h4 e he, quiet_up.store]; simp [FrameStore.reset, FrameStore.desc, Descriptor.unused, Ne.symm he]
  · intro d h; obtain rfl : d = 1 := by simpa using h
    simp [hd, h7]
  · rw [hq]
    by_cases hc : c = 0
    · subst hc; simp [hd, h8]
    · simp [hc]
  · simp [unfitHead, clocked, put, up, State.reset, State.blocksReset, Interleaver.reset]
  · rw [State.framer, hp]; exact (quiet_up.ports p).1
  · simp [State.context, unfitHead, clocked, put, up, State.reset, State.blocksReset, Deinterleaver.reset]
  · intro r hr; simp [unfitHead, clocked, put, up, State.reset, State.blocksReset, Agent.reset] at hr

/-- A TRAFFIC_RESET drains the stack: the frame of its one entry is in descriptor 0, and descriptor 1 is owed. -/
def draining : State :=
  ((put 1 .filling .agent none 0 [] (onTrunk .filling id)).updIl fun il => { il with drain := true }).updAgent
    fun a => { a with owed := some ⟨1, 0x0400, 0x10, 7⟩, builder := .executing, job := some .reply }

theorem draining_ok : StoreOk draining := by
  have hst : draining.store = (put 1 .filling .agent none 0 [] (onTrunk .filling id)).store := by simp [draining]
  have hst' : (onTrunk .filling id).store = (put 0 .filling (.tributary 2) (some 3) 1 longFrame up).store := by
    simp [onTrunk, stacked]
  obtain ⟨-, -, h3, h4, h5, h6, h7, h8, h9⟩ := put_store 1 .filling .agent none 0 [] (onTrunk .filling id)
  obtain ⟨-, -, g3, g4, g5, g6, g7, g8, g9⟩ := put_store 0 .filling (.tributary 2) (some 3) 1 longFrame up
  have d1 : draining.store.desc 1 = (put 1 .filling .agent none 0 [] (onTrunk .filling id)).store.desc 1 := by rw [hst]
  have d0 : draining.store.desc 0 = (put 0 .filling (.tributary 2) (some 3) 1 longFrame up).store.desc 0 := by
    rw [hst, h4 0 (by decide), hst']
  have hq : ∀ c, draining.store.queue c = [] := fun c => by
    rw [hst, FrameStore.queue, h3, hst', g3]; exact quiet_up.queue c
  have hp : ∀ p, draining.port p = up.port p := by simp [State.port, draining, onTrunk, stacked, put]
  refine InUse.storeOk (us := [1, 0]) ⟨?_, ?_, fun e => ?_, ?_, fun c => by simp [hq], ⟨rfl, fun p => ?_, fun c => ?_⟩, ?_⟩
  · rw [hst]
    refine Placed.put ?_ (by decide) _ _ _ _ _
    rw [hst']; exact quiet_up.placed.put (by simp) _ _ _ _ _
  · intro d hd
    rcases (by simpa using hd : d = 1 ∨ d = 0) with rfl | rfl
    · simp [d1, h6]
    · simp [d0, g6]
  · have : draining.holders e = [0].count e := by
      simp only [State.holders, hp, hq, (quiet_up.ports _).2.1, (quiet_up.ports _).2.2]
      simp [draining, onTrunk, stacked, entry, put, up, State.reset, State.blocksReset, Agent.reset]
    rw [this]
    by_cases e1 : e = 1
    · subst e1; rw [d1, h7]; rfl
    · by_cases e0 : e = 0
      · subst e0; rw [d0, g7]; rfl
      · rw [hst, h4 e e1, hst', g4 e e0, quiet_up.store]
        simp [FrameStore.reset, FrameStore.desc, Descriptor.unused, Ne.symm e0]
  · intro d hd
    rcases (by simpa using hd : d = 1 ∨ d = 0) with rfl | rfl
    · simp [d1, h6, FrameStore.ended]
    · simp [d0, g6, FrameStore.ended]
  · rw [State.framer, hp]; exact (quiet_up.ports p).1
  · exact quiet_up.contexts c
  · intro r hr
    obtain rfl : (⟨1, 0x0400, 0x10, 7⟩ : OwedReply) = r := by simpa [draining] using hr
    exact ⟨by rw [d1, h6], by rw [d1, h9], by rw [d1, h7], by rw [d1, h8], by rw [d1, h5]; rfl⟩

theorem witness_DrainEndsWithTheReplyHeld :
    PlainSlot draining ∧ StoreOk draining ∧ MemoryOk draining ∧ draining.il.drain = true ∧
      draining.il.stack = [entry 0 3] ∧ (entry 0 3).isActive = true ∧
      draining.agent.owed = some { desc := 1, dest := 0x0400, tag := 0x10, seq := 7 } ∧ (1 : DescId) ≠ (entry 0 3).desc := by
  refine ⟨plain_of (by decide +kernel), draining_ok, ?_⟩
  unfold MemoryOk; decide +kernel

theorem witness_TrunkDownAndUp :
    (TrunkUp (onTrunk .filling id) ∧ TransmitStackOk (onTrunk .filling id) ∧ (onTrunk .filling id).il.drain = false) ∧
    (StoreOk draining ∧ TrunkUp draining ∧ TransmitStackOk draining ∧ MemoryOk draining ∧ draining.il.drain = true ∧
      draining.agent.owed = some { desc := 1, dest := 0x0400, tag := 0x10, seq := 7 }) ∧
    State.reset.resetHeld = false ∧ State.reset.trunkRx.up = false ∧ up.trunkRx.up = true := by
  refine ⟨?_, ⟨draining_ok, ?_⟩, ?_⟩
  · unfold TrunkUp TransmitStackOk; decide +kernel
  · unfold TrunkUp TransmitStackOk MemoryOk; decide +kernel
  · decide +kernel

theorem witness_ArbiterNamesTheCandidate :
    (let s := waiting 0 up
     arbiter s = (s, [], some ⟨0, 1, true⟩) ∧ s.il.hold = none ∧ NoUnfitHead s ∧ EligibleHead 0 1 s) ∧
    (let s := (waiting 3 up).updIl fun il => { il with hold := some 1 }
     arbiter s = (s, [], some ⟨3, 1, false⟩) ∧ s.il.hold = some 1) ∧
    (StoreOk unfitHead ∧ arbiter unfitHead = ((arbiter unfitHead).1, [0], none) ∧ unfitHead.store.queue 0 = 1 :: [] ∧ unfitHead.il.hold = none ∧
      (∀ c' : Cls, c' < 0 → unfitHead.store.queue c' = []) ∧ nests unfitHead 0 = true ∧ isOpen unfitHead 0 = true ∧
      (vget unfitHead.policy 0).preemptible = false ∧
      fitCheck 0 ((unfitHead.store.desc 1).frameBytes - 9) unfitHead = .unfit ∧ (unfitHead.store.desc 1).refs = 1) := by
  refine ⟨⟨arbiter_of_single (by decide +kernel) (by decide +kernel), ?_⟩,
    ⟨arbiter_of_single (by decide +kernel) (by decide +kernel), by decide +kernel⟩, unfitHead_ok,
    arbiter_of (by decide +kernel), by decide +kernel⟩
  unfold NoUnfitHead EligibleHead; decide +kernel

theorem witness_StoreConservesItsCells :
    StoreOk (asked 1 0 0 0 [] up) ∧ BuilderOk (asked 1 0 0 0 [] up) ∧ ∃ t, step (asked 1 0 0 0 [] up) = .next t := by
  refine ⟨asked_ok _ _ _ _ _ quiet_up, ?_, idles (by decide +kernel)⟩
  exact ⟨by decide +kernel, by decide +kernel, by decide +kernel, by decide +kernel, by decide +kernel, by decide +kernel⟩

theorem witness_ReceiveStackIsKept :
    ReceiveStackOk (after (.rxOpen 4) up) ∧ ∃ t, step (after (.rxOpen 4) up) = .next t := by
  refine ⟨⟨by decide +kernel, by decide +kernel, fun c => ?_⟩, idles (by decide +kernel)⟩
  fin_cases c <;> decide +kernel

theorem witness_ScheduleIsKept : ScheduleOk (clocked 20 false up) ∧ ∃ t, step (clocked 20 false up) = .next t := by
  refine ⟨?_, idles (by decide +kernel)⟩
  unfold ScheduleOk; decide +kernel

theorem witness_AlignmentIsKept :
    AlignOk (aligned .locked 3 true up) ∧ AlignOk (aligned .holdover 4 false up) ∧
      ∃ t, step (aligned .locked 3 true up) = .next t := by
  refine ⟨⟨by decide +kernel, by decide +kernel, ?_, by decide +kernel, by decide +kernel⟩,
    ⟨by decide +kernel, by decide +kernel, rfl, by decide +kernel, by decide +kernel⟩, idles (by decide +kernel)⟩
  show 3 < 4; omega

theorem witness_IdlePortsAndLineRunsAreKept :
    (let s := updPortRx 3 (fun r => { r with failedRun := 15 }) up
     LinesOk s ∧ PortsOk s ∧ ∃ t, step s = .next t) := by
  refine ⟨?_, ?_, idles (by decide +kernel)⟩
  · unfold LinesOk; decide +kernel
  · intro p; fin_cases p <;> decide +kernel

theorem witness_CanonicalMemoryIsKept : MemoryOk (waiting 0 up) ∧ ∃ t, step (waiting 0 up) = .next t := by
  refine ⟨?_, idles (by decide +kernel)⟩
  unfold MemoryOk; decide +kernel

/-- One route, to port 3. -/
def routed : State := up.setRoutes (vset routesReset 63 ⟨true, 0x0201, 3⟩)

theorem routed_addresses : routeAddresses routed.routes = [0x0201] := by decide +kernel
theorem routed_address : routed.agent.address = 0xFE00 := by decide +kernel

theorem witness_RoutesNoticesAndReplaysAreKept :
    (RoutesOk routed ∧ ∃ t, step routed = .next t) ∧
    (NoticesOk (replayed 4 (noticed up)) ∧ ReplayOk (replayed 4 (noticed up)) ∧
      ∃ t, step (replayed 4 (noticed up)) = .next t) := by
  refine ⟨⟨?_, idles (by decide +kernel)⟩, ?_, ?_, idles (by decide +kernel)⟩
  · unfold RoutesOk
    rw [routed_addresses, routed_address]
    refine ⟨by simp, fun a ha => ?_, by simp, by simp⟩
    obtain rfl : a = 0x0201 := by simpa using ha
    simp
  · unfold NoticesOk; decide +kernel
  · unfold ReplayOk; decide +kernel

theorem witness_BuilderAndDrainAgree :
    BuilderOk (noticed up) ∧ ∃ t, step (noticed up) = .next t := by
  refine ⟨⟨by decide +kernel, by decide +kernel, by decide +kernel, by decide +kernel, ?_⟩, idles (by decide +kernel)⟩
  exact ⟨rfl, rfl⟩

end Sys2Proof.Tests
end

section
/-! The nesting grammar and the two stacks: legal symbols keep the laws of an open-frame list, every decision of R20 sends
a legal symbol, and every step keeps the Preemption Stack lawful (R11, R15, R16, R21). -/

namespace Sys2Proof.Machine

/-! ### The nesting grammar and the laws of an open-frame list (R10, R11, R15) -/

theorem stackLawful_cons (f : OpenFrame) (fs : List OpenFrame) :
    stackLawful (f :: fs) = true ↔
      (∀ g ∈ fs, f.cls < g.cls ∧ g.state = .suspended) ∧ stackLawful fs = true := by
  simp [stackLawful, List.all_eq_true]

/-- The state of the top of a lawful list is free. -/
theorem stackLawful_retop {f : OpenFrame} {fs : List OpenFrame} (a : Activity) (h : stackLawful (f :: fs) = true) :
    stackLawful ({ f with state := a } :: fs) = true := by
  rw [stackLawful_cons] at h ⊢; exact h

/-- A more urgent frame opens above a lawful list. -/
theorem stackLawful_push {c : Cls} {f : OpenFrame} {fs : List OpenFrame} (a : Activity)
    (h : stackLawful (f :: fs) = true) (hc : c < f.cls) :
    stackLawful (⟨c, a⟩ :: { f with state := .suspended } :: fs) = true := by
  refine (stackLawful_cons _ _).2 ⟨fun g hg => ?_, stackLawful_retop _ h⟩
  obtain ⟨hf, -⟩ := (stackLawful_cons _ _).1 h
  rcases List.mem_cons.1 hg with rfl | hg
  · exact ⟨hc, rfl⟩
  · exact ⟨hc.trans (hf g hg).1, (hf g hg).2⟩

/-- A legal symbol keeps the laws of the open-frame list (R11, R15). -/
theorem stackLawful_grammarStep {y : TrunkSymbol} {l l' : List OpenFrame} (h : stackLawful l = true)
    (e : grammarStep y l = some l') : stackLawful l' = true := by
  unfold grammarStep at e
  split at e
  case h_3 c f fs =>
    split at e
    · next hc => cases e; exact stackLawful_push _ h hc
    · cases e
  case h_4 c k fs =>
    split at e
    · cases e; exact stackLawful_retop _ h
    · cases e
  all_goals cases e
  case h_2 => rfl
  case h_7 => exact stackLawful_retop _ h
  case h_16 => exact ((stackLawful_cons _ _).1 h).2
  case h_19 => exact ((stackLawful_cons _ _).1 h).2
  all_goals exact h

/-! ### The views of the Preemption Stack -/

theorem view_of_active {e : StackEntry} (h : e.isActive = true) : e.view = ⟨e.cls, .active⟩ := by
  simp [StackEntry.view, h]

theorem view_of_suspended {e : StackEntry} (h : e.isActive = false) : e.view = ⟨e.cls, .suspended⟩ := by
  simp [StackEntry.view, h]

theorem openFrames_congr {s t : State} (e : t.il.stack = s.il.stack) : t.openFrames = s.openFrames := by
  simp [State.openFrames, e]

theorem TransmitStackOk.congr {s t : State} (h : TransmitStackOk s) (e : t.il.stack = s.il.stack) :
    TransmitStackOk t := by
  unfold TransmitStackOk at *; rwa [openFrames_congr e]

/-! ### The symbol of a trunk slot -/

/-- The symbol on the trunk's line in t is legal after the stack of s, and takes the grammar's list to the stack of t. -/
def SendsLegally (s t : State) : Prop :=
  ∃ y, t.trunkTx = some y ∧ y ≠ .mark ∧ grammarStep y s.openFrames = some t.openFrames

theorem SendsLegally.congr {s s' t t' : State} (h : SendsLegally s t) (hs : s'.openFrames = s.openFrames)
    (hx : t'.trunkTx = t.trunkTx) (ht : t'.il.stack = t.il.stack) : SendsLegally s' t' := by
  obtain ⟨y, h1, h2, h3⟩ := h
  exact ⟨y, hx.trans h1, h2, by rw [hs, h3, openFrames_congr ht]⟩

@[simp] theorem send_trunkTx (y : TrunkSymbol) (s : State) : (send y s).trunkTx = some y := rfl

theorem setTop_stack {e f : StackEntry} {es : List StackEntry} {s : State} (h : s.il.stack = e :: es) :
    (setTop f s).il.stack = f :: es := by
  simp [setTop, h]

@[simp] theorem countIl_stack (f : IlCounters → IlCounters) (s : State) : (countIl f s).il.stack = s.il.stack := rfl

@[simp] theorem popTop_stack (e : StackEntry) (s : State) : (popTop e s).il.stack = s.il.stack.tail := rfl

@[simp] theorem endDrain_stack (s : State) : (endDrain s).il.stack = s.il.stack := by
  unfold endDrain; dsimp only; split <;> simp

section
variable {e : StackEntry} {es : List StackEntry} {s : State} (h : s.il.stack = e :: es)
include h

theorem sendsLegally_resumeTop (ha : e.isActive = false) : SendsLegally s (resumeTop e s) := by
  refine ⟨.resume e.cls, rfl, by simp, ?_⟩
  have hv : ({ e with state := .active, fragment := 0 } : StackEntry).view = ⟨e.cls, .active⟩ := view_of_active rfl
  simp [State.openFrames, h, view_of_suspended ha, grammarStep, resumeTop, setTop_stack h, hv]

theorem sendsLegally_pauseTop (ha : e.isActive = true) : SendsLegally s (pauseTop e s) := by
  refine ⟨.pause, rfl, by simp, ?_⟩
  have hv : ({ e with state := .suspended .gated } : StackEntry).view = ⟨e.cls, .suspended⟩ := view_of_suspended rfl
  simp [State.openFrames, h, view_of_active ha, grammarStep, pauseTop, setTop_stack h, hv]

theorem sendsLegally_closeTop (ha : e.isActive = true) : SendsLegally s (closeTop e s) := by
  refine ⟨.close, rfl, by simp, ?_⟩
  simp [State.openFrames, h, view_of_active ha, grammarStep, closeTop]

theorem sendsLegally_abortTop (ha : e.isActive = true) : SendsLegally s (abortTop e s) := by
  refine ⟨.abort, rfl, by simp, ?_⟩
  simp [State.openFrames, h, view_of_active ha, grammarStep, abortTop]

theorem sendsLegally_sendByte (ha : e.isActive = true) : SendsLegally s (sendByte e s) := by
  refine ⟨.data _, rfl, by simp, ?_⟩
  have hv : ({ e with emitted := e.emitted + 1, fragment := e.fragment + 1, starve := 0 } : StackEntry).view
      = ⟨e.cls, .active⟩ := view_of_active ha
  simp [State.openFrames, h, view_of_active ha, grammarStep, sendByte, setTop_stack h, hv]

theorem sendsLegally_fillTop (ha : e.isActive = true) : SendsLegally s (fillTop e s) := by
  refine ⟨.fill, rfl, by simp, ?_⟩
  have hv : ({ e with starve := e.starve + 1 } : StackEntry).view = ⟨e.cls, .active⟩ := view_of_active ha
  simp [State.openFrames, h, view_of_active ha, grammarStep, fillTop, setTop_stack h, hv]

/-- Steps 5c to 5e send CLOSE, data or FILL. -/
theorem sendsLegally_continueTop (ha : e.isActive = true) : SendsLegally s (continueTop e s).1 := by
  unfold continueTop
  split
  · exact sendsLegally_closeTop h ha
  · split
    · exact sendsLegally_sendByte h ha
    · split
      · exact (sendsLegally_fillTop h ha).congr rfl (by simp) (by simp)
      · exact sendsLegally_fillTop h ha

end

/-- IDLE is legal when no frame is ACTIVE. -/
theorem sendsLegally_idle {s : State} (h : ∀ e es, s.il.stack = e :: es → e.isActive = false) :
    SendsLegally s (send .idle s) := by
  refine ⟨.idle, rfl, by simp, ?_⟩
  rcases hs : s.il.stack with _ | ⟨e, es⟩
  · simp [State.openFrames, hs, grammarStep]
  · simp [State.openFrames, hs, grammarStep, view_of_suspended (h e es hs)]

/-- A candidate that nests may be opened (R23, R26). -/
theorem sendsLegally_openFrame {x : Candidate} {s : State} (h : nests s x.cls = true) :
    SendsLegally s (openFrame x s) := by
  refine ⟨.opened x.cls, rfl, by simp, ?_⟩
  rcases hs : s.il.stack with _ | ⟨e, es⟩
  · by_cases hh : s.il.hold = some x.desc <;>
      simp [State.openFrames, hs, grammarStep, openFrame, hh, StackEntry.view, StackEntry.isActive]
  · have hc : x.cls < e.view.cls := by
      change x.cls < e.cls
      simpa [nests, hs] using h
    have hv : grammarStep (.opened x.cls) s.openFrames =
        some (⟨x.cls, .active⟩ :: { e.view with state := .suspended } :: es.map StackEntry.view) := by
      simp [State.openFrames, hs, grammarStep, hc]
    rw [hv]
    cases ha : e.isActive <;> by_cases hh : s.il.hold = some x.desc <;>
      simp [State.openFrames, hs, openFrame, hh, ha, StackEntry.view] <;> simp [StackEntry.isActive]

/-! ### The arbiter's candidate nests (R23, R25) -/

theorem nests_congr {s t : State} (e : t.il.stack = s.il.stack) (c : Cls) : nests t c = nests s c := by
  simp [nests, e]

theorem examineQueue_cls {c : Cls} {ds : List DescId} {s t : State} {us : List Cls} {x : Candidate}
    (h : examineQueue c ds s = (t, us, some x)) : x.cls = c := by
  induction ds generalizing s us with
  | nil => simp [examineQueue] at h
  | cons d ds ih =>
    unfold examineQueue at h
    split at h
    · cases h
    · split at h
      · obtain ⟨-, -, hx⟩ : _ ∧ _ ∧ _ := by simpa using h
        exact hx.2 ▸ rfl
      · split at h
        · obtain ⟨-, -, hx⟩ : _ ∧ _ ∧ _ := by simpa using h
          exact hx.2 ▸ rfl
        · cases h
        · split at h
          next hq => cases h; exact ih hq

theorem arbitrate_nests {cs : List Cls} {s t : State} {us : List Cls} {x : Candidate}
    (h : arbitrate cs s = (t, us, some x)) : nests s x.cls = true := by
  induction cs generalizing s us with
  | nil => simp [arbitrate] at h
  | cons c cs ih =>
    rw [arbitrate] at h
    split at h
    · next hx =>
      split at h
      · next hq =>
        cases h
        rw [examineQueue_cls hq]
        simp only [examines, Bool.and_eq_true] at hx
        exact hx.1
      · next s' us' hq =>
        split at h
        next ha =>
          cases h
          have hs : s'.il.stack = s.il.stack := by
            have := (examineQueue_il c (s.store.queue c) s).1
            rwa [hq] at this
          rw [← nests_congr hs]
          exact ih ha
    · exact ih h

theorem arbiter_stack {s t : State} {us : List Cls} {x : Option Candidate} (h : arbiter s = (t, us, x)) :
    t.il.stack = s.il.stack := by
  have := (arbiter_il s).1
  rwa [h] at this

/-! ### The decision of R20 sends a legal symbol -/

/-- The OPEN of the arbiter's candidate is legal. -/
theorem sendsLegally_arbiter_open {s t : State} {us : List Cls} {x : Candidate} (h : arbiter s = (t, us, some x)) :
    SendsLegally s (openFrame x t) := by
  have hn : nests t x.cls = true := by rw [nests_congr (arbiter_stack h)]; exact arbitrate_nests h
  exact (sendsLegally_openFrame hn).congr (openFrames_congr (arbiter_stack h)).symm rfl rfl

theorem sendsLegally_decideActive {e : StackEntry} {es : List StackEntry} {s : State} (h : s.il.stack = e :: es)
    (ha : e.isActive = true) : SendsLegally s (decideActive e s).1 := by
  unfold decideActive
  split
  · split
    · next hx => exact sendsLegally_arbiter_open hx
    · next t us hx =>
      have ht : t.il.stack = e :: es := (arbiter_stack hx).trans h
      have hv := (openFrames_congr (arbiter_stack hx)).symm
      split
      · exact (sendsLegally_continueTop ht ha).congr hv rfl rfl
      · exact (sendsLegally_pauseTop ht ha).congr hv rfl rfl
  · exact sendsLegally_continueTop h ha

/-- The change of cause to GATED (R32) does not show in the grammar's list. -/
@[simp] theorem gateTop_openFrames (s : State) : (gateTop s).openFrames = s.openFrames := by
  unfold gateTop
  split
  · rfl
  · next e es hs =>
    split
    · next hc =>
      simp [State.openFrames, setTop_stack hs, hs, StackEntry.view, StackEntry.isActive, hc.1]
    · rfl

theorem openFrames_eq_cons {s : State} {f : OpenFrame} {fs : List OpenFrame} (h : s.openFrames = f :: fs) :
    ∃ e es, s.il.stack = e :: es ∧ e.view = f := by
  obtain ⟨e, es, h1, h2, -⟩ := List.map_eq_cons_iff.1 h
  exact ⟨e, es, h1, h2⟩

/-- No entry at the top, or a SUSPENDED one, in the grammar's list. -/
def TopRests (s : State) : Prop := ∀ e es, s.il.stack = e :: es → e.isActive = false

theorem TopRests.congr {s t : State} (h : TopRests s) (e : t.openFrames = s.openFrames) : TopRests t := by
  intro f fs hf
  have hv : s.openFrames = f.view :: fs.map StackEntry.view := by rw [← e]; simp [State.openFrames, hf]
  obtain ⟨g, gs, hg, hgv⟩ := openFrames_eq_cons hv
  have hr := h g gs hg
  rw [view_of_suspended hr] at hgv
  cases hfa : f.isActive
  · rfl
  · rw [view_of_active hfa] at hgv; exact absurd (congrArg OpenFrame.state hgv) (by simp)

theorem sendsLegally_resumeOrIdle {s : State} (h : TopRests s) : SendsLegally s (resumeOrIdle s) := by
  unfold resumeOrIdle
  split
  · exact sendsLegally_idle h
  · next e es hs =>
    split
    · exact sendsLegally_resumeTop hs (h e es hs)
    · exact sendsLegally_idle h

theorem sendsLegally_decideIdle {s : State} (h : TopRests s) : SendsLegally s (decideIdle s).1 := by
  unfold decideIdle
  split
  · next hx => exact (sendsLegally_arbiter_open hx).congr (gateTop_openFrames s).symm rfl rfl
  · next hx =>
    have hv := (openFrames_congr (arbiter_stack hx)).trans (gateTop_openFrames s)
    exact (sendsLegally_resumeOrIdle (h.congr hv)).congr hv.symm rfl rfl

theorem sendsLegally_drainStep (s : State) : SendsLegally s (drainStep s) := by
  unfold drainStep
  split
  · next hs => exact sendsLegally_idle (by simp [hs])
  · next e es hs =>
    cases ha : e.isActive
    · simpa using sendsLegally_resumeTop hs ha
    · have hx := sendsLegally_abortTop hs ha
      rw [if_pos rfl]
      split
      · exact hx.congr rfl (by simp) (by simp)
      · exact hx

/-- Whatever step of R20 decides the slot, its symbol is legal. -/
theorem sendsLegally_decide20 (s : State) : SendsLegally s (decide20 s).1 := by
  unfold decide20
  split
  · exact sendsLegally_drainStep s
  · split
    · next hs => exact sendsLegally_decideIdle (by simp [TopRests, hs])
    · next e es hs =>
      cases ha : e.isActive
      · have hr : TopRests s := by simp [TopRests, hs, ha]
        rw [if_neg (by simp)]
        split
        · exact sendsLegally_resumeTop hs ha
        · exact sendsLegally_decideIdle hr
      · rw [if_pos rfl]
        split
        · exact sendsLegally_abortTop hs ha
        · exact sendsLegally_decideActive hs ha

@[simp] theorem countOverrun_stack (x : Option Cls) (s : State) : (countOverrun x s).il.stack = s.il.stack := by
  cases x <;> rfl

theorem sendsLegally_trunkDecision (s : State) : SendsLegally s (trunkDecision s).1 :=
  (sendsLegally_decide20 _).congr (openFrames_congr (countOverrun_stack _ s)).symm rfl rfl

theorem sendsLegally_decideSlot {s : State} (h : s.trunkRx.up = true) : SendsLegally s (decideSlot s).1 := by
  simp only [decideSlot, h, if_true]
  exact (sendsLegally_trunkDecision s).congr rfl rfl rfl

theorem sendsLegally_trunkSlot {s : State} (h : s.trunkRx.up = true) : SendsLegally s (trunkSlot s) :=
  (sendsLegally_decideSlot (s := missedCheck (beginSlot s)) (by simpa using h)).congr
    (openFrames_congr (by simp)) (by simp [trunkSlot]) (by simp [trunkSlot])

/-! ### The builder's turns and the two stacks -/

/-- What the builder's turns keep: a property of the Preemption Stack and of the Deinterleaver that the execution of a
request keeps. -/
structure StacksKept (P : State → Prop) : Prop where
  congr : ∀ s t, t.il.stack = s.il.stack → t.rx = s.rx → P s → P t
  perform : ∀ r s, P s → P (perform r s).state

namespace StacksKept
variable {P : State → Prop} (k : StacksKept P)
include k

theorem serve (d : DescId) (r : Request) (s : State) (h : P s) : P (serve d r s) := by
  refine serve_keeps (P := P) (fun s h => k.congr s _ (by simp) (by simp) h)
    (fun d r e s h => k.congr s _ (by simp) (by simp) h) (fun s h => k.congr s _ rfl rfl h)
    (fun s h => k.congr s _ (by simp) (by simp) h) k.perform (fun r x s h => k.congr s _ (by simp) (by simp) h) ?_
    (fun d r x a b data s h => k.congr s _ (by simp) (by simp) h) d r s h
  intro d r s h
  unfold beginDrain
  split
  · exact k.congr s _ (by simp) (by simp) h
  · exact k.congr s _ (by simp) (by simp) h

theorem claimReply (s : State) (h : P s) : P (claimReply s) :=
  claimReply_keeps (P := P) (fun s h => k.congr s _ (by simp) (by simp) h) (fun s _ h => k.congr s _ rfl rfl h) k.serve s h

theorem builderChooseJob (s : State) (h : P s) : P (builderChooseJob s) :=
  builderChooseJob_keeps (P := P) (fun s h => k.congr s _ (by simp) (by simp) h)
    (fun s h => k.congr s _ (by simp) (by simp) h) (fun s h => k.congr s _ (by simp) (by simp) h) k.claimReply s h

theorem storeClaimGranted (s : State) (h : P s) : P (storeClaimGranted s) :=
  storeClaimGranted_keeps (P := P) (fun s h => k.congr s _ (by simp) (by simp) h) k.claimReply s h

end StacksKept

/-! ### Requests leave the Preemption Stack alone -/

@[simp] theorem discardQueued_stack (d : DescId) (r : FailReason) (s : State) :
    (discardQueued d r s).il.stack = s.il.stack := by
  by_cases h : s.il.hold = some d <;> simp [discardQueued, h]

@[simp] theorem emptyClassQueue_stack (c : Cls) (r : FailReason) (s : State) :
    (emptyClassQueue c r s).il.stack = s.il.stack := by
  unfold emptyClassQueue
  generalize s.store.queue c = l
  induction l generalizing s with
  | nil => rfl
  | cons d l ih => exact (ih _).trans (discardQueued_stack d r s)

theorem performTrafficReset_stack (s : State) : (performTrafficReset s).state.il.stack = s.il.stack := by
  simp [performTrafficReset, Done.ok]

theorem performFlush_stack (r : Request) (s : State) : (performFlush r s).state.il.stack = s.il.stack := by
  unfold performFlush
  split
  · split <;> simp [Done.refuse, performFlushClass, Done.ok]
  · split
    · split <;> simp [Done.refuse, performFlushDelivery, Done.ok]
    · rfl

theorem performReadCounters_stack (r : Request) (s : State) :
    (performReadCounters r s).state.il.stack = s.il.stack := by
  unfold performReadCounters; dsimp only; split <;> rfl

theorem performKind_stack (k : ReqKind) (r : Request) (s : State) :
    (performKind k r s).state.il.stack = s.il.stack := by
  cases k with
  | query => rfl
  | read => unfold performKind; dsimp only; split <;> rfl
  | write =>
    unfold performKind
    dsimp only
    split
    · rfl
    · simp
  | commit => simp [performKind]
  | abandon => simp [performKind]
  | setAlign => simp [performKind]
  | setGlobal => simp [performKind]
  | readCounters => exact performReadCounters_stack r s
  | flush => exact performFlush_stack r s
  | trafficReset => exact performTrafficReset_stack s

theorem perform_stack (r : Request) (s : State) : (perform r s).state.il.stack = s.il.stack := by
  unfold perform
  split
  · exact performKind_stack _ r s
  · rfl
  · rfl

/-! ### Every step keeps the laws of the Preemption Stack -/

theorem dropEntries_stack (l : List StackEntry) (s : State) : (dropEntries l s).il.stack = s.il.stack := by
  induction l generalizing s with
  | nil => rfl
  | cons e es ih => exact ih _

@[simp] theorem interleaverDown_stack (s : State) : (interleaverDown s).il.stack = [] := by
  unfold interleaverDown
  dsimp only
  split <;> simp [dropEntries_stack]

theorem transmitStackOk_of_empty {s : State} (h : s.il.stack = []) : TransmitStackOk s := by
  simp [TransmitStackOk, State.openFrames, h, stackLawful]

@[simp] theorem trunkFalls_stack (s : State) : (trunkFalls s).il.stack = [] := by simp [trunkFalls]

theorem TransmitStackOk.decideSlot {s : State} (h : TransmitStackOk s) : TransmitStackOk (decideSlot s).1 := by
  cases hu : s.trunkRx.up
  · exact h.congr (by simp [Machine.decideSlot, hu])
  · obtain ⟨y, -, -, hg⟩ := sendsLegally_decideSlot hu
    exact stackLawful_grammarStep h hg

theorem transmitStackOk_stacksKept : StacksKept TransmitStackOk where
  congr _ _ e _ h := h.congr e
  perform r s h := h.congr (perform_stack r s)

theorem transmitStackOk_kept : Kept TransmitStackOk where
  reset _ _ _ _ := transmitStackOk_of_empty rfl
  raise _ _ h := h.congr (by simp)
  setDraws _ _ h := h.congr rfl
  beginSlot _ h := h.congr (by simp)
  missedCheck _ h := h.congr (by simp)
  decideSlot _ h := h.decideSlot
  endDrain _ _ _ h := h.congr (by simp)
  trunkDown s h := by
    unfold trunkDown
    split
    · exact transmitStackOk_of_empty (by simp)
    · exact h
  trunkUp _ h := h.congr (by simp)
  tributaryDown _ _ h := h.congr (by simp)
  tributaryUp _ _ h := h.congr (by simp)
  symbolReceived _ s h := trunkDecoded_keeps (fun _ _ h => h.congr rfl) (fun _ h => h.congr (by simp))
    (fun _ h => h.congr (by simp)) s h
  undecodable s h := trunkDecoded_keeps (fun _ _ h => h.congr rfl) (fun _ h => h.congr (by simp))
    (fun _ h => h.congr (by simp)) s h
  trunkFailed s h := trunkFailed_keeps (fun _ _ h => h.congr rfl) (fun _ _ => transmitStackOk_of_empty (by simp))
    (fun _ h => h.congr (by simp)) (fun _ _ h => h.congr (by simp)) s h
  mark s h := trunkDecoded_keeps (fun _ _ h => h.congr rfl) (fun _ h => h.congr (by simp))
    (fun _ h => h.congr (by simp)) s h
  tribDecoded _ _ _ h := h.congr (by simp)
  tribFailed _ _ h := h.congr (by simp)
  tribTxSlot _ _ h := h.congr (by simp)
  builderChooseJob := transmitStackOk_stacksKept.builderChooseJob
  storeClaimGranted := transmitStackOk_stacksKept.storeClaimGranted

/-- Settles O14: each step of R20 sends a symbol that the grammar allows (`sendsLegally_decide20`), and a legal symbol
keeps the laws. -/
theorem sentSymbolsAreLegal : Obligations.SentSymbolsAreLegal := by
  refine ⟨fun s ⟨hr, hu⟩ _ => ?_, fun s t h e => transmitStackOk_kept.step (fun s l h => h.congr rfl) s t h e⟩
  obtain ⟨y, hy, hm, hg⟩ := sendsLegally_trunkSlot hu
  exact ⟨trunkSlot s, y, by simp [exec, execTrunkSlot, whenRunning, hr], hy, hm, hg⟩

end Sys2Proof.Machine
end

section
/-! What the Deinterleaver's operations do to its registers, and that every step keeps the Reassembly Stack and its contexts
lawful (R88 to R103). -/

namespace Sys2Proof.Machine

/-! ### Contexts, one rule for each operation -/

theorem context_congr {s t : State} (e : t.rx = s.rx) (c : Cls) : t.context c = s.context c := by
  simp [State.context, e]

@[simp] theorem setContext_rx_frame (c : Cls) (x : Context) (s : State) :
    (setContext c x s).rx.mode = s.rx.mode ∧ (setContext c x s).rx.stack = s.rx.stack ∧
      (setContext c x s).rx.counters = s.rx.counters := ⟨rfl, rfl, rfl⟩

theorem context_setContext (c k : Cls) (x : Context) (s : State) :
    (setContext c x s).context k = if c = k then x else s.context k := vget_vset _ c k x

@[simp] theorem context_updStore (c : Cls) (f : FrameStore → FrameStore) (s : State) :
    (s.updStore f).context c = s.context c := rfl

@[simp] theorem context_countRx (f : RxCounters → RxCounters) (c : Cls) (s : State) :
    (countRx f s).context c = s.context c := rfl

@[simp] theorem countRx_rx_frame (f : RxCounters → RxCounters) (s : State) :
    (countRx f s).rx.mode = s.rx.mode ∧ (countRx f s).rx.stack = s.rx.stack ∧
      (countRx f s).rx.counters = f s.rx.counters := ⟨rfl, rfl, rfl⟩

@[simp] theorem releaseStorage_rx_frame (c : Cls) (s : State) :
    (releaseStorage c s).rx.mode = s.rx.mode ∧ (releaseStorage c s).rx.stack = s.rx.stack ∧
      (releaseStorage c s).rx.counters = s.rx.counters := by
  unfold releaseStorage; split <;> simp

theorem context_releaseStorage (c k : Cls) (s : State) : (releaseStorage c s).context k =
    if c = k then { s.context k with storage := none } else s.context k := by
  unfold releaseStorage
  split
  · next h =>
    split
    · next hk => subst hk; rw [← h]
    · rfl
  · rw [context_setContext]
    split
    · next hk => subst hk; rfl
    · rfl

@[simp] theorem discardContext_rx_frame (c : Cls) (r : DiscardReason) (s : State) :
    (discardContext c r s).rx.mode = s.rx.mode ∧ (discardContext c r s).rx.stack = s.rx.stack ∧
      (discardContext c r s).rx.counters = s.rx.counters := by
  simp [discardContext]

/-- The context of a discarded frame: no storage, and the reason (R98). -/
def Context.discarded (r : DiscardReason) (x : Context) : Context :=
  { x with storage := none, disposition := .discard r }

theorem context_discardContext (c k : Cls) (r : DiscardReason) (s : State) : (discardContext c r s).context k =
    if c = k then (s.context k).discarded r else s.context k := by
  simp only [discardContext, context_setContext, context_releaseStorage]
  split
  · next h => subst h; simp [Context.discarded]
  · rfl

@[simp] theorem closeContext_rx_frame (c : Cls) (s : State) :
    (closeContext c s).rx.mode = s.rx.mode ∧ (closeContext c s).rx.stack = s.rx.stack ∧
      (closeContext c s).rx.counters = s.rx.counters := by
  simp [closeContext]

theorem context_closeContext (c k : Cls) (s : State) :
    (closeContext c s).context k = if c = k then Context.closed else s.context k := by
  simp only [closeContext, context_setContext, context_releaseStorage]
  split <;> rfl

@[simp] theorem closeAll_rx_frame (s : State) :
    (closeAll s).rx.mode = s.rx.mode ∧ (closeAll s).rx.stack = s.rx.stack ∧
      (closeAll s).rx.counters = s.rx.counters := by
  simp [closeAll]

@[simp] theorem context_closeAll (c : Cls) (s : State) : (closeAll s).context c = Context.closed := by
  fin_cases c <;> simp [closeAll, context_closeContext]

/-- A grammar violation and a trunk DOWN event leave the receive side empty, in RESYNC (R92, R105). -/
@[simp] theorem enterResync_rx_frame (s : State) :
    (enterResync s).rx.mode = .resync ∧ (enterResync s).rx.stack = [] ∧
      (enterResync s).rx.counters = s.rx.counters := by
  simp [enterResync]

@[simp] theorem context_enterResync (c : Cls) (s : State) : (enterResync s).context c = Context.closed := by
  simpa [enterResync, State.context] using context_closeAll c s

@[simp] theorem breakStream_rx_frame (s : State) :
    (breakStream s).rx.mode = .resync ∧ (breakStream s).rx.stack = [] ∧
      (breakStream s).rx.counters = { s.rx.counters with violations := ctrInc s.rx.counters.violations } := by
  simp [breakStream]

@[simp] theorem context_breakStream (c : Cls) (s : State) : (breakStream s).context c = Context.closed := by
  simp [breakStream]

@[simp] theorem countDiscard_rx_frame (r : DiscardReason) (s : State) :
    (countDiscard r s).rx.mode = s.rx.mode ∧ (countDiscard r s).rx.stack = s.rx.stack := by
  cases r <;> simp [countDiscard]

@[simp] theorem context_countDiscard (r : DiscardReason) (c : Cls) (s : State) :
    (countDiscard r s).context c = s.context c := by
  cases r <;> rfl

/-! ### One context changes -/

/-- A context on the stack has storage exactly when its disposition is no DISCARD (R89, R93, R98). -/
def Context.Sound (x : Context) : Prop := x.storage.isSome = !x.disposition.isDiscard

theorem sound_discarded (r : DiscardReason) (x : Context) : (x.discarded r).Sound := rfl

/-- Of the Deinterleaver's mode, stack and contexts, context c alone changes, to x. -/
def SetsContext (c : Cls) (x : Context) (s t : State) : Prop :=
  t.rx.mode = s.rx.mode ∧ t.rx.stack = s.rx.stack ∧ ∀ k, t.context k = if c = k then x else s.context k

/-- t has the mode, the stack and the contexts of s. -/
def SameContexts (s t : State) : Prop :=
  t.rx.mode = s.rx.mode ∧ t.rx.stack = s.rx.stack ∧ ∀ k, t.context k = s.context k

theorem sameContexts_of_rx {s t : State} (e : t.rx = s.rx) : SameContexts s t :=
  ⟨by rw [e], by rw [e], fun k => context_congr e k⟩

theorem sameContexts_raise (e : Notice) (s : State) : SameContexts s (raise e s) := sameContexts_of_rx (by simp)

theorem sameContexts_countRx (f : RxCounters → RxCounters) (s : State) : SameContexts s (countRx f s) :=
  ⟨rfl, rfl, fun _ => rfl⟩

theorem SetsContext.then {c : Cls} {x : Context} {s t u : State} (h : SetsContext c x s t) (e : SameContexts t u) :
    SetsContext c x s u := by
  obtain ⟨hm, hl, hc⟩ := h
  obtain ⟨em, el, ec⟩ := e
  exact ⟨em.trans hm, el.trans hl, fun k => (ec k).trans (hc k)⟩

theorem SetsContext.after {c : Cls} {x : Context} {s t u : State} (h : SetsContext c x t u) (e : SameContexts s t) :
    SetsContext c x s u := by
  obtain ⟨hm, hl, hc⟩ := h
  obtain ⟨em, el, ec⟩ := e
  exact ⟨hm.trans em, hl.trans el, fun k => by rw [hc k, ec k]⟩

theorem setsContext_self (c : Cls) (s : State) : SetsContext c (s.context c) s s :=
  ⟨rfl, rfl, fun k => by split <;> simp_all⟩

theorem setsContext_setContext (c : Cls) (x : Context) (s : State) : SetsContext c x s (setContext c x s) :=
  ⟨rfl, rfl, fun k => context_setContext c k x s⟩

theorem setsContext_closeContext (c : Cls) (s : State) : SetsContext c Context.closed s (closeContext c s) :=
  ⟨by simp, by simp, fun k => context_closeContext c k s⟩

theorem setsContext_discarded (c : Cls) (r r' : DiscardReason) (s : State) :
    SetsContext c ((s.context c).discarded r) s (countDiscard r' (discardContext c r s)) :=
  ⟨by simp, by simp, fun k => by
    rw [context_countDiscard, context_discardContext]
    split
    · next h => rw [h]
    · rfl⟩

theorem SetsContext.trans {c : Cls} {x y : Context} {s t u : State} (h : SetsContext c x s t)
    (h' : SetsContext c y t u) : SetsContext c y s u := by
  obtain ⟨hm, hl, hc⟩ := h
  obtain ⟨hm', hl', hc'⟩ := h'
  refine ⟨hm'.trans hm, hl'.trans hl, fun k => ?_⟩
  rw [hc', hc]
  split <;> rfl

/-- OPEN gives the context a descriptor, or none and the disposition DISCARD (R93). -/
theorem openContext_setsContext (c : Cls) (s : State) :
    ∃ x : Context, x.Sound ∧ SetsContext c x s (openContext c s) := by
  unfold openContext
  split
  · next d st _ =>
    exact ⟨{ Context.closed with storage := some d }, rfl, setsContext_setContext c _ (s.updStore fun _ => st)⟩
  · exact ⟨{ Context.closed with disposition := .discard .noStore }, rfl,
      ((setsContext_setContext c _ s).then (sameContexts_countRx _ _)).then (sameContexts_raise _ _)⟩

/-- The state in which byte 7's header is recorded and its disposition not yet decided (R96). -/
def headerRecorded (c : Cls) (d : DescId) (s : State) : State :=
  setContext c { s.context c with header := some (s.store.readHeader d) }
    (s.updStore (FrameStore.updDesc d fun x => { x with header := some (s.store.readHeader d) }))

/-- The header's disposition decides (R96, R98). -/
theorem rxHeaderComplete_eq (c : Cls) (d : DescId) (s : State) : rxHeaderComplete c d s =
    match headerDisposition s (s.store.readHeader d) with
    | .discard r => countDiscard r (discardContext c r (headerRecorded c d s))
    | .toPorts m =>
      setContext c { (headerRecorded c d s).context c with disposition := .toPorts m } (headerRecorded c d s)
    | .toAgent =>
      setContext c { (headerRecorded c d s).context c with disposition := .toAgent } (headerRecorded c d s)
    | .awaitHeader => headerRecorded c d s := rfl

theorem context_headerRecorded (c : Cls) (d : DescId) (s : State) :
    (headerRecorded c d s).context c = { s.context c with header := some (s.store.readHeader d) } := by
  rw [headerRecorded, context_setContext, if_pos rfl]

theorem headerRecorded_setsContext (c : Cls) (d : DescId) (s : State) :
    SetsContext c ((headerRecorded c d s).context c) s (headerRecorded c d s) := by
  rw [context_headerRecorded]
  exact setsContext_setContext c _ (s.updStore _)

theorem rxHeaderComplete_setsContext (c : Cls) (d : DescId) (s : State) (h : (s.context c).Sound)
    (hd : (s.context c).storage = some d) : ∃ x : Context, x.Sound ∧ SetsContext c x s (rxHeaderComplete c d s) := by
  have hr := headerRecorded_setsContext c d s
  have hs : ((headerRecorded c d s).context c).storage = some d := by rw [context_headerRecorded]; exact hd
  rw [rxHeaderComplete_eq]
  split
  · next r _ => exact ⟨_, sound_discarded r _, hr.trans (setsContext_discarded c r r _)⟩
  · exact ⟨_, by simp [Context.Sound, hs, Disposition.isDiscard], hr.trans (setsContext_setContext c _ _)⟩
  · exact ⟨_, by simp [Context.Sound, hs, Disposition.isDiscard], hr.trans (setsContext_setContext c _ _)⟩
  · exact ⟨_, by rw [context_headerRecorded]; exact h, hr⟩

/-- The state in which a data byte is taken into the store st and the context, its header not yet looked at (R94). -/
def byteTaken (c : Cls) (b : Byte) (st : FrameStore) (s : State) : State :=
  setContext c { s.context c with
    received := (s.context c).received + 1, check := crcByte (s.context c).check b } (s.updStore fun _ => st)

theorem context_byteTaken (c : Cls) (b : Byte) (st : FrameStore) (s : State) : (byteTaken c b st s).context c =
    { s.context c with received := (s.context c).received + 1, check := crcByte (s.context c).check b } := by
  rw [byteTaken, context_setContext, if_pos rfl]

theorem byteTaken_setsContext (c : Cls) (b : Byte) (st : FrameStore) (s : State) :
    SetsContext c ((byteTaken c b st s).context c) s (byteTaken c b st s) := by
  rw [context_byteTaken]
  exact setsContext_setContext c _ (s.updStore fun _ => st)

/-- A data byte of a frame with storage that takes it (R94, R96). -/
theorem rxByte_of_taken {c : Cls} {b : Byte} {d : DescId} {st : FrameStore} {s : State}
    (hx : (s.context c).disposition.isDiscard = false) (hf : (s.context c).isFull = false)
    (hd : (s.context c).storage = some d) (hst : s.store.lineByte d b = some st) : rxByte c b s =
      if (s.context c).received + 1 = 7 then rxHeaderComplete c d (byteTaken c b st s) else byteTaken c b st s := by
  simp only [rxByte, byteTaken, hx, hf, hd, hst, Bool.false_eq_true, if_false]

/-- A data byte changes the top's context alone, and leaves it sound (R94, R96, R98). -/
theorem rxByte_setsContext (c : Cls) (b : Byte) (s : State) (h : (s.context c).Sound) :
    ∃ x : Context, x.Sound ∧ SetsContext c x s (rxByte c b s) := by
  cases hx : (s.context c).disposition.isDiscard
  · cases hf : (s.context c).isFull
    · obtain ⟨d, hd⟩ : ∃ d, (s.context c).storage = some d := by
        rw [← Option.isSome_iff_exists, h, hx]; rfl
      rcases hst : s.store.lineByte d b with _ | st
      · refine ⟨_, sound_discarded .noStore _,
          (setsContext_discarded c .noStore .noStore s).then (sameContexts_of_rx ?_)⟩
        simp [rxByte, hx, hf, hd, hst]
      · have ht := byteTaken_setsContext c b st s
        have hs := context_byteTaken c b st s
        rw [rxByte_of_taken hx hf hd hst]
        split
        · obtain ⟨x, hs', hx'⟩ := rxHeaderComplete_setsContext c d (byteTaken c b st s) (by rw [hs]; exact h)
            (by rw [hs]; exact hd)
          exact ⟨x, hs', ht.trans hx'⟩
        · exact ⟨_, by rw [hs]; exact h, ht⟩
    · exact ⟨_, sound_discarded _ _,
        by simpa [rxByte, hx, hf] using setsContext_discarded c .overlong .overlong s⟩
  · exact ⟨_, h, by simpa [rxByte, hx] using setsContext_self c s⟩

/-! ### The end of a frame closes its context (R99 to R103) -/

theorem sameContexts_offerAll (d : DescId) (m : PortSet) (s : State) : SameContexts s (offerAll d m s) :=
  sameContexts_of_rx (by simp)

theorem sameContexts_inboxOffer (d : DescId) (s : State) : SameContexts s (inboxOffer d s) :=
  sameContexts_of_rx (by simp)

theorem judgeFrame_setsContext {c : Cls} {f : DescId → State → State} (hf : ∀ d s, SameContexts s (f d s))
    (s : State) : SetsContext c Context.closed s (judgeFrame c f s) := by
  unfold judgeFrame
  split
  · exact (setsContext_closeContext c _).after (sameContexts_countRx _ s)
  · split
    · exact (setsContext_closeContext c _).after (sameContexts_countRx _ s)
    · unfold acceptFrame
      split
      · exact setsContext_setContext c _ s
      · next d _ =>
        exact ((setsContext_setContext c _ (s.updStore (FrameStore.complete d))).then
          (sameContexts_countRx _ _)).then (hf d _)

theorem rxCloseFrame_setsContext (c : Cls) (s : State) : SetsContext c Context.closed s (rxCloseFrame c s) := by
  unfold rxCloseFrame
  split
  · exact setsContext_closeContext c s
  · exact (setsContext_closeContext c _).after (sameContexts_countRx _ s)
  · exact judgeFrame_setsContext (fun d s => sameContexts_offerAll d _ s) s
  · exact judgeFrame_setsContext sameContexts_inboxOffer s

/-! ### The laws of the Reassembly Stack, kept by each change of it -/

/-- The state with the Reassembly Stack l. -/
def restack (l : List OpenFrame) (s : State) : State := s.updRx fun r => { r with stack := l }

@[simp] theorem restack_rx_frame (l : List OpenFrame) (s : State) : (restack l s).rx.mode = s.rx.mode ∧
    (restack l s).rx.stack = l ∧ (restack l s).rx.counters = s.rx.counters := ⟨rfl, rfl, rfl⟩

@[simp] theorem context_restack (l : List OpenFrame) (c : Cls) (s : State) : (restack l s).context c = s.context c := rfl

theorem rxOpenClass_iff (s : State) (c : Cls) : rxOpenClass s c = true ↔ c ∈ s.rx.stack.map OpenFrame.cls := by
  simp [rxOpenClass, List.any_eq_true]

/-- What R88 to R90 say, by the stack's classes. -/
theorem receiveStackOk_iff (s : State) : ReceiveStackOk s ↔
    stackLawful s.rx.stack = true ∧ (s.rx.mode = .resync → s.rx.stack = []) ∧
      (∀ c ∈ s.rx.stack.map OpenFrame.cls, (s.context c).Sound) ∧
        ∀ c, c ∉ s.rx.stack.map OpenFrame.cls → s.context c = Context.closed := by
  unfold ReceiveStackOk
  refine and_congr_right fun _ => and_congr_right fun _ => ?_
  constructor
  · intro h
    refine ⟨fun c hc => ?_, fun c hc => ?_⟩
    · have := h c
      rwa [if_pos ((rxOpenClass_iff s c).2 hc)] at this
    · have := h c
      rwa [if_neg (mt (rxOpenClass_iff s c).1 hc)] at this
  · rintro ⟨hon, hoff⟩ c
    split
    · next hc => exact hon c ((rxOpenClass_iff s c).1 hc)
    · next hc => exact hoff c (mt (rxOpenClass_iff s c).2 hc)

theorem ReceiveStackOk.congr {s t : State} (h : ReceiveStackOk s) (e : SameContexts s t) : ReceiveStackOk t := by
  obtain ⟨em, el, ec⟩ := e
  rw [receiveStackOk_iff] at *
  simpa only [em, el, ec] using h

theorem ReceiveStackOk.congr_rx {s t : State} (h : ReceiveStackOk s) (e : t.rx = s.rx) : ReceiveStackOk t :=
  h.congr (sameContexts_of_rx e)

/-- A lawful stack of the same classes. -/
theorem ReceiveStackOk.restack {l : List OpenFrame} {s : State} (h : ReceiveStackOk s) (hm : s.rx.mode = .normal)
    (hl : stackLawful l = true) (hc : l.map OpenFrame.cls = s.rx.stack.map OpenFrame.cls) :
    ReceiveStackOk (restack l s) := by
  rw [receiveStackOk_iff] at *
  obtain ⟨-, -, hon, hoff⟩ := h
  exact ⟨hl, by simp [hm], by simpa [hc] using hon, by simpa [hc] using hoff⟩

/-- A context on the stack changes and stays sound. -/
theorem ReceiveStackOk.sets {c : Cls} {x : Context} {s t : State} (h : ReceiveStackOk s) (hx : x.Sound)
    (ht : SetsContext c x s t) (hc : c ∈ s.rx.stack.map OpenFrame.cls) : ReceiveStackOk t := by
  obtain ⟨em, el, ec⟩ := ht
  rw [receiveStackOk_iff] at *
  obtain ⟨hl, hm, hon, hoff⟩ := h
  rw [em, el]
  refine ⟨hl, hm, fun k hk => ?_, fun k hk => ?_⟩
  · rw [ec]; split
    · exact hx
    · exact hon k hk
  · rw [ec, if_neg (fun e : c = k => hk (e ▸ hc))]
    exact hoff k hk

/-- A frame of class c is pushed, with a sound context. -/
theorem receiveStackOk_push {c : Cls} {l : List OpenFrame} {x : Context} {s t : State} (h : ReceiveStackOk s)
    (hl : stackLawful l = true) (hc : l.map OpenFrame.cls = c :: s.rx.stack.map OpenFrame.cls)
    (hn : t.rx.mode = .normal) (ht : t.rx.stack = l) (hx : x.Sound)
    (hk : ∀ k, t.context k = if c = k then x else s.context k) : ReceiveStackOk t := by
  rw [receiveStackOk_iff] at *
  obtain ⟨-, -, hon, hoff⟩ := h
  rw [ht, hc]
  refine ⟨hl, by simp [hn], fun k hk' => ?_, fun k hk' => ?_⟩
  · rw [hk]; split
    · exact hx
    · next hne => exact hon k ((List.mem_cons.1 hk').resolve_left (Ne.symm hne))
  · rw [hk, if_neg (fun e : c = k => hk' (e ▸ List.mem_cons_self ..))]
    exact hoff k fun hm => hk' (List.mem_cons_of_mem _ hm)

/-- The top frame leaves the stack, its context closed. -/
theorem receiveStackOk_pop {f : OpenFrame} {fs : List OpenFrame} {s t : State} (h : ReceiveStackOk s)
    (hm : s.rx.mode = .normal) (hs : s.rx.stack = f :: fs) (ht : SetsContext f.cls Context.closed (restack fs s) t) :
    ReceiveStackOk t := by
  obtain ⟨em, el, ec⟩ := ht
  rw [receiveStackOk_iff] at *
  obtain ⟨hl, -, hon, hoff⟩ := h
  rw [hs] at hl hon hoff
  obtain ⟨hf, hl⟩ := (stackLawful_cons f fs).1 hl
  rw [em, el]
  refine ⟨hl, by simp [hm], fun k hk => ?_, fun k hk => ?_⟩
  · obtain ⟨g, hg, rfl⟩ := List.mem_map.1 hk
    rw [ec, if_neg (hf g hg).1.ne]
    exact hon _ (List.mem_cons_of_mem _ hk)
  · rw [ec]; split
    · rfl
    · next hne =>
      refine hoff k fun hk' => ?_
      rcases List.mem_cons.1 hk' with e | hk'
      · exact hne e.symm
      · exact hk hk'

theorem receiveStackOk_resync {s : State} (hl : s.rx.stack = []) (hc : ∀ c, s.context c = Context.closed) :
    ReceiveStackOk s := by
  rw [receiveStackOk_iff, hl]
  exact ⟨rfl, fun _ => rfl, by simp, fun c _ => hc c⟩

/-! ### Every received symbol keeps the laws -/

/-- A legal OPEN adds its class on top (R11). -/
theorem grammarStep_opened {c : Cls} {l l' : List OpenFrame} (e : grammarStep (.opened c) l = some l') :
    l'.map OpenFrame.cls = c :: l.map OpenFrame.cls := by
  rcases l with _ | ⟨f, fs⟩
  · cases e; rfl
  · simp only [grammarStep] at e
    split at e
    · cases e; rfl
    · cases e

/-- CLOSE and ABORT are legal for a top alone, and take it off (R11). -/
theorem grammarStep_pop {y : TrunkSymbol} {l l' : List OpenFrame} (hy : y = .close ∨ y = .abort)
    (e : grammarStep y l = some l') : ∃ f, l = f :: l' := by
  rcases hy with rfl | rfl <;> rcases l with _ | ⟨⟨k, _ | _⟩, fs⟩ <;> simp [grammarStep] at e <;> simp [e]

theorem grammarStep_data {b : Byte} {l l' : List OpenFrame} (e : grammarStep (.data b) l = some l') :
    ∃ c fs, l = ⟨c, .active⟩ :: fs ∧ l' = l := by
  rcases l with _ | ⟨⟨k, _ | _⟩, fs⟩ <;> simp [grammarStep] at e
  exact ⟨k, fs, rfl, e.symm⟩

/-- The symbols that open and end no frame leave the open classes alone (R11). -/
theorem grammarStep_quiet {y : TrunkSymbol} {l l' : List OpenFrame}
    (hy : y = .mark ∨ y = .pause ∨ y = .fill ∨ y = .idle ∨ ∃ c, y = .resume c) (e : grammarStep y l = some l') :
    l'.map OpenFrame.cls = l.map OpenFrame.cls := by
  rcases hy with rfl | rfl | rfl | rfl | ⟨c, rfl⟩ <;> rcases l with _ | ⟨⟨k, _ | _⟩, fs⟩ <;>
    simp [grammarStep] at e <;> simp [← e]

theorem ReceiveStackOk.violation {s : State} : ReceiveStackOk (violation s) :=
  (receiveStackOk_resync (s := breakStream s) (by simp) (by simp)).congr_rx (by simp [Machine.violation])

theorem ReceiveStackOk.rxInNormal {s : State} (h : ReceiveStackOk s) (hm : s.rx.mode = .normal) (y : TrunkSymbol) :
    ReceiveStackOk (rxInNormal y s) := by
  unfold Machine.rxInNormal
  split
  · exact ReceiveStackOk.violation
  next l hg =>
  have hl : stackLawful l = true := stackLawful_grammarStep h.1 hg
  change ReceiveStackOk (actOn y s.rx.stack.head? (Machine.restack l s))
  cases y with
  | opened c =>
    obtain ⟨x, hx, em, el, ec⟩ := openContext_setsContext c (Machine.restack l s)
    exact receiveStackOk_push h hl (grammarStep_opened hg) (em.trans hm) el hx ec
  | data b =>
    obtain ⟨c, fs, hs, rfl⟩ := grammarStep_data hg
    have hr := h.restack hm hl rfl
    have hmem : c ∈ (Machine.restack s.rx.stack s).rx.stack.map OpenFrame.cls := by simp [hs]
    obtain ⟨x, hx, ht⟩ := rxByte_setsContext c b _ (((receiveStackOk_iff _).1 hr).2.2.1 c hmem)
    rw [hs] at hr ht hmem ⊢
    exact hr.sets hx ht hmem
  | close =>
    obtain ⟨f, hs⟩ := grammarStep_pop (.inl rfl) hg
    rw [hs]
    exact receiveStackOk_pop h hm hs (rxCloseFrame_setsContext f.cls _)
  | abort =>
    obtain ⟨f, hs⟩ := grammarStep_pop (.inr rfl) hg
    rw [hs]
    exact receiveStackOk_pop h hm hs (setsContext_closeContext f.cls _)
  | idle => exact h.restack hm hl (grammarStep_quiet (by simp) hg)
  | resume c => exact h.restack hm hl (grammarStep_quiet (by simp) hg)
  | pause => exact h.restack hm hl (grammarStep_quiet (by simp) hg)
  | fill => exact h.restack hm hl (grammarStep_quiet (by simp) hg)
  | mark => exact h.restack hm hl (grammarStep_quiet (by simp) hg)

theorem ReceiveStackOk.rxInResync {s : State} (h : ReceiveStackOk s) (hm : s.rx.mode = .resync) (y : TrunkSymbol) :
    ReceiveStackOk (rxInResync y s) := by
  cases y with
  | opened c =>
    obtain ⟨x, hx, em, el, ec⟩ :=
      openContext_setsContext c (s.updRx fun r => { r with mode := .normal, stack := [⟨c, .active⟩] })
    exact receiveStackOk_push h (l := [⟨c, .active⟩]) rfl (by simp [h.2.1 hm]) em el hx ec
  | _ => exact h

theorem ReceiveStackOk.rxSymbol {s : State} (h : ReceiveStackOk s) (y : TrunkSymbol) :
    ReceiveStackOk (rxSymbol y s) := by
  unfold Machine.rxSymbol
  split
  · next hm => exact h.rxInResync hm y
  · next hm => exact h.rxInNormal hm y

theorem ReceiveStackOk.undecodedWord {s : State} (h : ReceiveStackOk s) : ReceiveStackOk (undecodedWord s) := by
  unfold Machine.undecodedWord
  split
  · exact h
  · exact receiveStackOk_resync (by simp) (by simp)

theorem receiveStackOk_trunkFalls (s : State) : ReceiveStackOk (trunkFalls s) :=
  (receiveStackOk_resync (s := enterResync (interleaverDown (s.updTrunkRx fun _ => LineRx.report false)))
    (by simp) (by simp)).congr_rx rfl

/-! ### Requests and the laws (R106, R170) -/

/-- A traffic reset discards frames on the stack (R106). -/
theorem ReceiveStackOk.discards {s : State} (h : ReceiveStackOk s) (l : List Cls)
    (hl : ∀ c ∈ l, c ∈ s.rx.stack.map OpenFrame.cls) :
    ReceiveStackOk (l.foldl (fun s c => discardContext c .reset s) s) := by
  induction l generalizing s with
  | nil => exact h
  | cons c l ih =>
    have ht := setsContext_discarded c .reset .reset s
    refine ih (h.sets (sound_discarded _ _) ht (hl c (by simp))) fun k hk => ?_
    rw [discardContext_rx_frame c .reset s |>.2.1]
    exact hl k (by simp [hk])

/-- A traffic reset up to the Deinterleaver's part: framers, class queues and ports (R173). -/
def resetBeforeReception (s : State) : State :=
  let s := [0, 1, 2, 3].foldl (fun s p => framerTrafficReset p s) s
  let s := [0, 1, 2, 3, 4, 5].foldl (fun s c => emptyClassQueue c .reset s) s
  [0, 1, 2, 3].foldl (fun s p => portTrafficReset p s) s

theorem performTrafficReset_eq (s : State) :
    performTrafficReset s = .ok (dropInbox (deinterleaverTrafficReset (resetBeforeReception s))) := rfl

theorem resetBeforeReception_rx (s : State) : (resetBeforeReception s).rx = s.rx := by
  simp [resetBeforeReception]

theorem ReceiveStackOk.performTrafficReset {s : State} (h : ReceiveStackOk s) :
    ReceiveStackOk (performTrafficReset s).state := by
  have hd : ReceiveStackOk (deinterleaverTrafficReset (resetBeforeReception s)) :=
    ReceiveStackOk.discards (h.congr_rx (resetBeforeReception_rx s)) _ fun _ hc => hc
  exact hd.congr_rx (by simp [performTrafficReset_eq, Done.ok])

theorem clearCounters_rx (s : State) : (clearCounters s).rx = { s.rx with counters := RxCounters.zero } := by
  simp [clearCounters]

theorem sameContexts_performReadCounters (r : Request) (s : State) :
    SameContexts s (performReadCounters r s).state := by
  unfold performReadCounters
  dsimp only
  split
  · exact ⟨by rw [clearCounters_rx], by rw [clearCounters_rx], fun c => by simp [State.context, clearCounters_rx]⟩
  · exact sameContexts_of_rx rfl

theorem ReceiveStackOk.performKind {s : State} (h : ReceiveStackOk s) (k : ReqKind) (r : Request) :
    ReceiveStackOk (performKind k r s).state := by
  cases k with
  | query => exact h
  | read => unfold Machine.performKind; dsimp only; split <;> exact h
  | write =>
    unfold Machine.performKind
    dsimp only
    split
    · exact h
    · exact h.congr_rx (by simp)
  | commit => exact h.congr_rx (by simp [Machine.performKind])
  | abandon => exact h.congr_rx (by simp [Machine.performKind])
  | setAlign => exact h.congr_rx (by simp [Machine.performKind])
  | setGlobal => exact h.congr_rx (by simp [Machine.performKind])
  | readCounters => exact h.congr (sameContexts_performReadCounters r s)
  | flush => exact h.congr_rx (by simp [Machine.performKind])
  | trafficReset => exact h.performTrafficReset

theorem ReceiveStackOk.perform {s : State} (h : ReceiveStackOk s) (r : Request) :
    ReceiveStackOk (perform r s).state := by
  unfold Machine.perform
  split
  · exact h.performKind _ r
  · exact h
  · exact h

/-! ### Every step keeps the laws -/

theorem receiveStackOk_stacksKept : StacksKept ReceiveStackOk where
  congr _ _ _ e h := h.congr_rx e
  perform r _ h := h.perform r

theorem receiveStackOk_kept : Kept ReceiveStackOk where
  reset _ _ _ _ := receiveStackOk_resync rfl fun c => vget_replicate c Context.closed
  raise _ _ h := h.congr_rx (by simp)
  setDraws _ _ h := h.congr_rx rfl
  beginSlot _ h := h.congr_rx (by simp)
  missedCheck _ h := h.congr_rx (by simp)
  decideSlot _ h := h.congr_rx (by simp)
  endDrain _ _ _ h := h.congr_rx (by simp)
  trunkDown s h := by
    unfold trunkDown
    split
    · exact (receiveStackOk_trunkFalls s).congr_rx (by simp)
    · exact h
  trunkUp _ h := h.congr_rx (by simp)
  tributaryDown _ _ h := h.congr_rx (by simp)
  tributaryUp _ _ h := h.congr_rx (by simp)
  symbolReceived y s h := trunkDecoded_keeps (fun _ _ h => h.congr_rx rfl) (fun _ h => h.congr_rx (by simp))
    (fun _ h => h.rxSymbol y) s h
  undecodable s h := trunkDecoded_keeps (fun _ _ h => h.congr_rx rfl) (fun _ h => h.congr_rx (by simp))
    (fun _ h => h.undecodedWord.congr_rx (by simp [rxUndecodable])) s h
  trunkFailed s h := trunkFailed_keeps (fun _ _ h => h.congr_rx rfl) (fun s _ => receiveStackOk_trunkFalls s)
    (fun _ h => h.undecodedWord) (fun _ _ h => h.congr_rx (by simp)) s h
  mark s h := trunkDecoded_keeps (fun _ _ h => h.congr_rx rfl) (fun _ h => h.congr_rx (by simp))
    (fun _ h => (h.rxSymbol .mark).congr_rx (by simp)) s h
  tribDecoded _ _ _ h := h.congr_rx (by simp)
  tribFailed _ _ h := h.congr_rx (by simp)
  tribTxSlot _ _ h := h.congr_rx (by simp)
  builderChooseJob := receiveStackOk_stacksKept.builderChooseJob
  storeClaimGranted := receiveStackOk_stacksKept.storeClaimGranted

/-- Settles O53: each change of the Reassembly Stack comes with its context's change (`receiveStackOk_push`,
`receiveStackOk_pop`, `ReceiveStackOk.sets`), and nothing else touches either. -/
theorem receiveStackIsKept : Obligations.ReceiveStackIsKept :=
  fun s t h e => receiveStackOk_kept.step (fun _ _ h => h.congr_rx rfl) s t h e

end Sys2Proof.Machine
end

section
/-! One slot of the trunk's receiver: quiet symbols, grammar violations and the byte that completes a header (R90 to
R98). -/

namespace Sys2Proof.Machine

/-! ### The commands of a received trunk word -/

theorem exec_rxCommand {y : TrunkSymbol} (hy : y ≠ .mark) (s : State) :
    exec (rxCommand y) s = .next (whenRunning (trunkSymbol y) s) := by
  cases y with
  | mark => exact absurd rfl hy
  | _ => rfl

theorem trunkDecoded_of_up {s : State} (h : s.trunkRx.up = true) (f : State → State) :
    trunkDecoded f s = heard (f s) := by
  simp [trunkDecoded, h, heard]

theorem exec_rxCommand_of_up {y : TrunkSymbol} (hy : y ≠ .mark) {s : State} (h : TrunkUp s) :
    exec (rxCommand y) s = .next (heard (rxSymbol y s)) := by
  obtain ⟨hr, hu⟩ := h
  rw [exec_rxCommand hy, whenRunning, hr, trunkSymbol, trunkDecoded_of_up hu]
  rfl

theorem exec_rxUndecodable_of_counted {w : LineWord} (hw : countsAsDecoded w = true) {s : State} (h : TrunkUp s) :
    exec (.rxUndecodable w) s = .next (heard (rxUndecodable s)) := by
  obtain ⟨hr, hu⟩ := h
  simp only [exec, execRxUndecodable, hw, whenRunning, hr, if_true, trunkDecoded_of_up hu]
  rfl

theorem rxSymbol_normal {s : State} (h : s.rx.mode = .normal) (y : TrunkSymbol) : rxSymbol y s = rxInNormal y s := by
  simp [rxSymbol, h]

theorem rxSymbol_resync {s : State} (h : s.rx.mode = .resync) (y : TrunkSymbol) : rxSymbol y s = rxInResync y s := by
  simp [rxSymbol, h]

theorem rxInNormal_legal {y : TrunkSymbol} {l : List OpenFrame} {s : State} (h : grammarStep y s.rx.stack = some l) :
    rxInNormal y s = actOn y s.rx.stack.head? (restack l s) := by
  simp only [rxInNormal, h]
  rfl

theorem rxInNormal_illegal {y : TrunkSymbol} {s : State} (h : grammarStep y s.rx.stack = none) :
    rxInNormal y s = violation s := by
  simp [rxInNormal, h]

/-! ### Quiet symbols (R90, R91) -/

theorem actOn_quiet {y : TrunkSymbol} (hy : y = .pause ∨ y = .fill ∨ y = .idle ∨ ∃ c, y = .resume c)
    (f : Option OpenFrame) (s : State) : actOn y f s = s := by
  rcases hy with rfl | rfl | rfl | ⟨c, rfl⟩ <;> rfl

/-- In RESYNC every symbol but OPEN is passed over (R90). -/
theorem rxInResync_passed {y : TrunkSymbol} (hy : ∀ c, y ≠ .opened c) (s : State) : rxInResync y s = s := by
  cases y with
  | opened c => exact absurd rfl (hy c)
  | _ => rfl

/-- Settles O24: in NORMAL the grammar's list is all that a quiet symbol changes, and in RESYNC nothing is handled. -/
theorem quietSymbols : Obligations.QuietSymbols := by
  refine ⟨fun y l s hu hm hy hg => ?_, fun s hu hm => ⟨fun y ho hy => ?_, fun w hw => ?_⟩⟩
  · have hne : y ≠ .mark := by rcases hy with rfl | rfl | rfl | ⟨c, rfl⟩ <;> simp
    rw [exec_rxCommand_of_up hne hu, rxSymbol_normal hm, rxInNormal_legal hg, actOn_quiet hy]
    rfl
  · rw [exec_rxCommand_of_up hy hu, rxSymbol_resync hm, rxInResync_passed ho]
  · rw [exec_rxUndecodable_of_counted hw hu, rxUndecodable, undecodedRaises, undecodedWord, hm]
    rfl

/-! ### Grammar violations (R92) -/

theorem releaseStorage_store (c : Cls) (s : State) :
    (releaseStorage c s).store = (s.context c).storage.elim s.store fun d => s.store.release d := by
  unfold releaseStorage
  split <;> simp_all [FrameStore.relinquish]

theorem closeContext_store (c : Cls) (s : State) :
    (closeContext c s).store = (s.context c).storage.elim s.store fun d => s.store.release d := by
  rw [closeContext, (setContext_frame c _ _).2.2.2.2.2.2.2.2.1, releaseStorage_store]

/-- A FREE descriptor stays FREE while contexts are closed. -/
theorem closeContext_keeps_free {c : Cls} {d : DescId} {s : State} (h : (s.store.desc d).state = .free) :
    ((closeContext c s).store.desc d).state = .free := by
  rw [closeContext_store]
  cases (s.context c).storage with
  | none => exact h
  | some e =>
    simp only [Option.elim, FrameStore.release_desc]
    split
    · rfl
    · exact h

theorem closeContext_frees {c : Cls} {d : DescId} {s : State} (h : (s.context c).storage = some d) :
    ((closeContext c s).store.desc d).state = .free := by
  simp [closeContext_store, h, FrameStore.release_desc, Descriptor.unused]

/-- The storage of every context closed is FREE afterwards (R92, R98, R118). -/
theorem closeContexts_free {c : Cls} {d : DescId} (l : List Cls) {s : State}
    (h : (s.store.desc d).state = .free ∨ c ∈ l ∧ (s.context c).storage = some d) :
    ((l.foldl (fun s c => closeContext c s) s).store.desc d).state = .free := by
  induction l generalizing s with
  | nil => simpa using h
  | cons k l ih =>
    refine ih ?_
    rcases h with h | ⟨hc, h⟩
    · exact .inl (closeContext_keeps_free h)
    · by_cases hk : k = c
      · subst hk; exact .inl (closeContext_frees h)
      · refine .inr ⟨(List.mem_cons.1 hc).resolve_left (Ne.symm hk), ?_⟩
        rwa [context_closeContext, if_neg hk]

theorem closeAll_frees {c : Cls} {d : DescId} {s : State} (h : (s.context c).storage = some d) :
    ((closeAll s).store.desc d).state = .free :=
  closeContexts_free _ (.inr ⟨by fin_cases c <;> simp, h⟩)

theorem closeContexts_store_frame (l : List Cls) (s : State) :
    (l.foldl (fun s c => closeContext c s) s).store.cells = s.store.cells ∧
      (l.foldl (fun s c => closeContext c s) s).store.queues = s.store.queues := by
  induction l generalizing s with
  | nil => exact ⟨rfl, rfl⟩
  | cons c l ih =>
    have h : (closeContext c s).store.cells = s.store.cells ∧ (closeContext c s).store.queues = s.store.queues := by
      rw [closeContext_store]
      cases (s.context c).storage <;> simp
    obtain ⟨h1, h2⟩ := ih (closeContext c s)
    exact ⟨h1.trans h.1, h2.trans h.2⟩

@[simp] theorem closeAll_store_frame (s : State) :
    (closeAll s).store.cells = s.store.cells ∧ (closeAll s).store.queues = s.store.queues :=
  closeContexts_store_frame _ s

@[simp] theorem breakStream_store (s : State) : (breakStream s).store = (closeAll s).store := by
  simp [breakStream, enterResync]

/-- A raise sees the Agent and the cycle counter alone (R177). -/
theorem raise_agent_congr (e : Notice) {s t : State} (ha : t.agent = s.agent)
    (hc : t.sched.counter = s.sched.counter) : (raise e t).agent = (raise e s).agent := by
  simp [raise, ha, hc]

theorem heard_raise (e : Notice) (s : State) : heard (raise e s) = raise e (heard s) := rfl

/-- Whatever makes it, a violation of R92 leaves this state, but for the receiver's run of failures. -/
theorem exec_of_violation {i : Instr} {s : State} (hu : TrunkUp s) (hm : s.rx.mode = .normal)
    (h : (∃ y, i = rxCommand y ∧ grammarStep y s.rx.stack = none) ∨ (∃ w, i = .rxUndecodable w ∧
      (countsAsDecoded w = true ∨ s.trunkRx.failedRun + 1 < Config.downRun))) :
    ∃ f, exec i s = .next (raise .trunkGrammar ((breakStream s).updTrunkRx f)) := by
  rcases h with ⟨y, rfl, hg⟩ | ⟨w, rfl, hw⟩
  · have hne : y ≠ .mark := by rintro rfl; simp [grammarStep] at hg
    exact ⟨fun r => { r with failedRun := 0 }, by
      rw [exec_rxCommand_of_up hne hu, rxSymbol_normal hm, rxInNormal_illegal hg, violation, heard_raise, heard]⟩
  · cases hd : countsAsDecoded w
    · have hr := hw.resolve_left (by simp [hd])
      obtain ⟨hh, hup⟩ := hu
      refine ⟨fun r => { r with failedRun := r.failedRun + 1 }, ?_⟩
      have hn : ¬ Config.downRun ≤ s.trunkRx.failedRun + 1 := by omega
      simp [exec, execRxUndecodable, hd, whenRunning, hh, trunkFailed, hup, undecodedWord, undecodedRaises, hm, hn]
    · refine ⟨fun r => { r with failedRun := 0 }, ?_⟩
      rw [exec_rxUndecodable_of_counted hd hu, rxUndecodable, undecodedRaises, undecodedWord, hm]
      dsimp only
      rw [raiseAll_singleton, heard_raise, heard]

/-- Settles O25: `exec_of_violation` names the state, and `closeAll_frees` the released storage. -/
theorem illegalSymbolIsAViolation : Obligations.IllegalSymbolIsAViolation := by
  intro i s hu hm h
  obtain ⟨f, he⟩ := exec_of_violation hu hm h
  refine ⟨_, he, by simp, by simp, fun c => ?_, by simp, raise_agent_congr _ (by simp) (by simp), by simp,
    by simp [RxOnly], fun c d hd => ?_⟩
  · rw [context_congr (s := breakStream s) (by simp), context_breakStream]
  · simpa using closeAll_frees hd

/-! ### The byte that completes a header (R96) -/

theorem lineByte_queues {d : DescId} {b : Byte} {st st' : FrameStore} (h : st.lineByte d b = some st') :
    st'.queues = st.queues := by
  unfold FrameStore.lineByte FrameStore.lineTakeCell FrameStore.takeCell at h
  split at h
  · split at h
    · cases h
    · next hc =>
      cases h
      split at hc
      · split at hc
        · cases hc
        · cases hc; simp
      · cases hc
  · cases h; simp

theorem portIn_four (b0 b1 b2 b3 : Bool) (p : PortIx) :
    portIn p ((if b0 then (0x1 : PortSet) else 0) ||| (if b1 then 0x2 else 0) ||| (if b2 then 0x4 else 0) |||
      (if b3 then 0x8 else 0)) = ![b0, b1, b2, b3] p := by
  revert b0 b1 b2 b3 p; decide

/-- The ports of a broadcast are the serving ones (R96, R157). -/
theorem portIn_servingPorts (p : PortIx) (s : State) : portIn p (servingPorts s) = (s.port p).serving := by
  rw [servingPorts, portIn_four]
  fin_cases p <;> rfl

theorem portIn_portSingle (p p' : PortIx) : portIn p' (portSingle p) = decide (p' = p) := by
  revert p p'; decide

theorem restack_self (s : State) : restack s.rx.stack s = s := rfl

/-- A data byte of the ACTIVE top goes to its context (R91, R94). -/
theorem exec_rxData_of_active {c : Cls} {fs : List OpenFrame} {b : Byte} {s : State} (hu : TrunkUp s)
    (hm : s.rx.mode = .normal) (hs : s.rx.stack = ⟨c, .active⟩ :: fs) :
    exec (.rxData b) s = .next (heard (rxByte c b s)) := by
  have hg : grammarStep (.data b) s.rx.stack = some s.rx.stack := by simp [hs, grammarStep]
  have he := exec_rxCommand_of_up (y := .data b) (by simp) hu
  rw [rxSymbol_normal hm, rxInNormal_legal hg, restack_self, hs] at he
  exact he

@[simp] theorem discardContext_store_queues (c : Cls) (r : DiscardReason) (s : State) :
    (discardContext c r s).store.queues = s.store.queues := by
  rw [discardContext, (setContext_frame c _ _).2.2.2.2.2.2.2.2.1, releaseStorage_store]
  cases (s.context c).storage <;> simp

@[simp] theorem headerRecorded_queues (c : Cls) (d : DescId) (s : State) :
    (headerRecorded c d s).store.queues = s.store.queues := rfl

theorem rxHeaderComplete_queues (c : Cls) (d : DescId) (s : State) :
    (rxHeaderComplete c d s).store.queues = s.store.queues := by
  rw [rxHeaderComplete_eq]
  split <;> simp

theorem countDiscard_counters_congr {s t : State} (r : DiscardReason) (e : t.rx.counters = s.rx.counters) :
    (countDiscard r t).rx.counters = (countDiscard r s).rx.counters := by
  cases r <;> simp [countDiscard, e]

/-- What byte 7 leaves in the context and the counters, by the disposition it decides (R96, R98). -/
structure HeaderDecided (c : Cls) (d : DescId) (s t : State) : Prop where
  stack : t.rx.stack = s.rx.stack
  received : (t.context c).received = (s.context c).received
  header : (t.context c).header = some (s.store.readHeader d)
  disposition : (t.context c).disposition = headerDisposition s (s.store.readHeader d)
  storage : (t.context c).storage =
    if (headerDisposition s (s.store.readHeader d)).isDiscard then none else (s.context c).storage
  counters : t.rx.counters =
    match headerDisposition s (s.store.readHeader d) with
    | .discard r => (countDiscard r s).rx.counters
    | _ => s.rx.counters

theorem rxHeaderComplete_decides {c : Cls} (d : DescId) {s : State} (hx : (s.context c).disposition = .awaitHeader) :
    HeaderDecided c d s (rxHeaderComplete c d s) := by
  have hr := context_headerRecorded c d s
  rw [rxHeaderComplete_eq]
  rcases hd : headerDisposition s (s.store.readHeader d) with _ | m | _ | r
  · exact ⟨rfl, by simp [hr], by simp [hr], by simp [hr, hx, hd], by simp [hr, hd, Disposition.isDiscard],
      by simp [hd, headerRecorded]⟩
  · exact ⟨rfl, by simp [hr, context_setContext], by simp [hr, context_setContext], by simp [hd, context_setContext],
      by simp [hr, hd, context_setContext, Disposition.isDiscard], by simp [hd, headerRecorded]⟩
  · exact ⟨rfl, by simp [hr, context_setContext], by simp [hr, context_setContext], by simp [hd, context_setContext],
      by simp [hr, hd, context_setContext, Disposition.isDiscard], by simp [hd, headerRecorded]⟩
  · have hc : (countDiscard r (discardContext c r (headerRecorded c d s))).rx.counters =
        (countDiscard r s).rx.counters := countDiscard_counters_congr r (by simp [headerRecorded])
    exact ⟨by simp [headerRecorded], by simp [hr, context_discardContext, Context.discarded],
      by simp [hr, context_discardContext, Context.discarded], by simp [hd, context_discardContext, Context.discarded],
      by simp [hd, context_discardContext, Context.discarded, Disposition.isDiscard], by simp [hd, hc]⟩

/-- Settles O27: byte 7 goes to the context (`exec_rxData_of_active`), and the first line of R96's table that matches
decides (`rxHeaderComplete_decides`). -/
theorem headerDecidesTheDisposition : Obligations.HeaderDecidesTheDisposition := by
  intro c b d st fs s hu hm hs hx hh hd hn hst
  have hk := context_byteTaken c b st s
  have hb : rxByte c b s = rxHeaderComplete c d (byteTaken c b st s) := by
    rw [rxByte_of_taken (by rw [hx]; rfl) (by simp [Context.isFull, hh]) hd hst, if_pos (by omega)]
  have ht : HeaderDecided c d (byteTaken c b st s) (heard (rxByte c b s)) := by
    rw [hb]
    obtain ⟨h1, h2, h3, h4, h5, h6⟩ := rxHeaderComplete_decides d (s := byteTaken c b st s) (by rw [hk]; exact hx)
    exact ⟨h1, h2, h3, h4, h5, h6⟩
  have hq : (rxByte c b s).store.queues = s.store.queues := by
    rw [hb, rxHeaderComplete_queues]; exact lineByte_queues hst
  refine ⟨_, exec_rxData_of_active hu hm hs, ht.stack, ?_, ht.header, ?_, ?_, ?_, ?_⟩
  · rw [ht.received, hk]; exact congrArg (· + 1) hn
  · rw [hb]; simp [heard, byteTaken]
  · rw [hb]; simp [heard, byteTaken]
  · exact ⟨by simp [heard], by simp [heard], by simp [heard], by simp [heard], by simp [heard], by simp [heard],
      by simp [heard], hq⟩
  · obtain ⟨-, -, -, h4, h5, h6⟩ := ht
    have hdisp : headerDisposition (byteTaken c b st s) ((byteTaken c b st s).store.readHeader d) =
      headerDisposition s (st.readHeader d) := rfl
    rw [hdisp] at h4 h5 h6
    have hs' : ((byteTaken c b st s).context c).storage = some d := by rw [hk]; exact hd
    rw [hs'] at h5
    dsimp only
    split
    · next hl =>
      have hD : headerDisposition s (st.readHeader d) = .discard .malformed := if_pos hl
      simp only [hD] at h4 h5 h6
      exact ⟨h4, h5, h6⟩
    next hl =>
    split
    · next ha =>
      have hD : headerDisposition s (st.readHeader d) = .toAgent := (if_neg hl).trans (if_pos ha)
      simp only [hD] at h4 h5 h6
      exact ⟨h4, h5, h6⟩
    next ha =>
    split
    · next hb =>
      have hD : headerDisposition s (st.readHeader d) = .toPorts (servingPorts s) :=
        (if_neg hl).trans ((if_neg ha).trans (if_pos hb))
      simp only [hD] at h4 h5 h6
      exact ⟨⟨_, h4, fun p => portIn_servingPorts p s⟩, h5, h6⟩
    next hb =>
    have hD : headerDisposition s (st.readHeader d) =
        match routeLookup (st.readHeader d).dest s.routes with
        | some p => .toPorts (portSingle p)
        | none => .discard .unrouted := (if_neg hl).trans ((if_neg ha).trans (if_neg hb))
    split
    · next p hp =>
      simp only [hD, hp] at h4 h5 h6
      exact ⟨⟨_, h4, fun p' => portIn_portSingle p p'⟩, h5, h6⟩
    · next hp =>
      simp only [hD, hp] at h4 h5 h6
      exact ⟨h4, h5, h6⟩

end Sys2Proof.Machine
end

section
/-! The tributary transmitter, slot by slot (R138, R139). -/

namespace Sys2Proof.Machine

/-! ### Updates of one port -/

@[simp] theorem vupd_vupd {α : Type} {n : Nat} (v : Vector α n) (i : Fin n) (f g : α → α) :
    vupd (vupd v i f) i g = vupd v i fun x => g (f x) :=
  vector_ext fun j => by by_cases h : i = j <;> simp [vget_vupd, h]

theorem updPort_updPort (s : State) (p : PortIx) (f g : Port → Port) :
    (s.updPort p f).updPort p g = s.updPort p fun q => g (f q) := by
  simp [State.updPort, State.updPorts]

theorem updPort_congr {s : State} {p : PortIx} {f g : Port → Port} (h : f (s.port p) = g (s.port p)) :
    s.updPort p f = s.updPort p g := by
  have hv : vupd s.ports p f = vupd s.ports p g := vector_ext fun j => by
    by_cases hj : p = j
    · subst hj; rw [vget_vupd_self, vget_vupd_self]; exact h
    · simp [vget_vupd, hj]
  simp [State.updPort, State.updPorts, hv]

theorem updPort_self {s : State} {p : PortIx} {f : Port → Port} (h : f (s.port p) = s.port p) : s.updPort p f = s := by
  have hv : vupd s.ports p f = s.ports := vset_eq_self _ _ _ h.symm
  simp [State.updPort, State.updPorts, hv]

theorem updStore_updPort (s : State) (p : PortIx) (f : Port → Port) (g : FrameStore → FrameStore) :
    (s.updPort p f).updStore g = (s.updStore g).updPort p f := rfl

theorem dropRefs_singleton (d : DescId) (s : State) : dropRefs [d] s = s.updStore (FrameStore.dropRef d) := rfl

/-! ### A slot of the transmitter -/

theorem exec_tribTxSlot {p : PortIx} {s : State} (h : s.resetHeld = false) :
    exec (.tribTxSlot p) s = .next (tribTxSlot p s) := by
  simp [exec, execTribTxSlot, whenRunning, h]

/-- A pending MARK displaces the symbol that would have been sent (R139). -/
theorem tribTxSlot_of_mark {p : PortIx} {s t : State} {y : TribSymbol} (hs : (s.port p).serving = true)
    (hm : (s.port p).markPending = true) (hn : txNext p s = (t, y)) : tribTxSlot p s =
      t.updPort p fun q => { q with txLine := some .mark, markPending := false, displaced := some y } := by
  simp [tribTxSlot, hs, txServe, hn, hm, txSend, updPort_updPort]

/-- Without a MARK the symbol is sent, and nothing stays displaced (R138). -/
theorem tribTxSlot_of_symbol {p : PortIx} {s t : State} {y : TribSymbol} (hs : (s.port p).serving = true)
    (hm : (s.port p).markPending = false) (hn : txNext p s = (t, y)) : tribTxSlot p s =
      txSend p y (txSent p y (t.updPort p fun q => { q with displaced := none })) := by
  simp [tribTxSlot, hs, txServe, hn, hm]

theorem txNext_of_displaced {p : PortIx} {s : State} {y : TribSymbol} (h : (s.port p).displaced = some y) :
    txNext p s = (s, y) := by
  simp [txNext, h]

section
variable {p : PortIx} {s : State} (h : (s.port p).displaced = none)
include h

theorem txNext_of_nothing (hx : (s.port p).sending = none) (hd : (s.port p).delivery = []) :
    txNext p s = (s, .idle) := by
  simp [txNext, h, txChoose, hx, hd]

theorem txNext_of_head {d : DescId} {ds : List DescId} (hx : (s.port p).sending = none)
    (hd : (s.port p).delivery = d :: ds) :
    txNext p s = (s.updPort p fun q => { q with delivery := ds, sending := some ⟨d, 0⟩ }, .start) := by
  simp [txNext, h, txChoose, hx, hd]

theorem txNext_of_sending {d : DescId} {n : Nat} (hx : (s.port p).sending = some ⟨d, n⟩) :
    txNext p s = (s, if n < (s.store.desc d).frameBytes then .data (s.store.readByte d (n + 1)) else .ended) := by
  simp [txNext, h, txChoose, hx]

end

/-- IDLE and START leave the passage as it is. -/
theorem txSent_of_gap {y : TribSymbol} (hy : y = .idle ∨ y = .start) (p : PortIx) (s : State) : txSent p y s = s := by
  rcases hy with rfl | rfl <;> rfl

theorem txSent_data {p : PortIx} {b : Byte} {d : DescId} {n : Nat} {s : State}
    (hx : (s.port p).sending = some ⟨d, n⟩) :
    txSent p (.data b) s = s.updPort p fun q => { q with sending := some ⟨d, n + 1⟩ } := by
  simp [txSent, hx]

theorem txSent_ended {p : PortIx} {d : DescId} {n : Nat} {s : State} (hx : (s.port p).sending = some ⟨d, n⟩) :
    txSent p .ended s = (s.updStore (FrameStore.dropRef d)).updPort p fun q =>
      { q with sending := none, counters := { q.counters with delivered := ctrInc q.counters.delivered } } := by
  simp only [txSent, hx, countPort, dropRefs_singleton, updStore_updPort, updPort_updPort]

/-- Settles O38: the symbol of the slot by `txNext`, and the slot with or without a MARK. -/
theorem transmitterSendsTheQueueInOrder : Obligations.TransmitterSendsTheQueueInOrder := by
  intro p s hr
  simp only [exec_tribTxSlot hr, Host.Outcome.next.injEq]
  refine ⟨fun hs => ?_, fun hs hd hm => ⟨fun hx hq => ?_, fun d ds hx hq => ?_, fun d n hx => ?_⟩,
    fun y hs hd => ⟨fun hm => ?_, fun hm => ⟨fun hy => ?_, fun b d n hy hx => ?_, fun d n hy hx => ?_⟩⟩,
    fun hs hd hm => ⟨fun hx hq => ?_, fun d ds hx hq => ?_, fun d n hx hn => ?_, fun d n hx hn => ?_⟩⟩
  · simp [tribTxSlot, hs, txSend]
  · rw [tribTxSlot_of_mark hs hm (txNext_of_nothing hd hx hq)]
  · rw [tribTxSlot_of_mark hs hm (txNext_of_head hd hx hq), updPort_updPort]
  · rw [tribTxSlot_of_mark hs hm (txNext_of_sending hd hx)]
  · rw [tribTxSlot_of_mark hs hm (txNext_of_displaced hd)]
    exact updPort_congr (by simp [hd])
  · rw [tribTxSlot_of_symbol hs hm (txNext_of_displaced hd), txSent_of_gap hy, txSend, updPort_updPort]
  · subst hy
    rw [tribTxSlot_of_symbol hs hm (txNext_of_displaced hd), txSent_data (by simpa using hx), txSend, updPort_updPort,
      updPort_updPort]
  · subst hy
    rw [tribTxSlot_of_symbol hs hm (txNext_of_displaced hd), txSent_ended (by simpa using hx), txSend, updPort_updPort,
      updStore_updPort, updPort_updPort]
    rfl
  · rw [tribTxSlot_of_symbol hs hm (txNext_of_nothing hd hx hq), txSent_of_gap (.inl rfl), txSend, updPort_updPort]
    exact updPort_congr (by simp [hd])
  · rw [tribTxSlot_of_symbol hs hm (txNext_of_head hd hx hq), txSent_of_gap (.inr rfl), txSend, updPort_updPort,
      updPort_updPort]
    exact updPort_congr (by simp [hd])
  · rw [tribTxSlot_of_symbol hs hm (txNext_of_sending hd hx), if_pos hn, txSent_data (by simpa using hx), txSend,
      updPort_updPort, updPort_updPort]
    exact updPort_congr (by simp [hd])
  · rw [tribTxSlot_of_symbol hs hm (txNext_of_sending hd hx), if_neg (by omega), txSent_ended (by simpa using hx), txSend,
      updPort_updPort, updStore_updPort, updPort_updPort]
    exact updPort_congr (s := s.updStore (FrameStore.dropRef d)) (by
      have hp : (s.updStore (FrameStore.dropRef d)).port p = s.port p := rfl
      rw [hp, hd])

end Sys2Proof.Machine
end

section
/-! The receive framer, symbol by symbol (R129 to R133), and what none of its operations touches: the port's line and its
configuration. -/

namespace Sys2Proof.Machine

/-! ### The framer leaves lines and configurations alone -/

/-- Every port of t has the line and the configuration it has in s. -/
def LinesKept (s t : State) : Prop :=
  ∀ q, (t.port q).config = (s.port q).config ∧ (t.port q).rx = (s.port q).rx

namespace LinesKept

theorem of_ports {s t : State} (e : t.ports = s.ports) : LinesKept s t := fun q => by simp [State.port, e]

theorem trans {s t u : State} (h : LinesKept s t) (h' : LinesKept t u) : LinesKept s u :=
  fun q => ⟨(h' q).1.trans (h q).1, (h' q).2.trans (h q).2⟩

theorem serving {s t : State} (h : LinesKept s t) (q : PortIx) : (t.port q).serving = (s.port q).serving := by
  simp [Port.serving, h q]

theorem updPort {f : Port → Port} (h : ∀ q, (f q).config = q.config ∧ (f q).rx = q.rx) (p : PortIx) (s : State) :
    LinesKept s (s.updPort p f) := fun q => by
  rw [port_updPort]
  split
  · exact h _
  · exact ⟨rfl, rfl⟩

theorem updFramer (p : PortIx) (f : Framer → Framer) (s : State) : LinesKept s (updFramer p f s) :=
  updPort (f := fun q => { q with framer := f q.framer }) (fun _ => ⟨rfl, rfl⟩) p s

theorem countPort (p : PortIx) (f : PortCounters → PortCounters) (s : State) : LinesKept s (countPort p f s) :=
  updPort (f := fun q => { q with counters := f q.counters }) (fun _ => ⟨rfl, rfl⟩) p s

theorem raise (e : Notice) (s : State) : LinesKept s (raise e s) := of_ports (by simp)

theorem framerLoses (p : PortIx) (d : DescId) (s : State) : LinesKept s (framerLoses p d s) :=
  updPort (fun q => by split <;> exact ⟨rfl, rfl⟩) p s

theorem failFrame (d : DescId) (r : FailReason) (s : State) : LinesKept s (failFrame d r s) := by
  unfold Machine.failFrame
  split
  · unfold failAtPort
    split
    · exact (countPort _ _ (s.updStore _)).trans (framerLoses _ d _)
    · exact of_ports rfl
    · exact of_ports rfl
    · exact of_ports rfl
  · exact of_ports rfl

theorem framerFails (p : PortIx) (r : FailReason) (y : FramerState) (s : State) :
    LinesKept s (framerFails p r y s) := by
  unfold Machine.framerFails
  split
  · exact of_ports rfl
  · exact (failFrame _ r s).trans (updFramer p _ _)

theorem framerBegin (p : PortIx) (s : State) : LinesKept s (framerBegin p s) := by
  unfold Machine.framerBegin
  split
  · exact updFramer p _ (s.updStore _)
  · exact ((updFramer p _ s).trans (countPort p _ _)).trans (raise _ _)

theorem framerRelinquishes (p : PortIx) (d : DescId) (f : PortCounters → PortCounters) (s : State) :
    LinesKept s (framerRelinquishes p d f s) := (updFramer p _ (s.updStore _)).trans (countPort p f _)

theorem framerAdmit (p : PortIx) (d : DescId) (c : Cls) (s : State) : LinesKept s (framerAdmit p d c s) := by
  unfold Machine.framerAdmit
  split
  · exact framerRelinquishes p d _ s
  · exact updFramer p _ (s.updStore _)

theorem tribHeaderComplete (p : PortIx) (d : DescId) (s : State) : LinesKept s (tribHeaderComplete p d s) := by
  unfold Machine.tribHeaderComplete
  dsimp only
  split
  · exact framerRelinquishes p d _ (s.updStore _)
  · split
    · exact framerRelinquishes p d _ (s.updStore _)
    · split
      · exact framerRelinquishes p d _ ((s.updStore _).updClassifier _)
      · exact framerAdmit p d _ ((s.updStore _).updClassifier _)

theorem framerByte (p : PortIx) (d : DescId) (b : Byte) (s : State) : LinesKept s (framerByte p d b s) := by
  unfold Machine.framerByte
  split
  · exact framerFails p .overlong .discard s
  · split
    · exact (framerFails p .noStore .discard s).trans (of_ports (by simp))
    · dsimp only
      split
      · exact (updFramer p _ (s.updStore _)).trans (tribHeaderComplete p d _)
      · exact updFramer p _ (s.updStore _)

theorem framerEnd (p : PortIx) (d : DescId) (s : State) : LinesKept s (framerEnd p d s) := by
  unfold Machine.framerEnd
  split
  · exact framerFails p .short .idle s
  · split
    · exact framerFails p .badCrc .idle s
    · exact (updFramer p _ (s.updStore _)).trans (countPort p _ _)

theorem idleSlot (p : PortIx) (s : State) : LinesKept s (idleSlot p s) := by
  unfold Machine.idleSlot
  split
  · exact framerFails p .stall .idle s
  · split
    · exact updFramer p _ s
    · exact of_ports rfl

theorem framerSymbol (p : PortIx) (y : TribSymbol) (s : State) : LinesKept s (framerSymbol p y s) := by
  unfold Machine.framerSymbol
  split
  · exact of_ports rfl
  · exact framerBegin p s
  · exact (framerFails p .short .discard s).trans (framerBegin p _)
  · exact of_ports rfl
  · split
    · exact of_ports rfl
    · exact framerByte p _ _ s
  · exact updFramer p _ s
  · split
    · exact of_ports rfl
    · exact framerEnd p _ s
  · exact updFramer p _ s
  · exact framerFails p .stationAbort .idle s
  · exact (idleSlot p s).trans (of_ports (by simp))

theorem tribSymbol (p : PortIx) (y : TribSymbol) (s : State) : LinesKept s (tribSymbol p y s) := by
  unfold Machine.tribSymbol
  split
  · exact framerSymbol p y s
  · exact of_ports rfl

end LinesKept

/-! ### A received slot at a serving port -/

theorem up_of_serving {q : Port} (h : q.serving = true) : q.rx.up = true := by
  simp only [Port.serving, Bool.and_eq_true] at h
  exact h.2

theorem tribDecoded_of_serving {p : PortIx} {s : State} (h : (s.port p).serving = true) (y : TribSymbol) :
    tribDecoded p y s = heardAt p (framerSymbol p y s) := by
  simp [tribDecoded, up_of_serving h, tribSymbol, h, heardAt]

section
variable {p : PortIx} {s : State} (h : Serving p s)
include h

theorem exec_tribRxStart : exec (.tribRxStart p) s = .next (heardAt p (framerSymbol p .start s)) := by
  simp [exec, execTribRxStart, whenRunning, h.1, tribDecoded_of_serving h.2]

theorem exec_tribRxEnd : exec (.tribRxEnd p) s = .next (heardAt p (framerSymbol p .ended s)) := by
  simp [exec, execTribRxEnd, whenRunning, h.1, tribDecoded_of_serving h.2]

theorem exec_tribRxAbort : exec (.tribRxAbort p) s = .next (heardAt p (framerSymbol p .abort s)) := by
  simp [exec, execTribRxAbort, whenRunning, h.1, tribDecoded_of_serving h.2]

theorem exec_tribRxMark : exec (.tribRxMark p) s = .next (heardAt p s) := by
  simp [exec, execTribRxMark, whenRunning, h.1, tribDecoded_of_serving h.2, framerSymbol]

end

/-! ### The ends of a frame (R132) -/

theorem framerFails_of_desc {p : PortIx} {d : DescId} {s : State} (h : (s.framer p).desc = some d) (r : FailReason)
    (y : FramerState) : framerFails p r y s = updFramer p (Framer.freed y) (failFrame d r s) := by
  simp [framerFails, h]

theorem framer_updFramer (p : PortIx) (f : Framer → Framer) (s : State) :
    (updFramer p f s).framer p = f (s.framer p) := by
  simp [State.framer, updFramer]

section
variable {p : PortIx} {s : State}

theorem framerSymbol_end_outside (h : (s.framer p).receiving = false) {y : TribSymbol}
    (hy : y = .ended ∨ y = .abort) : framerSymbol p y s = updFramer p (fun f => { f with state := .idle }) s := by
  rcases hy with rfl | rfl <;> simp [framerSymbol, h]

theorem framerSymbol_start_outside (h : (s.framer p).receiving = false) :
    framerSymbol p .start s = framerBegin p s := by
  simp [framerSymbol, h]

variable {d : DescId} (h : (s.framer p).receiving = true) (hd : (s.framer p).desc = some d)
include h hd

theorem framerSymbol_start_inside : framerSymbol p .start s =
    framerBegin p (updFramer p (Framer.freed .discard) (failFrame d .short s)) := by
  simp [framerSymbol, h, framerFails_of_desc hd]

theorem framerSymbol_abort_inside : framerSymbol p .abort s =
    updFramer p (Framer.freed .idle) (failFrame d .stationAbort s) := by
  simp [framerSymbol, h, framerFails_of_desc hd]

theorem framerSymbol_end_inside : framerSymbol p .ended s = framerEnd p d s := by
  simp [framerSymbol, h, hd]

end

theorem release_complete (d : DescId) (st : FrameStore) : (st.complete d).release d = st.release d := by
  simp [FrameStore.release, FrameStore.complete, FrameStore.updDesc, FrameStore.desc]

/-- A good END: the frame is COMPLETE, counted, and handed over by the framer (R132). -/
theorem framerEnd_good {p : PortIx} {d : DescId} {s : State} (hf : (s.store.desc d).isFull = true)
    (hc : (s.framer p).check = 0) : framerEnd p d s =
      (s.updStore fun st => (st.complete d).settle d).updPort p fun q => { q with
        framer := { q.framer with state := .idle, desc := none, gap := 0 }
        counters := { q.counters with received := ctrInc q.counters.received } } := by
  simp only [framerEnd, hf, hc, countPort, updFramer, updPort_updPort]
  rfl

theorem settle_complete_of_held {d : DescId} {st : FrameStore} (h : (st.desc d).refs ≠ 0) :
    (st.complete d).settle d = st.updDesc d fun x => { x with state := .complete } :=
  FrameStore.settle_of_refs _ _ (by simpa [FrameStore.complete] using h)

theorem settle_complete_of_free {d : DescId} {st : FrameStore} (h : (st.desc d).refs = 0) :
    (st.complete d).settle d = st.release d := by
  rw [FrameStore.settle, if_pos (by simp [FrameStore.complete, h, FrameStore.ended]), release_complete]

/-! ### Gap slots (R133) -/

@[simp] theorem wordHeardAt_true (p : PortIx) (s : State) : wordHeardAt p true s = heardAt p s := rfl

theorem updPortRx_raise (p : PortIx) (f : LineRx → LineRx) (e : Notice) (s : State) :
    updPortRx p f (raise e s) = raise e (updPortRx p f s) := rfl

theorem updPortRx_raiseIdle (p q : PortIx) (f : LineRx → LineRx) (s t : State) :
    updPortRx p f (raiseAll (idleRaises q s) t) = raiseAll (idleRaises q s) (updPortRx p f t) := by
  unfold idleRaises
  split <;> rfl

/-- A gap slot that makes no DOWN report is the framer's IDLE slot (R133, R185). -/
theorem exec_tribRxIdle {p : PortIx} {w : LineWord} {s : State} (h : Serving p s)
    (hn : NoReport p (countsAsDecoded w) s) : exec (.tribRxIdle p w) s =
      .next (raiseAll (idleRaises p s) (wordHeardAt p (countsAsDecoded w) (idleSlot p s))) := by
  cases hw : countsAsDecoded w
  · have hr : ¬ Config.downRun ≤ (s.port p).rx.failedRun + 1 := by
      rw [hw] at hn
      exact Nat.not_le.2 (hn.resolve_left (by simp))
    have hi := (LinesKept.idleSlot p s p).2
    simp [exec, execTribRxIdle, whenRunning, h.1, tribIdle, hw, tribFailed, up_of_serving h.2, updPortRx, hi, hr,
      wordHeardAt]
  · simp only [exec, execTribRxIdle, whenRunning, h.1, tribIdle, hw, if_true, tribDecoded_of_serving h.2,
      wordHeardAt_true, framerSymbol, heardAt, updPortRx_raiseIdle]
    rfl

theorem stallDueAt_iff {p : PortIx} {s : State} (h : (s.port p).serving = true) : stallDueAt p s = true ↔
    (s.framer p).receiving = true ∧ (s.port p).config.stallLimit ≤ (s.framer p).gap + 1 := by
  simp [stallDueAt, h]

theorem exec_tributaryStall_of_due {p : PortIx} {w : LineWord} {s : State} (h : stallDueAt p s = true) :
    exec (.tributaryStall p w) s = exec (.tribRxIdle p w) s := by
  simp [exec, execTributaryStall, execTribRxIdle, whenRunning, tributaryStall, h]

theorem exec_tributaryStall_of_not_due {p : PortIx} {w : LineWord} {s : State} (h : stallDueAt p s = false) :
    exec (.tributaryStall p w) s = .next s := by
  simp [exec, execTributaryStall, whenRunning, tributaryStall, h]

/-- Settles O37: the framer's equation for each symbol, in and outside a frame. -/
theorem frameEndsAndGaps : Obligations.FrameEndsAndGaps := by
  refine ⟨fun p s hs => ⟨fun ho => ⟨?_, ?_⟩, fun d hi hd => ⟨?_, ?_, fun hf => ?_, fun hf hc => ?_, fun hf hc hr => ?_,
    fun hf hc hr => ?_⟩⟩, fun p w s hs => ⟨exec_tribRxMark hs, fun hn => ⟨fun ho => ?_, fun hi hg => ⟨?_, ?_⟩,
      fun d hi hd hg => ⟨?_, ?_⟩⟩⟩⟩
  · rw [exec_tribRxEnd hs, framerSymbol_end_outside ho (.inl rfl)]
  · rw [exec_tribRxAbort hs, framerSymbol_end_outside ho (.inr rfl)]
  · have hk := (LinesKept.failFrame d .short s).trans (LinesKept.updFramer p (Framer.freed .discard) _)
    have hs' : Serving p (updFramer p (Framer.freed .discard) (failFrame d .short s)) :=
      ⟨by simpa using hs.1, (hk.serving p).trans hs.2⟩
    rw [exec_tribRxStart hs, framerSymbol_start_inside hi hd, exec_tribRxStart hs',
      framerSymbol_start_outside (by rw [framer_updFramer]; rfl)]
  · rw [exec_tribRxAbort hs, framerSymbol_abort_inside hi hd]
  · rw [exec_tribRxEnd hs, framerSymbol_end_inside hi hd, framerEnd, hf, framerFails_of_desc hd]
    rfl
  · rw [exec_tribRxEnd hs, framerSymbol_end_inside hi hd, framerEnd, hf, if_neg (by simp), if_pos hc,
      framerFails_of_desc hd]
  · rw [exec_tribRxEnd hs, framerSymbol_end_inside hi hd, framerEnd_good hf hc, State.updStore,
      settle_complete_of_held hr]
  · rw [exec_tribRxEnd hs, framerSymbol_end_inside hi hd, framerEnd_good hf hc, State.updStore,
      settle_complete_of_free hr]
  · have hd : stallDueAt p s = false := by simp [stallDueAt, ho]
    rw [exec_tribRxIdle hs hn]
    simp [idleRaises, idleSlot, hd, ho]
  · have hd : stallDueAt p s = false := by simp [stallDueAt]; omega
    rw [exec_tribRxIdle hs hn]
    simp [idleRaises, idleSlot, hd, hi, hs.2, updFramer]
  · exact exec_tributaryStall_of_not_due (by simp [stallDueAt]; omega)
  · have hdue : stallDueAt p s = true := (stallDueAt_iff hs.2).2 ⟨hi, hg⟩
    rw [exec_tributaryStall_of_due hdue, exec_tribRxIdle hs hn]
    simp [idleRaises, idleSlot, hdue, framerFails_of_desc hd]
  · exact (exec_tributaryStall_of_due ((stallDueAt_iff hs.2).2 ⟨hi, hg⟩)).symm

end Sys2Proof.Machine
end

section
/-! Line events of a tributary: what a DOWN and an UP event leave at the port (R127, R135, R137 to R139). -/

namespace Sys2Proof.Machine

@[simp] theorem port_dropRefs (ds : List DescId) (s : State) (p : PortIx) : (dropRefs ds s).port p = s.port p := rfl

theorem port_emptyDelivery (p : PortIx) (s : State) :
    (emptyDelivery p s).port p = { s.port p with delivery := [] } := by
  simp [emptyDelivery]

theorem port_abandonSending (p : PortIx) (s : State) : (abandonSending p s).port p =
    { s.port p with sending := none, markPending := false, displaced := none } := by
  unfold abandonSending
  split
  · next h => rw [port_updPort_self, ← h]
  · simp

/-- The frame in reception is failed as a line that goes DOWN fails it (R135). -/
def receptionEnded (p : PortIx) (s : State) : State :=
  if (s.framer p).receiving then framerFails p .lineDown .idle s else s

theorem stopServing_eq (p : PortIx) (s : State) : stopServing p s =
    abandonSending p (emptyDelivery p (updFramer p (Framer.freed .idle) (receptionEnded p s))) := rfl

/-- A port that stops serving keeps of its registers the line, the configuration and the counters (R127). -/
theorem port_stopServing (p : PortIx) (s : State) : (stopServing p s).port p =
    { (receptionEnded p s).port p with
      framer := ((receptionEnded p s).framer p).freed .idle, delivery := [], sending := none, markPending := false
      displaced := none } := by
  rw [stopServing_eq, port_abandonSending, port_emptyDelivery, updFramer, port_updPort_self]
  rfl

theorem LinesKept.receptionEnded (p : PortIx) (s : State) : LinesKept s (receptionEnded p s) := by
  unfold Machine.receptionEnded
  split
  · exact framerFails p .lineDown .idle s
  · exact of_ports rfl

theorem counters_updFramer (p : PortIx) (f : Framer → Framer) (s : State) :
    ((updFramer p f s).port p).counters = (s.port p).counters := by
  simp [updFramer]

/-- The port of a frame that fails counts it, by the group of the reason (R140). -/
theorem counters_failFrame {p : PortIx} {d : DescId} {s : State} (r : FailReason)
    (hf : (s.store.desc d).state = .filling) (ho : (s.store.desc d).origin = some (.tributary p)) :
    ((failFrame d r s).port p).counters = failGroup r (s.port p).counters := by
  simp only [failFrame, hf, if_true, ho, failAtPort, framerLoses, port_updPort_self, countPort]
  split <;> rfl

theorem counters_receptionEnded {p : PortIx} {d : DescId} {s : State} (h : (s.framer p).receiving = true)
    (hd : (s.framer p).desc = some d) (hf : (s.store.desc d).state = .filling)
    (ho : (s.store.desc d).origin = some (.tributary p)) : ((receptionEnded p s).port p).counters =
      { (s.port p).counters with failedOther := ctrInc (s.port p).counters.failedOther } := by
  rw [receptionEnded, if_pos h, framerFails_of_desc hd, counters_updFramer, counters_failFrame _ hf ho]
  rfl

/-- The port as the receiver's DOWN report finds it. -/
def lineDown (p : PortIx) (s : State) : State := s.updPort p fun q => { q with rx := LineRx.report false }

theorem port_lineDown (p : PortIx) (s : State) :
    (lineDown p s).port p = { s.port p with rx := LineRx.report false } := by simp [lineDown]

/-! ### A change of a port, by what it makes of its serving (R127) -/

section
variable {p : PortIx} {f : Port → Port} {s : State}

theorem changePort_stops (h : (s.port p).serving = true) (h' : (f (s.port p)).serving = false) :
    changePort p f s = stopServing p (s.updPort p f) := by
  simp [changePort, h, h']

theorem changePort_starts (h : (s.port p).serving = false) (h' : (f (s.port p)).serving = true) :
    changePort p f s = startServing p (s.updPort p f) := by
  simp [changePort, h, h']

theorem changePort_stays (h : (f (s.port p)).serving = (s.port p).serving) : changePort p f s = s.updPort p f := by
  cases hs : (s.port p).serving <;> simp [changePort, h, hs]

end

theorem serving_of_down (q : Port) : ({ q with rx := LineRx.report false } : Port).serving = false := by
  simp [Port.serving, LineRx.report]

theorem tributaryFalls_of_serving {p : PortIx} {s : State} (h : (s.port p).serving = true) :
    tributaryFalls p s = stopServing p (lineDown p s) := changePort_stops h (serving_of_down _)

theorem tributaryFalls_of_idle {p : PortIx} {s : State} (h : (s.port p).serving = false) :
    tributaryFalls p s = lineDown p s := changePort_stays ((serving_of_down _).trans h.symm)

/-- An UP event of a DOWN line starts the framer of an enabled port (R127, R128). -/
theorem tributaryUp_of_down {p : PortIx} {s : State} (h : (s.port p).rx.up = false) : tributaryUp p s =
    raise (.lineEvent (.tributary p) true) (s.updPort p fun q => { q with
      rx := { up := true, failedRun := 0, decodedRun := 0 }
      framer := if q.config.enabled then { q.framer with state := .idle, desc := none, gap := 0 } else q.framer }) := by
  have hb : (s.port p).serving = false := by simp [Port.serving, h]
  rw [tributaryUp, h, if_neg (by simp)]
  congr 1
  cases he : (s.port p).config.enabled
  · rw [changePort_stays (by simp [Port.serving, he])]
    exact updPort_congr (by rw [he]; rfl)
  · rw [changePort_starts hb (by simp [Port.serving, he, LineRx.report]), startServing, updFramer, updPort_updPort]
    exact updPort_congr (by rw [he]; rfl)

theorem exec_tributaryDown {p : PortIx} {s : State} (h : s.resetHeld = false) :
    exec (.tributaryDown p) s = .next (tributaryDown p s) := by
  simp [exec, execTributaryDown, whenRunning, h]

theorem exec_tributaryUp {p : PortIx} {s : State} (h : s.resetHeld = false) :
    exec (.tributaryUp p) s = .next (tributaryUp p s) := by
  simp [exec, execTributaryUp, whenRunning, h]

/-- Settles O21: the port after `port_stopServing`, and the UP event by `tributaryUp_of_down`. -/
theorem tributaryDownAndUp : Obligations.TributaryDownAndUp := by
  refine ⟨fun p s hs => ?_, fun p s hr hu => by rw [exec_tributaryUp hr, tributaryUp_of_down hu],
    fun p s hr => ⟨fun hu he => ?_, fun hu => ?_, fun hu => ?_⟩⟩
  · have hd : tributaryDown p s = raise (.lineEvent (.tributary p) false) (tributaryFalls p s) := by
      rw [tributaryDown, if_pos (up_of_serving hs.2)]
    have hp : (tributaryDown p s).port p = (stopServing p (lineDown p s)).port p := by
      rw [hd, ← tributaryFalls_of_serving hs.2]; simp [State.port]
    have hf : (tributaryDown p s).framer p = ((receptionEnded p (lineDown p s)).framer p).freed .idle := by
      rw [State.framer, hp, port_stopServing]
    have hk := LinesKept.receptionEnded p (lineDown p s) p
    have hl := port_lineDown p s
    have hfr : (lineDown p s).framer p = s.framer p := by rw [State.framer, hl]; rfl
    refine ⟨_, exec_tributaryDown hs.1, ?_, ?_, by rw [hf]; rfl, by rw [hf]; rfl, by rw [hf]; rfl,
      by rw [hp, port_stopServing], by rw [hp, port_stopServing], by rw [hp, port_stopServing],
      by rw [hp, port_stopServing], fun d hi hdesc hst ho => ?_, fun hi => ?_, ?_, by simp, by simp, by simp, by simp,
      by simp, by simp, by simp, by simp⟩
    · rw [hp, port_stopServing]; exact hk.2.trans (by rw [hl]; rfl)
    · rw [hp, port_stopServing]; exact hk.1.trans (by rw [hl])
    · rw [hp, port_stopServing]
      exact (counters_receptionEnded (s := lineDown p s) (by rw [hfr]; exact hi) (by rw [hfr]; exact hdesc) hst
        ho).trans (by rw [hl])
    · rw [hp, port_stopServing]
      simp [receptionEnded, hfr, hi, hl]
    · rw [hd]; exact raise_agent_congr _ (by simp) (by simp)
  · rw [exec_tributaryDown hr, tributaryDown, if_pos hu, tributaryFalls_of_idle (by simp [Port.serving, he])]
    rfl
  · rw [exec_tributaryDown hr, tributaryDown, hu, if_neg (by simp)]
  · rw [exec_tributaryUp hr, tributaryUp, if_pos hu]

end Sys2Proof.Machine
end

section
/-! The runs of code words that make a line report (R185), on the trunk and on the tributaries; and that the order in which
notices have been taken is all that separates the 16th failed word from its slot's handling and a DOWN event (R177; log 8). -/

namespace Sys2Proof.Machine

/-! ### The notices of a step do not change what its blocks do -/

/-- The state with another Notice List, after another number of free choices. -/
def withNotices (l : List NoticeRecord) (n : Nat) (s : State) : State :=
  { s with agent := { s.agent with notices := l }, freeDraws := n }

theorem raise_eq (e : Notice) (s : State) : ∃ l n, raise e s = withNotices l n s := by
  cases h : maskAllows s.agent.noticeMask e.kind
  · exact ⟨s.agent.notices, s.freeDraws, by simp only [raise, State.updAgent, h]; rfl⟩
  · exact ⟨noteRaise e s.sched.counter s.agent.notices, s.freeDraws, by simp only [raise, State.updAgent, h]; rfl⟩

theorem withNotices_withNotices (l l' : List NoticeRecord) (n n' : Nat) (s : State) :
    withNotices l n (withNotices l' n' s) = withNotices l n s := rfl

theorem raiseAll_eq (es : List Notice) (s : State) : ∃ l n, raiseAll es s = withNotices l n s := by
  refine raiseAll_keeps (P := fun t => ∃ l n, t = withNotices l n s) ?_ ?_ es s ⟨s.agent.notices, s.freeDraws, rfl⟩
  · rintro e _ ⟨l, n, rfl⟩
    obtain ⟨l', n', h⟩ := raise_eq e (withNotices l n s)
    exact ⟨l', n', h⟩
  · rintro n' _ ⟨l, n, rfl⟩
    exact ⟨l, n', rfl⟩

/-- What a raise looks at is the same in both states. -/
def SameList (s t : State) : Prop :=
  t.agent.notices = s.agent.notices ∧ t.agent.noticeMask = s.agent.noticeMask ∧ t.sched.counter = s.sched.counter

theorem SameList.raise {s t : State} (h : SameList s t) (e : Notice) : SameList (raise e s) (raise e t) := by
  obtain ⟨hn, hm, hc⟩ := h
  refine ⟨?_, ?_, by simpa using hc⟩
  · simp only [Machine.raise, State.updAgent_agent, hm, hc]
    split <;> simp [hn]
  · simp only [Machine.raise, State.updAgent_agent]
    split <;> split <;> simp [hm]

theorem SameList.raiseEach {s t : State} (h : SameList s t) (es : List Notice) :
    SameList (raiseEach es s) (raiseEach es t) := by
  induction es generalizing s t with
  | nil => exact h
  | cons e es ih => exact ih (h.raise e)

theorem SameList.raiseAll {s t : State} (h : SameList s t) (hd : t.freeDraws = s.freeDraws) (es : List Notice) :
    (raiseAll es t).agent.notices = (raiseAll es s).agent.notices := by
  unfold Machine.raiseAll
  rw [hd]
  exact (SameList.raiseEach (s := s.setDraws (freeOrder es s.freeDraws).2)
    (t := t.setDraws (freeOrder es s.freeDraws).2) h _).1

/-- Two ways to the state u, but for the notices, differ in the order of the raises alone. -/
theorem butForRaises_of {es : List Notice} {s u v : State} {l : List NoticeRecord} {n : Nat} (h : SameList s u)
    (hd : u.freeDraws = s.freeDraws) (hv : v = withNotices l n u) : ButForRaises es s v (raiseAll es u) := by
  refine ⟨?_, h.raiseAll hd es⟩
  obtain ⟨l', n', ht⟩ := raiseAll_eq es u
  rw [ht, hv]
  rfl

/-! ### The trunk's blocks do not look at the notices, nor reception at the receiver's runs -/

/-- A change beside the Deinterleaver and the Frame Store. -/
structure BesideReception (g : State → State) : Prop where
  rx : ∀ s, (g s).rx = s.rx
  store : ∀ s, (g s).store = s.store
  updRx : ∀ f s, (g s).updRx f = g (s.updRx f)
  updStore : ∀ f s, (g s).updStore f = g (s.updStore f)

theorem besideReception_withNotices (l : List NoticeRecord) (n : Nat) : BesideReception (withNotices l n) :=
  ⟨fun _ => rfl, fun _ => rfl, fun _ _ => rfl, fun _ _ => rfl⟩

theorem besideReception_updTrunkRx (f : LineRx → LineRx) : BesideReception (State.updTrunkRx f) :=
  ⟨fun _ => rfl, fun _ => rfl, fun _ _ => rfl, fun _ _ => rfl⟩

namespace BesideReception
variable {g : State → State} (h : BesideReception g)
include h

theorem setContext (c : Cls) (x : Context) (s : State) : setContext c x (g s) = g (setContext c x s) := h.updRx _ s

theorem closeContext (c : Cls) (s : State) : closeContext c (g s) = g (closeContext c s) := by
  have hc : (g s).context c = s.context c := context_congr (h.rx s) c
  have hr : releaseStorage c (g s) = g (releaseStorage c s) := by
    unfold releaseStorage
    rw [hc]
    split
    · rfl
    · rw [h.updStore, h.setContext]
  rw [Machine.closeContext, hr, h.setContext]
  rfl

theorem closeAll (s : State) : closeAll (g s) = g (closeAll s) := by
  unfold Machine.closeAll
  generalize ([0, 1, 2, 3, 4, 5] : List Cls) = l
  induction l generalizing s with
  | nil => rfl
  | cons c l ih => rw [List.foldl_cons, h.closeContext, ih, List.foldl_cons]

theorem enterResync (s : State) : enterResync (g s) = g (enterResync s) := by
  rw [Machine.enterResync, h.closeAll, h.updRx, Machine.enterResync]

theorem undecodedWord (s : State) : undecodedWord (g s) = g (undecodedWord s) := by
  rw [Machine.undecodedWord, Machine.undecodedWord, h.rx]
  split
  · rfl
  · rw [breakStream, h.enterResync, countRx, h.updRx]
    rfl

end BesideReception

/-- An entry of the Preemption Stack dropped and counted aborted (R46). -/
def entryDropped (e : StackEntry) (s : State) : State :=
  countIl (fun k => { k with aborted := bump e.cls k.aborted }) (s.updStore (FrameStore.dropRef e.desc))

theorem dropEntries_cons (e : StackEntry) (es : List StackEntry) (s : State) :
    dropEntries (e :: es) s = dropEntries es (entryDropped e s) := rfl

theorem entryDropped_withNotices (e : StackEntry) (l : List NoticeRecord) (n : Nat) (s : State) :
    entryDropped e (withNotices l n s) = withNotices l n (entryDropped e s) := rfl

theorem dropEntries_withNotices (es : List StackEntry) (l : List NoticeRecord) (n : Nat) (s : State) :
    dropEntries es (withNotices l n s) = withNotices l n (dropEntries es s) := by
  induction es generalizing s with
  | nil => rfl
  | cons e es ih => rw [dropEntries_cons, entryDropped_withNotices, ih, dropEntries_cons]

theorem endDrain_withNotices (l : List NoticeRecord) (n : Nat) (s : State) :
    endDrain (withNotices l n s) = withNotices l n (endDrain s) := by
  have h : (withNotices l n s).agent.owed = s.agent.owed := rfl
  unfold endDrain
  dsimp only [State.updIl_agent]
  rw [h]
  split <;> rfl

/-- The Preemption Stack without its entries, their references not yet dropped. -/
def stackCleared (s : State) : State := s.updIl fun il => { il with stack := [] }

/-- The Preemption Stack emptied, entry by entry (R46), a drain not yet ended. -/
def entriesDropped (s : State) : State := dropEntries s.il.stack (stackCleared s)

theorem interleaverDown_eq (s : State) : interleaverDown s =
    if (entriesDropped s).il.drain then endDrain (entriesDropped s) else entriesDropped s := rfl

theorem entriesDropped_withNotices (l : List NoticeRecord) (n : Nat) (s : State) :
    entriesDropped (withNotices l n s) = withNotices l n (entriesDropped s) :=
  dropEntries_withNotices s.il.stack l n (stackCleared s)

theorem interleaverDown_withNotices (l : List NoticeRecord) (n : Nat) (s : State) :
    interleaverDown (withNotices l n s) = withNotices l n (interleaverDown s) := by
  have hd : (withNotices l n (entriesDropped s)).il.drain = (entriesDropped s).il.drain := rfl
  rw [interleaverDown_eq, interleaverDown_eq, entriesDropped_withNotices, hd]
  split
  · exact endDrain_withNotices l n _
  · rfl

theorem trunkFalls_eq (s : State) : trunkFalls s =
    (enterResync (interleaverDown (s.updTrunkRx fun _ => LineRx.report false))).updAlign Align.trunkDown := rfl

theorem updTrunkRx_withNotices (f : LineRx → LineRx) (l : List NoticeRecord) (n : Nat) (s : State) :
    (withNotices l n s).updTrunkRx f = withNotices l n (s.updTrunkRx f) := rfl

theorem updAlign_withNotices (f : Align → Align) (l : List NoticeRecord) (n : Nat) (s : State) :
    (withNotices l n s).updAlign f = withNotices l n (s.updAlign f) := rfl

theorem trunkFalls_withNotices (l : List NoticeRecord) (n : Nat) (s : State) :
    trunkFalls (withNotices l n s) = withNotices l n (trunkFalls s) := by
  rw [trunkFalls_eq, updTrunkRx_withNotices, interleaverDown_withNotices,
    (besideReception_withNotices l n).enterResync, updAlign_withNotices, ← trunkFalls_eq]

/-- A DOWN event begins both runs again, whatever they were. -/
theorem trunkFalls_updTrunkRx (f : LineRx → LineRx) (s : State) : trunkFalls (s.updTrunkRx f) = trunkFalls s := rfl

theorem endDrain_sameList (s : State) : SameList s (endDrain s) := by
  unfold endDrain SameList admitBuilt
  dsimp only
  split <;> simp

theorem trunkFalls_sameList (s : State) : SameList s (trunkFalls s) := by
  have h : SameList s (interleaverDown (s.updTrunkRx fun _ => LineRx.report false)) := by
    rw [interleaverDown_eq]
    split
    · obtain ⟨h1, h2, h3⟩ := endDrain_sameList (entriesDropped (s.updTrunkRx fun _ => LineRx.report false))
      exact ⟨by rw [h1]; simp [entriesDropped, stackCleared], by rw [h2]; simp [entriesDropped, stackCleared],
        by rw [h3]; simp [entriesDropped, stackCleared]⟩
    · simp [SameList, entriesDropped, stackCleared]
  obtain ⟨h1, h2, h3⟩ := h
  exact ⟨by simpa [trunkFalls] using h1, by simpa [trunkFalls] using h2, by simp [trunkFalls]⟩

/-! ### A word on the trunk (R185) -/

/-- A word that counts as decoded is a slot of the receiver, whatever then handles it. -/
theorem exec_decodedOnTrunk {i : Instr} (h : DecodedOnTrunk i) : ∃ f : State → State,
    (∀ s, (f s).trunkRx = s.trunkRx) ∧ ∀ s, exec i s = .next (whenRunning (trunkDecoded f) s) := by
  rcases h with ⟨y, rfl⟩ | ⟨w, hw, rfl⟩
  · by_cases hy : y = .mark
    · subst hy
      exact ⟨fun s => markArrives (rxSymbol .mark s), fun s => by simp, fun s => rfl⟩
    · exact ⟨rxSymbol y, fun s => by simp, fun s => exec_rxCommand hy s⟩
  · exact ⟨rxUndecodable, fun s => by simp, fun s => by simp [exec, execRxUndecodable, hw]⟩

theorem trunkDecoded_of_down {s : State} (h : s.trunkRx.up = false) (f : State → State) : trunkDecoded f s =
    if 64 ≤ s.trunkRx.decodedRun + 1 then
      raise (.lineEvent .trunk true) { s with trunkRx := { up := true, failedRun := 0, decodedRun := 0 } }
    else { s with trunkRx := { s.trunkRx with decodedRun := s.trunkRx.decodedRun + 1 } } := by
  rw [trunkDecoded, if_neg (by simp [h])]
  by_cases hd : 64 ≤ s.trunkRx.decodedRun + 1
  · rw [if_pos hd]
    exact (if_pos hd).trans (by rw [trunkUp, if_neg (by simp [h])]; rfl)
  · rw [if_neg hd]
    exact if_neg hd

theorem exec_rxUndecodable_of_failed {w : LineWord} (hw : countsAsDecoded w = false) {s : State}
    (hr : s.resetHeld = false) : exec (.rxUndecodable w) s = .next (trunkFailed s) := by
  simp [exec, execRxUndecodable, hw, whenRunning, hr]

theorem trunkFailed_of_up {s : State} (h : s.trunkRx.up = true) : trunkFailed s =
    if 16 ≤ s.trunkRx.failedRun + 1 then
      raiseAll (undecodedRaises s ++ [.lineEvent .trunk false]) (trunkFalls (undecodedWord s))
    else raiseAll (undecodedRaises s)
      ((undecodedWord s).updTrunkRx fun r => { r with failedRun := r.failedRun + 1 }) := by
  simp only [trunkFailed, h, if_true, trunkFalls_updTrunkRx, State.updTrunkRx_trunkRx,
    (undecodedWord_frame s).2.2.2.1]
  rfl

theorem trunkFailed_resetHeld (s : State) : (trunkFailed s).resetHeld = s.resetHeld := by
  unfold trunkFailed
  dsimp only
  split
  · split <;> simp
  · simp

theorem exec_trunkDown {s : State} (h : s.resetHeld = false) : exec .trunkDown s = .next (trunkDown s) := by
  simp [exec, execTrunkDown, whenRunning, h]

theorem undecodedRaises_eq (s : State) :
    undecodedRaises s = if s.rx.mode = .normal then [.trunkGrammar] else [] := by
  unfold undecodedRaises
  split <;> simp_all

/-- The 16th failure in a row is its slot's handling and a DOWN event, the order of the notices apart. -/
theorem trunkFailed_sixteenth {s : State} (h : s.trunkRx.up = true) (hf : s.trunkRx.failedRun + 1 = 16) :
    let s' := s.updTrunkRx fun r => { r with failedRun := 0 }
    ButForRaises (undecodedRaises s ++ [.lineEvent .trunk false]) s (trunkDown (trunkFailed s')) (trunkFailed s) := by
  intro s'
  have hu : ∃ l n, trunkFailed s' = withNotices l n ((undecodedWord s).updTrunkRx fun r => { r with failedRun := 1 }) := by
    obtain ⟨l, n, e⟩ := raiseAll_eq (undecodedRaises s')
      ((undecodedWord s').updTrunkRx fun r => { r with failedRun := r.failedRun + 1 })
    refine ⟨l, n, ?_⟩
    rw [trunkFailed_of_up (s := s') h, if_neg (by simp [s']), e, (besideReception_updTrunkRx _).undecodedWord]
    rfl
  obtain ⟨l, n, e⟩ := hu
  have hv : ∃ l n, trunkDown (trunkFailed s') = withNotices l n (trunkFalls (undecodedWord s)) := by
    have hup : (trunkFailed s').trunkRx.up = true := by
      rw [e]
      exact (congrArg LineRx.up (undecodedWord_frame s).2.2.2.1).trans h
    obtain ⟨l', n', e'⟩ := raise_eq (.lineEvent .trunk false) (trunkFalls (trunkFailed s'))
    refine ⟨l', n', ?_⟩
    rw [trunkDown, if_pos hup, e', e, trunkFalls_withNotices, trunkFalls_updTrunkRx, withNotices_withNotices]
  obtain ⟨l, n, hv⟩ := hv
  rw [trunkFailed_of_up h, if_pos (by omega)]
  obtain ⟨h1, h2, h3⟩ := trunkFalls_sameList (undecodedWord s)
  exact butForRaises_of ⟨by rw [h1]; simp, by rw [h2]; simp, by rw [h3]; simp⟩ (by simp) hv

/-! ### The framer looks neither at the notices nor at its receiver's runs -/

/-- A change beside the framers, their frames' store and their counters. -/
structure BesideFramers (g : State → State) : Prop where
  store : ∀ s, (g s).store = s.store
  framer : ∀ q s, (g s).framer q = s.framer q
  config : ∀ q s, ((g s).port q).config = (s.port q).config
  serving : ∀ q s, ((g s).port q).serving = (s.port q).serving
  updStore : ∀ f s, (g s).updStore f = g (s.updStore f)
  updPort : ∀ q f, (∀ x r, f { x with rx := r } = { f x with rx := r }) → ∀ s, (g s).updPort q f = g (s.updPort q f)

theorem besideFramers_withNotices (l : List NoticeRecord) (n : Nat) : BesideFramers (withNotices l n) :=
  ⟨fun _ => rfl, fun _ _ => rfl, fun _ _ => rfl, fun _ _ => rfl, fun _ _ => rfl, fun _ _ _ _ => rfl⟩

theorem updPort_comm {p q : PortIx} {f g : Port → Port} (h : ∀ x, f (g x) = g (f x)) (s : State) :
    (s.updPort p g).updPort q f = (s.updPort q f).updPort p g := by
  have hv : vupd (vupd s.ports p g) q f = vupd (vupd s.ports q f) p g := vector_ext fun j => by
    by_cases hp : p = j <;> by_cases hq : q = j <;> simp [vget_vupd, hp, hq, h]
  simp only [State.updPort, State.updPorts, hv]

theorem besideFramers_updPortRx {f : LineRx → LineRx} (hf : ∀ r, (f r).up = r.up) (p : PortIx) :
    BesideFramers (updPortRx p f) where
  store _ := rfl
  framer q s := by
    simp only [State.framer, updPortRx, port_updPort]
    split <;> rfl
  config q s := by
    simp only [updPortRx, port_updPort]
    split <;> rfl
  serving q s := by
    simp only [updPortRx, port_updPort]
    split
    · simp [Port.serving, hf]
    · rfl
  updStore _ _ := rfl
  updPort q g hg s := updPort_comm (fun x => by
    have hx : (g x).rx = x.rx := by
      have e := congrArg Port.rx (hg x x.rx)
      exact e
    rw [hg, hx]) s

namespace BesideFramers
variable {g : State → State} (h : BesideFramers g)
include h

theorem updFramer (p : PortIx) (f : Framer → Framer) (s : State) : updFramer p f (g s) = g (updFramer p f s) :=
  h.updPort p _ (fun _ _ => rfl) s

theorem failFrame (d : DescId) (r : FailReason) (s : State) : failFrame d r (g s) = g (failFrame d r s) := by
  unfold Machine.failFrame
  rw [h.store]
  split
  · unfold failAtPort
    rw [h.updStore]
    split
    · rw [countPort, h.updPort _ _ (fun _ _ => rfl), framerLoses, h.updPort _ _ fun x r => by split <;> rfl]
      rfl
    · rfl
    · rfl
    · rfl
  · rfl

theorem framerFails (p : PortIx) (r : FailReason) (y : FramerState) (s : State) :
    framerFails p r y (g s) = g (framerFails p r y s) := by
  unfold Machine.framerFails
  rw [h.framer]
  split
  · rfl
  · rw [h.failFrame, h.updFramer]

theorem stallDueAt (p : PortIx) (s : State) : stallDueAt p (g s) = stallDueAt p s := by
  simp only [Machine.stallDueAt, h.serving, h.framer, h.config]

theorem idleSlot (p : PortIx) (s : State) : idleSlot p (g s) = g (idleSlot p s) := by
  unfold Machine.idleSlot
  rw [h.stallDueAt, h.serving, h.framer, h.framerFails, h.updFramer]
  split
  · rfl
  · split <;> rfl

theorem idleRaises (p : PortIx) (s : State) : idleRaises p (g s) = idleRaises p s := by
  simp only [Machine.idleRaises, h.stallDueAt]

end BesideFramers

/-! ### A DOWN event of a tributary looks neither at the notices nor at the receiver's runs -/

theorem emptyDelivery_withNotices (p : PortIx) (l : List NoticeRecord) (n : Nat) (s : State) :
    emptyDelivery p (withNotices l n s) = withNotices l n (emptyDelivery p s) := rfl

theorem abandonSending_withNotices (p : PortIx) (l : List NoticeRecord) (n : Nat) (s : State) :
    abandonSending p (withNotices l n s) = withNotices l n (abandonSending p s) := by
  have h : (withNotices l n s).port p = s.port p := rfl
  unfold abandonSending
  rw [h]
  split <;> rfl

theorem stopServing_withNotices (p : PortIx) (l : List NoticeRecord) (n : Nat) (s : State) :
    stopServing p (withNotices l n s) = withNotices l n (stopServing p s) := by
  have hg := besideFramers_withNotices l n
  have hr : receptionEnded p (withNotices l n s) = withNotices l n (receptionEnded p s) := by
    unfold receptionEnded
    rw [hg.framer, hg.framerFails]
    split <;> rfl
  rw [stopServing_eq, hr, hg.updFramer, emptyDelivery_withNotices, abandonSending_withNotices, stopServing_eq]

theorem lineDown_withNotices (p : PortIx) (l : List NoticeRecord) (n : Nat) (s : State) :
    lineDown p (withNotices l n s) = withNotices l n (lineDown p s) := rfl

theorem tributaryFalls_withNotices (p : PortIx) (l : List NoticeRecord) (n : Nat) (s : State) :
    tributaryFalls p (withNotices l n s) = withNotices l n (tributaryFalls p s) := by
  have hv : ((withNotices l n s).port p).serving = (s.port p).serving := rfl
  cases hs : (s.port p).serving
  · rw [tributaryFalls_of_idle (hv.trans hs), tributaryFalls_of_idle hs, lineDown_withNotices]
  · rw [tributaryFalls_of_serving (hv.trans hs), tributaryFalls_of_serving hs, lineDown_withNotices,
      stopServing_withNotices]

theorem tributaryFalls_updPortRx {f : LineRx → LineRx} (hf : ∀ r, (f r).up = r.up) (p : PortIx) (s : State) :
    tributaryFalls p (updPortRx p f s) = tributaryFalls p s := by
  have hl : lineDown p (updPortRx p f s) = lineDown p s := updPort_updPort s p _ _
  have hv := (besideFramers_updPortRx hf p).serving p s
  cases hs : (s.port p).serving
  · rw [tributaryFalls_of_idle (hv.trans hs), tributaryFalls_of_idle hs, hl]
  · rw [tributaryFalls_of_serving (hv.trans hs), tributaryFalls_of_serving hs, hl]

/-- The line of a port after a DOWN event. -/
theorem rx_tributaryFalls (p : PortIx) (s : State) : ((tributaryFalls p s).port p).rx = LineRx.report false := by
  cases hs : (s.port p).serving
  · rw [tributaryFalls_of_idle hs, port_lineDown]
  · rw [tributaryFalls_of_serving hs, port_stopServing]
    exact (LinesKept.receptionEnded p (lineDown p s) p).2.trans (by rw [port_lineDown])

/-! ### A word on a tributary (R185) -/

theorem exec_decodedAt {p : PortIx} {i : Instr} (h : DecodedAt p i) :
    ∃ y, ∀ s, exec i s = .next (whenRunning (tribDecoded p y) s) := by
  rcases h with rfl | rfl | rfl | rfl | ⟨b, rfl⟩ | ⟨w, hw, rfl⟩
  · exact ⟨_, fun s => rfl⟩
  · exact ⟨_, fun s => rfl⟩
  · exact ⟨_, fun s => rfl⟩
  · exact ⟨_, fun s => rfl⟩
  · exact ⟨_, fun s => rfl⟩
  · exact ⟨.idle, fun s => by simp [exec, execTribRxIdle, whenRunning, tribIdle, hw]⟩

theorem rx_updPortRx (p : PortIx) (f : LineRx → LineRx) (s : State) :
    ((updPortRx p f s).port p).rx = f (s.port p).rx := by
  simp [updPortRx]

theorem tribDecoded_of_down {p : PortIx} {s : State} (h : (s.port p).rx.up = false) (y : TribSymbol) :
    tribDecoded p y s =
      if 64 ≤ (s.port p).rx.decodedRun + 1 then
        raise (.lineEvent (.tributary p) true) (s.updPort p fun q => { q with
          rx := { up := true, failedRun := 0, decodedRun := 0 }
          framer := if q.config.enabled then { q.framer with state := .idle, desc := none, gap := 0 } else q.framer })
      else s.updPort p fun q => { q with rx := { q.rx with decodedRun := q.rx.decodedRun + 1 } } := by
  have hr := rx_updPortRx p (fun r => { r with decodedRun := r.decodedRun + 1 }) s
  rw [tribDecoded, if_neg (by simp [h])]
  dsimp only
  rw [hr]
  by_cases hd : 64 ≤ (s.port p).rx.decodedRun + 1
  · rw [if_pos hd]
    refine (if_pos hd).trans ?_
    rw [tributaryUp_of_down (by rw [hr]; exact h), updPortRx, updPort_updPort]
  · rw [if_neg hd]
    exact if_neg hd

theorem exec_tribRxIdle_of_failed {p : PortIx} {w : LineWord} (hw : countsAsDecoded w = false) {s : State}
    (hr : s.resetHeld = false) : exec (.tribRxIdle p w) s = .next (tribFailed p s) := by
  simp [exec, execTribRxIdle, whenRunning, hr, tribIdle, hw]

/-- A failure counted. -/
def LineRx.failed (r : LineRx) : LineRx := { r with failedRun := r.failedRun + 1 }

theorem tribFailed_of_up {p : PortIx} {s : State} (h : (s.port p).rx.up = true) : tribFailed p s =
    if 16 ≤ (s.port p).rx.failedRun + 1 then
      raiseAll (idleRaises p s ++ [.lineEvent (.tributary p) false]) (tributaryFalls p (idleSlot p s))
    else raiseAll (idleRaises p s) (updPortRx p LineRx.failed (idleSlot p s)) := by
  have hr := rx_updPortRx p LineRx.failed (idleSlot p s)
  have hi := (LinesKept.idleSlot p s p).2
  have ht := tributaryFalls_updPortRx (f := LineRx.failed) (fun _ => rfl) p (idleSlot p s)
  rw [tribFailed, if_pos h]
  dsimp only
  change (if Config.downRun ≤ ((updPortRx p LineRx.failed (idleSlot p s)).port p).rx.failedRun then
    raiseAll _ (tributaryFalls p (updPortRx p LineRx.failed (idleSlot p s))) else _) = _
  rw [hr, hi, ht]
  rfl

theorem idleRaises_eq (p : PortIx) (s : State) : idleRaises p s =
    if (s.port p).serving = true ∧ (s.framer p).receiving = true ∧
      (s.port p).config.stallLimit ≤ (s.framer p).gap + 1 then [.stallAbort (.tributary p)] else [] := by
  simp [idleRaises, stallDueAt, and_assoc]

/-- The 16th failure in a row is its slot's handling and a DOWN event, the order of the notices apart. -/
theorem tribFailed_sixteenth {p : PortIx} {s : State} (h : (s.port p).rx.up = true)
    (hf : (s.port p).rx.failedRun + 1 = 16) :
    let s' := updPortRx p (fun r => { r with failedRun := 0 }) s
    ButForRaises (idleRaises p s ++ [.lineEvent (.tributary p) false]) s (tributaryDown p (tribFailed p s'))
      (tribFailed p s) := by
  intro s'
  have hb := besideFramers_updPortRx (f := fun r => { r with failedRun := 0 }) (fun _ => rfl) p
  have hrx : (s'.port p).rx = { (s.port p).rx with failedRun := 0 } := rx_updPortRx p _ s
  have hu : ∃ l n, tribFailed p s' = withNotices l n (updPortRx p LineRx.failed
      (updPortRx p (fun r => { r with failedRun := 0 }) (idleSlot p s))) := by
    obtain ⟨l, n, e⟩ := raiseAll_eq (idleRaises p s') (updPortRx p LineRx.failed (idleSlot p s'))
    refine ⟨l, n, ?_⟩
    rw [tribFailed_of_up (s := s') (by rw [hrx]; exact h), if_neg (by rw [hrx]; simp), e, hb.idleSlot]
  obtain ⟨l, n, e⟩ := hu
  have hv : ∃ l n, tributaryDown p (tribFailed p s') = withNotices l n (tributaryFalls p (idleSlot p s)) := by
    have hup : ((tribFailed p s').port p).rx.up = true := by
      rw [e]
      exact (congrArg LineRx.up ((rx_updPortRx p _ _).trans (congrArg LineRx.failed (rx_updPortRx p _ _)))).trans
        ((congrArg LineRx.up (LinesKept.idleSlot p s p).2).trans h)
    obtain ⟨l', n', e'⟩ := raise_eq (.lineEvent (.tributary p) false) (tributaryFalls p (tribFailed p s'))
    refine ⟨l', n', ?_⟩
    rw [tributaryDown, if_pos hup, e', e, tributaryFalls_withNotices,
      tributaryFalls_updPortRx (f := LineRx.failed) (fun _ => rfl),
      tributaryFalls_updPortRx (f := fun r => { r with failedRun := 0 }) (fun _ => rfl), withNotices_withNotices]
  obtain ⟨l, n, hv⟩ := hv
  rw [tribFailed_of_up h, if_pos (by omega)]
  exact butForRaises_of (by simp [SameList]) (by simp) hv

/-! ### The four kinds of line reports -/

/-- Settles O22: the equations of a decoded and of a failed word on each line, and `trunkFailed_sixteenth` and
`tribFailed_sixteenth` for the DOWN report. -/
theorem runsOfWordsMakeTheReports : Obligations.RunsOfWordsMakeTheReports := by
  intro s hr
  refine ⟨fun i hi => ?_, fun w hw => ⟨fun hu => ?_, fun hu hf => ?_, fun hu hf => ?_⟩, fun p i hi => ?_,
    fun p w hw => ⟨fun hu => ?_, fun hu hf => ?_, fun hu hf => ?_⟩, fun p w hs hi hg => ?_⟩
  · obtain ⟨f, hf, he⟩ := exec_decodedOnTrunk hi
    have he' : exec i s = .next (trunkDecoded f s) := by simp [he, whenRunning, hr]
    refine ⟨fun hu => ⟨_, he', ?_⟩, fun hu hd => ?_, fun hu hd => ?_⟩
    · rw [trunkDecoded_of_up hu, heard, State.updTrunkRx_trunkRx, hf]
    · rw [he', trunkDecoded_of_down hu, if_neg (by omega)]
    · rw [he', trunkDecoded_of_down hu, if_pos (by omega)]
  · rw [exec_rxUndecodable_of_failed hw hr, trunkFailed, hu, if_neg (by simp)]
    rfl
  · refine ⟨_, exec_rxUndecodable_of_failed hw hr, ?_⟩
    rw [trunkFailed_of_up hu, if_neg (by omega)]
    simp
  · have h := trunkFailed_sixteenth hu hf
    rw [undecodedRaises_eq] at h
    refine ⟨_, _, _, exec_rxUndecodable_of_failed hw hr, ?_, exec_rxUndecodable_of_failed hw hr, ?_, h⟩
    · exact exec_trunkDown ((trunkFailed_resetHeld _).trans hr)
    · rw [trunkFailed_of_up hu, if_pos (by omega)]
      simp [LineRx.report, trunkFalls]
  · obtain ⟨y, he⟩ := exec_decodedAt hi
    have he' : exec i s = .next (tribDecoded p y s) := by simp [he, whenRunning, hr]
    refine ⟨fun hu => ⟨_, he', ?_⟩, fun hu hd => ?_, fun hu hd => ?_⟩
    · rw [tribDecoded, if_pos hu, rx_updPortRx, (LinesKept.tribSymbol p y s p).2]
    · rw [he', tribDecoded_of_down hu, if_neg (by omega)]
    · rw [he', tribDecoded_of_down hu, if_pos (by omega)]
  · rw [exec_tribRxIdle_of_failed hw hr, tribFailed, hu, if_neg (by simp)]
    rfl
  · refine ⟨_, exec_tribRxIdle_of_failed hw hr, ?_⟩
    have hp : ∀ es t, ((raiseAll es t).port p).rx = (t.port p).rx := fun es t => by simp [State.port]
    rw [tribFailed_of_up hu, if_neg (by omega), hp, rx_updPortRx, (LinesKept.idleSlot p s p).2]
    rfl
  · have h := tribFailed_sixteenth hu hf
    rw [idleRaises_eq] at h
    refine ⟨_, _, _, exec_tribRxIdle_of_failed hw hr, exec_tributaryDown ?_, exec_tribRxIdle_of_failed hw hr, ?_, h⟩
    · exact (tribFailed_frame p _).2.1.trans hr
    · have hp : ∀ es t, ((raiseAll es t).port p).rx = (t.port p).rx := fun es t => by simp [State.port]
      rw [tribFailed_of_up hu, if_pos (by omega), hp, rx_tributaryFalls]
      rfl
  · exact exec_tributaryStall_of_due ((stallDueAt_iff hs).2 ⟨hi, hg⟩)

end Sys2Proof.Machine
end

section
/-! The frames that the Agent builds: the check register (R4), the bytes of a frame (R3), and the claimed descriptor
that holds them once they are written (R108, R116). -/

namespace Sys2Proof.Machine

/-! ### The check register (R4) -/

/-- A register fed its own high byte shifts it out. -/
theorem crcByte_hiByte (r : BitVec 16) : crcByte r (hiByte r) = r <<< 8 := by
  simp [crcByte, crcBit, hiByte, BitVec.msb_eq_getLsbD_last, ← BitVec.shiftLeft_add]

theorem hiByte_shiftLeft (r : BitVec 16) : hiByte (r <<< 8) = loByte r := by
  apply BitVec.eq_of_toNat_eq
  simp [hiByte, loByte, Nat.shiftLeft_eq, Nat.shiftRight_eq_div_pow]
  omega

/-- The register fed its own two bytes is 0: what makes the check of a whole frame 0 (R4). -/
theorem crcBytes_own (r : BitVec 16) : crcBytes r [hiByte r, loByte r] = 0 := by
  have h : crcBytes r [hiByte r, loByte r] = crcByte (crcByte r (hiByte r)) (loByte r) := rfl
  rw [h, crcByte_hiByte, ← hiByte_shiftLeft, crcByte_hiByte, ← BitVec.shiftLeft_add]
  simp

theorem crcBytes_append (r : BitVec 16) (bs cs : List Byte) :
    crcBytes r (bs ++ cs) = crcBytes (crcBytes r bs) cs := by
  simp [crcBytes]

/-! ### Fields of two bytes (R3) -/

theorem hiByte_eq (w : BitVec 16) : hiByte w = BitVec.ofNat 8 (w.toNat / 256) := by
  apply BitVec.eq_of_toNat_eq
  simp [hiByte, Nat.shiftRight_eq_div_pow]

theorem loByte_eq (w : BitVec 16) : loByte w = BitVec.ofNat 8 w.toNat := by
  apply BitVec.eq_of_toNat_eq
  simp [loByte]

theorem bytesOf_two (n : Nat) : bytesOf 2 n = [BitVec.ofNat 8 (n / 256), BitVec.ofNat 8 n] := by
  simp [bytesOf, List.range_succ]

theorem bytesOf_word (w : BitVec 16) : bytesOf 2 w.toNat = [hiByte w, loByte w] := by
  rw [bytesOf_two, hiByte_eq, loByte_eq]

theorem natBytes_two (n : Nat) : natBytes 2 n = bytesOf 2 n := by
  rw [bytesOf_two]
  rfl

theorem word16_bytes (n : Nat) (h : n < 65536) :
    (word16 (BitVec.ofNat 8 (n / 256)) (BitVec.ofNat 8 n)).toNat = n := by
  rw [word16_toNat]
  simp
  omega

/-! ### The bytes of a frame (R3, R4) -/

/-- Header and payload of a frame. -/
def frameBody (dest src : Addr) (tag : Byte) (payload : List Byte) : List Byte :=
  bytesOf 2 dest.toNat ++ bytesOf 2 src.toNat ++ [tag] ++ bytesOf 2 payload.length ++ payload

theorem frameOf_eq (dest src : Addr) (tag : Byte) (payload : List Byte) : frameOf dest src tag payload =
    frameBody dest src tag payload ++ bytesOf 2 (crcBytes 0xFFFF (frameBody dest src tag payload)).toNat := by
  have hb : frameBody dest src tag payload =
      [hiByte dest, loByte dest, hiByte src, loByte src, tag] ++ natBytes 2 payload.length ++ payload := by
    rw [frameBody, bytesOf_word, bytesOf_word, natBytes_two]
    rfl
  rw [hb, bytesOf_word]
  rfl

theorem crcBytes_frameOf (dest src : Addr) (tag : Byte) (payload : List Byte) :
    crcBytes 0xFFFF (frameOf dest src tag payload) = 0 := by
  rw [frameOf_eq, crcBytes_append, bytesOf_word, crcBytes_own]

theorem length_frameOf (dest src : Addr) (tag : Byte) (payload : List Byte) :
    (frameOf dest src tag payload).length = payload.length + 9 := by
  simp [frameOf_eq, frameBody, bytesOf]
  omega

/-! ### Writing and reading the bytes of a chain (R108) -/

namespace FrameStore

theorem byteAddr_congr {st st' : FrameStore} {d : DescId} (h : (st'.desc d).chain = (st.desc d).chain) (k : Nat) :
    st'.byteAddr d k = st.byteAddr d k := by
  simp [byteAddr, h]

theorem readByte_congr {st st' : FrameStore} {d : DescId} (h : (st'.desc d).chain = (st.desc d).chain)
    (hc : st'.cells = st.cells) (k : Nat) : st'.readByte d k = st.readByte d k := by
  simp [readByte, byteAddr_congr h, hc]

theorem writeByte_chain (st : FrameStore) (d : DescId) (k : Nat) (b : Byte) :
    ((st.writeByte d k b).desc d).chain = (st.desc d).chain := by
  obtain ⟨n, h, -⟩ := st.writeByte_desc d k b
  rw [h]

/-- A chain long enough has an address for byte k. -/
theorem byteAddr_of_lt {st : FrameStore} {d : DescId} {k : Nat} (h : k - 1 < 64 * (st.desc d).chain.length) :
    ∃ a, st.byteAddr d k = some a := by
  have hk : (k - 1) / Config.cellBytes < (st.desc d).chain.length := Nat.div_lt_of_lt_mul h
  exact ⟨_, by rw [byteAddr, List.getElem?_eq_getElem hk]; rfl⟩

/-- Two bytes of a chain without repeated cells have two addresses. -/
theorem byteAddr_inj {st : FrameStore} {d : DescId} (hn : (st.desc d).chain.Nodup) {k k' a : Nat} (h1 : 1 ≤ k)
    (h1' : 1 ≤ k') (h : st.byteAddr d k = some a) (h' : st.byteAddr d k' = some a) : k = k' := by
  simp only [byteAddr, Option.map_eq_some_iff, Config.cellBytes] at h h'
  obtain ⟨c, hc, rfl⟩ := h
  obtain ⟨c', hc', he⟩ := h'
  have hm : c'.val = c.val := by omega
  have hcc : c' = c := Fin.ext hm
  subst hcc
  obtain ⟨hl, hg⟩ := List.getElem?_eq_some_iff.1 hc
  obtain ⟨hl', hg'⟩ := List.getElem?_eq_some_iff.1 hc'
  have hi : (k - 1) / 64 = (k' - 1) / 64 := (hn.getElem_inj_iff).1 (hg.trans hg'.symm)
  omega

/-- A byte read after one was written. -/
theorem readByte_writeByte {st : FrameStore} {d : DescId} (hw : Memory.wf st.cells = true)
    (hn : (st.desc d).chain.Nodup) {k k' : Nat} (h1 : 1 ≤ k) (h1' : 1 ≤ k')
    (hk : k - 1 < 64 * (st.desc d).chain.length) (b : Byte) :
    (st.writeByte d k b).readByte d k' = if k' = k then b else st.readByte d k' := by
  obtain ⟨a, ha⟩ := byteAddr_of_lt hk
  have hc : (st.writeByte d k b).cells = Memory.write st.cells a b := by simp [writeByte, ha]
  have hp := ((Memory.wf_iff _).1 hw).1
  rw [readByte, byteAddr_congr (st.writeByte_chain d k b), hc]
  rcases he : st.byteAddr d k' with _ | a'
  · rw [if_neg (by rintro rfl; simp [ha] at he), readByte, he]
  · simp only [Memory.read_write hp]
    by_cases hkk : k' = k
    · subst hkk
      rw [ha] at he
      cases he
      simp
    · rw [if_neg hkk, if_neg fun e : a' = a => hkk (byteAddr_inj hn h1' h1 (e ▸ he) ha), readByte, he]

theorem writeByte_wf {st : FrameStore} (hw : Memory.wf st.cells = true) (d : DescId) (k : Nat) (b : Byte) :
    Memory.wf (st.writeByte d k b).cells = true := by
  unfold writeByte
  split
  · next a ha => exact Memory.wf_write hw (byteAddr_lt ha) b
  · exact hw

theorem writeBytes_chain (d : DescId) (k : Nat) (bs : List Byte) (st : FrameStore) :
    ((st.writeBytes d k bs).desc d).chain = (st.desc d).chain := by
  obtain ⟨n, h, -⟩ := writeBytes_desc d k bs st
  rw [h]

/-- A byte read after a list was written from byte k on. -/
theorem readByte_writeBytes {d : DescId} (bs : List Byte) {st : FrameStore} (hw : Memory.wf st.cells = true)
    (hn : (st.desc d).chain.Nodup) {k k' : Nat} (h1 : 1 ≤ k) (h1' : 1 ≤ k')
    (hk : k - 1 + bs.length ≤ 64 * (st.desc d).chain.length) :
    (st.writeBytes d k bs).readByte d k' =
      if k ≤ k' ∧ k' < k + bs.length then bs.getD (k' - k) 0 else st.readByte d k' := by
  induction bs generalizing st k with
  | nil => rw [if_neg (by simp)]; rfl
  | cons b bs ih =>
    have hc := st.writeByte_chain d k b
    simp only [List.length_cons] at hk
    rw [writeBytes, ih (writeByte_wf hw d k b) (hc ▸ hn) (by omega) (by rw [hc]; omega),
      readByte_writeByte hw hn h1 h1' (by omega)]
    rcases Nat.lt_trichotomy k' k with h | h | h
    · rw [if_neg (by omega), if_neg (by omega), if_neg (by simp; omega)]
    · subst h
      rw [if_neg (by omega), if_pos rfl, if_pos (by simp)]
      simp
    · obtain ⟨m, rfl⟩ : ∃ m, k' = k + 1 + m := ⟨k' - (k + 1), by omega⟩
      rw [if_neg (by omega : ¬ k + 1 + m = k)]
      have hs : k + 1 + m - k = m + 1 := by omega
      simp only [List.length_cons, Nat.add_sub_cancel_left, hs, List.getD_cons_succ]
      by_cases hm : m < bs.length
      · rw [if_pos (by omega), if_pos (by omega)]
      · rw [if_neg (by omega), if_neg (by omega)]

/-- A frame written from byte 1 on reads back (R116). -/
theorem readByte_build {d : DescId} {bs : List Byte} {st : FrameStore} (hw : Memory.wf st.cells = true)
    (hn : (st.desc d).chain.Nodup) (hk : bs.length ≤ 64 * (st.desc d).chain.length) {i : Nat} (hi : i < bs.length) :
    (st.writeBytes d 1 bs).readByte d (i + 1) = bs.getD i 0 := by
  rw [readByte_writeBytes bs hw hn (by omega) (by omega) (by omega), if_pos ⟨by omega, by omega⟩]
  rfl

end FrameStore

theorem FrameIs.congr {d : DescId} {bytes : List Byte} {st st' : FrameStore} (h : FrameIs d bytes st)
    (hh : (st'.desc d).header = (st.desc d).header) (hl : (st'.desc d).chain = (st.desc d).chain)
    (hc : st'.cells = st.cells) : FrameIs d bytes st' := by
  obtain ⟨h1, h2⟩ := h
  refine ⟨?_, fun i hi => (FrameStore.readByte_congr hl hc _).trans (h2 i hi)⟩
  rw [← h1, Descriptor.frameBytes, hh]
  rfl

/-- A frame built in a claimed descriptor with room for it is there, byte for byte (R3, R108, R116). -/
theorem frameIs_build {d : DescId} {st : FrameStore} (hw : Memory.wf st.cells = true)
    (hn : (st.desc d).chain.Nodup) (dest src : Addr) (tag : Byte) {payload : List Byte}
    (hk : payload.length + 9 ≤ 64 * (st.desc d).chain.length) (hp : payload.length < 65536) :
    FrameIs d (frameOf dest src tag payload) (st.build d (frameOf dest src tag payload)) := by
  have hl := length_frameOf dest src tag payload
  have hr : ∀ i, i < payload.length + 9 → (st.writeBytes d 1 (frameOf dest src tag payload)).readByte d (i + 1) =
      (frameOf dest src tag payload).getD i 0 :=
    fun i hi => FrameStore.readByte_build hw hn (by omega) (by omega)
  have hlen : ((st.writeBytes d 1 (frameOf dest src tag payload)).readHeader d).len.toNat = payload.length := by
    have h6 := hr 5 (by omega)
    have h7 := hr 6 (by omega)
    rw [frameOf_eq, frameBody, bytesOf_two, bytesOf_two, bytesOf_two payload.length] at h6 h7
    simp only [FrameStore.readHeader]
    rw [frameOf_eq, frameBody, bytesOf_two, bytesOf_two, bytesOf_two payload.length]
    rw [h6, h7]
    exact word16_bytes _ hp
  refine ⟨?_, fun i hi => ?_⟩
  · rw [FrameStore.build, FrameStore.complete, FrameStore.desc_updDesc_self, FrameStore.desc_updDesc_self,
      Descriptor.frameBytes, hl]
    exact congrArg (· + 9) hlen
  · rw [← hr i (by omega)]
    have hc : ((st.build d (frameOf dest src tag payload)).desc d).chain =
        ((st.writeBytes d 1 (frameOf dest src tag payload)).desc d).chain := by
      rw [FrameStore.build, FrameStore.complete, FrameStore.desc_updDesc_self, FrameStore.desc_updDesc_self]
    exact FrameStore.readByte_congr hc rfl _

end Sys2Proof.Machine
end

section
/-! Trunk DOWN and trunk UP (R2, R46, R85, R105): the Preemption Stack is emptied, a drain ends with its reply held, the
contexts close, and the alignment seeks. -/

namespace Sys2Proof.Machine

/-! ### The stack emptied (R46) -/

/-- A lawful open-frame list has each class once (R15). -/
theorem classes_nodup_of_stackLawful {l : List OpenFrame} (h : stackLawful l = true) : (l.map OpenFrame.cls).Nodup := by
  induction l with
  | nil => simp
  | cons f fs ih =>
    obtain ⟨hf, hfs⟩ := (stackLawful_cons f fs).1 h
    refine List.nodup_cons.2 ⟨fun hm => ?_, ih hfs⟩
    obtain ⟨g, hg, he⟩ := List.mem_map.1 hm
    exact absurd he.symm (ne_of_lt (hf g hg).1)

theorem TransmitStackOk.classes_nodup {s : State} (h : TransmitStackOk s) : (s.il.stack.map StackEntry.cls).Nodup := by
  have hn := classes_nodup_of_stackLawful h
  rwa [State.openFrames, List.map_map] at hn

/-- The entries' references and the counters of their classes are all that goes. -/
theorem dropEntries_keeps (l : List StackEntry) (s : State) :
    (dropEntries l s).il.drain = s.il.drain ∧ (dropEntries l s).il.hold = s.il.hold ∧
      (dropEntries l s).store.cells = s.store.cells ∧ (dropEntries l s).store.queues = s.store.queues := by
  induction l generalizing s with
  | nil => exact ⟨rfl, rfl, rfl, rfl⟩
  | cons e es ih =>
    obtain ⟨hd, hh, hc, hq⟩ := ih (entryDropped e s)
    rw [dropEntries_cons]
    exact ⟨hd, hh, hc.trans (by simp [entryDropped]), hq.trans (by simp [entryDropped])⟩

theorem dropEntries_desc {d : DescId} {l : List StackEntry} (h : d ∉ l.map StackEntry.desc) (s : State) :
    (dropEntries l s).store.desc d = s.store.desc d := by
  induction l generalizing s with
  | nil => rfl
  | cons e es ih =>
    obtain ⟨he, hes⟩ := not_or.1 fun h' => h (List.mem_cons.2 h')
    rw [dropEntries_cons, ih hes]
    exact FrameStore.dropRef_desc_of_ne _ _ _ (Ne.symm he)

/-- Each entry counts as aborted in its class (R46). -/
theorem dropEntries_aborted {l : List StackEntry} (h : (l.map StackEntry.cls).Nodup) (c : Cls) (s : State) :
    vget (dropEntries l s).il.counters.aborted c =
      if c ∈ l.map StackEntry.cls then ctrInc (vget s.il.counters.aborted c) else vget s.il.counters.aborted c := by
  induction l generalizing s with
  | nil => rfl
  | cons e es ih =>
    obtain ⟨he, hes⟩ := List.nodup_cons.1 h
    have hb : vget (entryDropped e s).il.counters.aborted c =
        if e.cls = c then ctrInc (vget s.il.counters.aborted c) else vget s.il.counters.aborted c :=
      vget_vupd _ _ _ _
    rw [dropEntries_cons, ih hes, hb]
    by_cases hc : e.cls = c
    · subst hc; simp [he]
    · simp [hc, Ne.symm hc]

/-! ### The drain's end (R43, R174) -/

theorem FrameStore.admitHead_cells (st : FrameStore) (d : DescId) (c : Cls) (k : Bool) :
    (st.admitHead c k d).cells = st.cells := rfl

/-- The store in which the reply to a TRAFFIC_RESET stands at the head of the management class queue. -/
def resetReplyAdmitted (r : OwedReply) (s : State) : FrameStore :=
  (s.store.build r.desc (resetReply s r)).admitHead s.agent.mgmtClass
    (vget s.policy s.agent.mgmtClass).cutThrough r.desc

theorem endDrain_of_owed {r : OwedReply} {s : State} (h : s.agent.owed = some r) : endDrain s =
    { s with
      store := resetReplyAdmitted r s
      il := { s.il with drain := false, hold := some r.desc }
      agent := { s.agent with owed := none, builder := .idle, job := none, lastBuilt := .reply } } := by
  unfold endDrain
  dsimp only [State.updIl_agent]
  rw [h]
  rfl

theorem endDrain_il_frame (s : State) :
    (endDrain s).il.drain = false ∧ (endDrain s).il.counters = s.il.counters := by
  cases h : s.agent.owed with
  | none =>
    unfold endDrain
    dsimp only [State.updIl_agent]
    rw [h]
    exact ⟨rfl, rfl⟩
  | some r =>
    rw [endDrain_of_owed h]
    exact ⟨rfl, rfl⟩

theorem resetReply_eq (s : State) (r : OwedReply) : resetReply s r =
    frameOf r.dest s.agent.address r.tag [hiByte r.seq, loByte r.seq, 0x8A, 0x00, 0x00] := rfl

theorem queue_resetReplyAdmitted (r : OwedReply) (s : State) (c : Cls) : (resetReplyAdmitted r s).queue c =
    if s.agent.mgmtClass = c then r.desc :: s.store.queue c else s.store.queue c := by
  rw [resetReplyAdmitted, FrameStore.admitHead_queue]
  simp [FrameStore.queue]

/-- The reply is COMPLETE, with one holder, and has its bytes, when its claim left it one cell (R124, R163). -/
theorem frameIs_resetReplyAdmitted {r : OwedReply} {s : State} (hw : Memory.wf s.store.cells = true)
    (hl : (s.store.desc r.desc).chain.length = 1) :
    ((resetReplyAdmitted r s).desc r.desc).state = .complete ∧ ((resetReplyAdmitted r s).desc r.desc).refs = 1 ∧
      FrameIs r.desc (resetReply s r) (resetReplyAdmitted r s) := by
  have hn : (s.store.desc r.desc).chain.Nodup := by
    obtain ⟨k, hk⟩ := List.length_eq_one_iff.1 hl
    simp [hk]
  have hb : FrameIs r.desc (resetReply s r) (s.store.build r.desc (resetReply s r)) :=
by
    rw [resetReply_eq]
    exact frameIs_build hw hn _ _ _ (by rw [hl]; simp) (by simp)
  obtain ⟨n, h, hd, -⟩ := s.store.build_desc r.desc (resetReply s r)
  have ha : (resetReplyAdmitted r s).desc r.desc =
      FrameStore.admitted s.agent.mgmtClass (vget s.policy s.agent.mgmtClass).cutThrough
        ((s.store.build r.desc (resetReply s r)).desc r.desc) := by
    rw [resetReplyAdmitted, FrameStore.admitHead_desc, if_pos rfl]
  have hc : (resetReplyAdmitted r s).cells = (s.store.build r.desc (resetReply s r)).cells :=
    FrameStore.admitHead_cells _ _ _ _
  exact ⟨by rw [ha, hd, FrameStore.admitted], by rw [ha, FrameStore.admitted],
    hb.congr (by rw [ha, FrameStore.admitted]) (by rw [ha, FrameStore.admitted]) hc⟩

/-! ### The contexts closed (R105, R118) -/

/-- A descriptor that no context has is left as it is. -/
theorem closeContexts_desc {d : DescId} (l : List Cls) {s : State} (h : ∀ c, (s.context c).storage ≠ some d) :
    (l.foldl (fun s c => closeContext c s) s).store.desc d = s.store.desc d := by
  induction l generalizing s with
  | nil => rfl
  | cons c l ih =>
    rw [List.foldl_cons, ih]
    · rw [closeContext_store]
      cases hs : (s.context c).storage with
      | none => rfl
      | some e => exact (FrameStore.release_desc _ _ _).trans (if_neg fun he => h c (by rw [hs, he]))
    · intro k
      rw [context_closeContext]
      split
      · simp [Context.closed]
      · exact h k

/-! ### A DOWN event (R2) -/

/-- The state that the Interleaver leaves at a DOWN event, its drain not yet ended. -/
def stackFallen (s : State) : State := entriesDropped (s.updTrunkRx fun _ => LineRx.report false)

theorem stackFallen_keeps (s : State) : (stackFallen s).il.drain = s.il.drain ∧ (stackFallen s).il.hold = s.il.hold ∧
    (stackFallen s).store.cells = s.store.cells ∧ (stackFallen s).store.queues = s.store.queues :=
  dropEntries_keeps s.il.stack (stackCleared (s.updTrunkRx fun _ => LineRx.report false))

theorem stackFallen_frame (s : State) : (stackFallen s).agent = s.agent ∧ (stackFallen s).policy = s.policy ∧
    (stackFallen s).rx = s.rx := by
  simp [stackFallen, entriesDropped, stackCleared]

/-- The state that the Interleaver leaves at a DOWN event. -/
def interleaverFallen (s : State) : State := interleaverDown (s.updTrunkRx fun _ => LineRx.report false)

theorem interleaverFallen_of_drain {s : State} (h : s.il.drain = true) :
    interleaverFallen s = endDrain (stackFallen s) := by
  obtain ⟨hd, -⟩ := stackFallen_keeps s
  rw [interleaverFallen, interleaverDown_eq]
  exact if_pos (hd.trans h)

theorem interleaverFallen_of_no_drain {s : State} (h : s.il.drain = false) : interleaverFallen s = stackFallen s := by
  obtain ⟨hd, -⟩ := stackFallen_keeps s
  rw [interleaverFallen, interleaverDown_eq]
  exact if_neg (by rw [← stackFallen, hd, h]; simp)

theorem interleaverFallen_il (s : State) : (interleaverFallen s).il.drain = false ∧
    (interleaverFallen s).il.counters = (stackFallen s).il.counters := by
  obtain ⟨hd, -⟩ := stackFallen_keeps s
  cases h : s.il.drain with
  | true => rw [interleaverFallen_of_drain h]; exact endDrain_il_frame _
  | false => rw [interleaverFallen_of_no_drain h]; exact ⟨hd.trans h, rfl⟩

theorem stackFallen_aborted {s : State} (h : TransmitStackOk s) (c : Cls) :
    vget (stackFallen s).il.counters.aborted c =
      if c ∈ s.il.stack.map StackEntry.cls then ctrInc (vget s.il.counters.aborted c)
      else vget s.il.counters.aborted c :=
  dropEntries_aborted h.classes_nodup c (stackCleared (s.updTrunkRx fun _ => LineRx.report false))

/-- What the trunk's other blocks do to what the Interleaver has left. -/
theorem trunkFalls_parts (s : State) : (trunkFalls s).trunkRx = LineRx.report false ∧
    (trunkFalls s).il = (interleaverFallen s).il ∧ (trunkFalls s).agent = (interleaverFallen s).agent ∧
    (trunkFalls s).store = (closeAll (interleaverFallen s)).store ∧ (trunkFalls s).align = s.align.trunkDown := by
  rw [trunkFalls_eq, ← interleaverFallen]
  refine ⟨?_, ?_, ?_, ?_, ?_⟩ <;> simp [interleaverFallen, enterResync]

theorem trunkFalls_rx (s : State) : (trunkFalls s).rx.mode = .resync ∧ (trunkFalls s).rx.stack = [] ∧
    (∀ c, (trunkFalls s).context c = Context.closed) ∧ (trunkFalls s).rx.counters = s.rx.counters := by
  have hrx : (trunkFalls s).rx = (enterResync (interleaverFallen s)).rx := by
    rw [trunkFalls_eq, ← interleaverFallen, State.updAlign_rx]
  obtain ⟨hm, hl, hc⟩ := enterResync_rx_frame (interleaverFallen s)
  refine ⟨by rw [hrx, hm], by rw [hrx, hl], fun c => ?_, ?_⟩
  · rw [context_congr hrx, context_enterResync]
  · rw [hrx, hc]
    simp [interleaverFallen]

theorem trunkFalls_queues (s : State) : (trunkFalls s).store.queues = (interleaverFallen s).store.queues := by
  obtain ⟨-, -, -, hs, -⟩ := trunkFalls_parts s
  rw [hs, (closeAll_store_frame _).2]

theorem align_trunkDown (a : Align) : a.trunkDown =
    if a.mode = .follow then { a with state := .seeking, miss := 0, expect := false } else a := by
  cases h : a.mode <;> simp [Align.trunkDown, h]

/-- The owed reply stands complete in the store after the DOWN event that ends its drain (R46). -/
theorem frameIs_trunkFalls {r : OwedReply} {s : State} (hd : s.il.drain = true) (ho : s.agent.owed = some r)
    (hs : StoreOk s) (hm : MemoryOk s) : ((trunkFalls s).store.desc r.desc).state = .complete ∧
      ((trunkFalls s).store.desc r.desc).refs = 1 ∧
      FrameIs r.desc (frameOf r.dest s.agent.address r.tag [hiByte r.seq, loByte r.seq, 0x8A, 0x00, 0x00])
        (trunkFalls s).store := by
  obtain ⟨-, hor, hrefs, -, hlen⟩ := hs.owed r ho
  obtain ⟨-, -, hcells, -⟩ := stackFallen_keeps s
  obtain ⟨hagent, -, hrx⟩ := stackFallen_frame s
  obtain ⟨-, -, -, hstore, -⟩ := trunkFalls_parts s
  have hnot : r.desc ∉ s.il.stack.map StackEntry.desc := by
    have hh := hrefs.symm.trans (hs.refs r.desc)
    rw [State.holders] at hh
    exact List.count_eq_zero.1 (by omega)
  have hdesc : (stackFallen s).store.desc r.desc = s.store.desc r.desc := dropEntries_desc hnot _
  have hctx : ∀ c, ((interleaverFallen s).context c).storage ≠ some r.desc := fun c hc => by
    rw [interleaverFallen, context_congr (interleaverDown_frame _).2.2.2.2.2.2.2.1] at hc
    obtain ⟨-, hot, -⟩ := hs.stored c r.desc hc
    rw [hor] at hot
    cases hot
  obtain ⟨hst, hre, hfr⟩ := frameIs_resetReplyAdmitted (r := r) (s := stackFallen s) (by rw [hcells]; exact hm)
    (by rw [hdesc]; exact hlen)
  have hi : (interleaverFallen s).store = resetReplyAdmitted r (stackFallen s) := by
    rw [interleaverFallen_of_drain hd, endDrain_of_owed (by rw [hagent]; exact ho)]
  have he : (trunkFalls s).store.desc r.desc = (resetReplyAdmitted r (stackFallen s)).desc r.desc := by
    rw [hstore, ← hi]
    exact closeContexts_desc _ hctx
  have hc : (trunkFalls s).store.cells = (resetReplyAdmitted r (stackFallen s)).cells := by
    rw [hstore, ← hi, (closeAll_store_frame _).1]
  rw [resetReply_eq, hagent] at hfr
  exact ⟨by rw [he]; exact hst, by rw [he]; exact hre, hfr.congr (by rw [he]) (by rw [he]) hc⟩

theorem trunkUp_of_down {s : State} (h : s.trunkRx.up = false) :
    trunkUp s = raise (.lineEvent .trunk true) (s.updTrunkRx fun _ => LineRx.report true) := by
  rw [trunkUp, if_neg (by simp [h])]

/-- Settles O20: each block's part of the DOWN event by its own lemmas above. -/
theorem trunkDownAndUp : Obligations.TrunkDownAndUp := by
  refine ⟨fun s hu hok => ?_, fun s hr => ⟨fun hd => ?_, fun hu => ?_, fun hd => ?_⟩⟩
  · obtain ⟨hr, hup⟩ := hu
    obtain ⟨hline, hil, hagent, -, halign⟩ := trunkFalls_parts s
    obtain ⟨hmode, hrstack, hctx, hcount⟩ := trunkFalls_rx s
    obtain ⟨hdrain, hcounters⟩ := interleaverFallen_il s
    have hq := trunkFalls_queues s
    obtain ⟨hfagent, -⟩ := stackFallen_frame s
    obtain ⟨-, hfhold, -, hfqueues⟩ := stackFallen_keeps s
    refine ⟨raise (.lineEvent .trunk false) (trunkFalls s), ?_, ?_, ?_, ?_, fun c => ?_, ?_, ?_, fun c => ?_, ?_, ?_,
      fun hd => ⟨?_, ?_, ?_⟩, fun r hd ho => ?_, ?_, ?_, ?_, ?_, ?_⟩
    · rw [exec_trunkDown hr, trunkDown, if_pos hup]
    · exact (by simp : _ = (trunkFalls s).trunkRx).trans hline
    · simp
    · simpa [hil] using hdrain
    · rw [← stackFallen_aborted hok c, ← hcounters, ← hil]; simp
    · simpa using hmode
    · simpa using hrstack
    · rw [context_congr (s := trunkFalls s) (by simp)]; exact hctx c
    · simpa using hcount
    · rw [← align_trunkDown, ← halign]; simp
    · simpa [hil, interleaverFallen_of_no_drain hd] using hfhold
    · simpa [hq, interleaverFallen_of_no_drain hd] using hfqueues
    · exact raise_agent_congr _ (by rw [hagent, interleaverFallen_of_no_drain hd, hfagent]) (by simp)
    · have hfall : interleaverFallen s = endDrain (stackFallen s) := interleaverFallen_of_drain hd
      rw [endDrain_of_owed (by rw [hfagent]; exact ho)] at hfall
      have hqueue : ∀ c, (raise (.lineEvent .trunk false) (trunkFalls s)).store.queue c =
          if s.agent.mgmtClass = c then r.desc :: s.store.queue c else s.store.queue c := fun c => by
        have hk : (stackFallen s).store.queue c = s.store.queue c := congrArg (vget · c) hfqueues
        rw [← hk, ← hfagent, ← queue_resetReplyAdmitted]
        simp [FrameStore.queue, hq, hfall]
      have hclass : (raise (.lineEvent .trunk false) (trunkFalls s)).agent.mgmtClass = s.agent.mgmtClass := by
        rw [(raise_kept _ _).mgmtClass, hagent, hfall, hfagent]
      refine ⟨by simp [hil, hfall], ?_, fun c hc => ?_, ?_, fun hs hm => ?_⟩
      · rw [mgmtQueue, hclass, hqueue, if_pos rfl]
        rfl
      · rw [hqueue, if_neg (Ne.symm hc)]
      · exact raise_agent_congr _ (by rw [hagent, hfall, hfagent]) (by simp)
      · simpa using frameIs_trunkFalls hd ho hs hm
    all_goals simp
  · rw [show exec .trunkUp s = .next (trunkUp s) by simp [exec, execTrunkUp, whenRunning, hr], trunkUp_of_down hd]
    rfl
  · simp [exec, execTrunkUp, whenRunning, hr, trunkUp, hu]
  · rw [exec_trunkDown hr, trunkDown, if_neg (by simp [hd])]

end Sys2Proof.Machine
end

section
/-! A descriptor that no queue, framer or transmitter has is left alone by all that a request does, a TRAFFIC_RESET
apart: what keeps the cells and the chain of the reply's claim (R113, R163) until the reply is written. -/

namespace Sys2Proof.Machine

/-! ### Operations of the store on other descriptors -/

namespace FrameStore

/-- Descriptor d and the cells are as they were, and no queue has got longer. -/
def OthersAlone (d : DescId) (st st' : FrameStore) : Prop :=
  st'.desc d = st.desc d ∧ st'.cells = st.cells ∧ ∀ c, st'.queue c ⊆ st.queue c

theorem OthersAlone.refl (d : DescId) (st : FrameStore) : OthersAlone d st st := ⟨rfl, rfl, fun _ => List.Subset.refl _⟩

theorem OthersAlone.trans {d : DescId} {st st' st'' : FrameStore} (h : OthersAlone d st st')
    (h' : OthersAlone d st' st'') : OthersAlone d st st'' :=
  have ⟨hd, hc, hq⟩ := h
  have ⟨hd', hc', hq'⟩ := h'
  ⟨hd'.trans hd, hc'.trans hc, fun c => List.Subset.trans (hq' c) (hq c)⟩

variable {d e : DescId} (h : e ≠ d) (st : FrameStore)
include h

theorem othersAlone_updDesc (f : Descriptor → Descriptor) : OthersAlone d st (st.updDesc e f) :=
  ⟨by rw [desc_updDesc, if_neg h], rfl, fun _ => List.Subset.refl _⟩

theorem othersAlone_settle : OthersAlone d st (st.settle e) := by
  obtain ⟨hc, -⟩ := st.settle_frame e
  exact ⟨st.settle_desc_of_ne e d h, hc, fun c => by simp [queue]⟩

theorem othersAlone_dropRef : OthersAlone d st (st.dropRef e) := by
  obtain ⟨hc, -⟩ := st.dropRef_frame e
  exact ⟨st.dropRef_desc_of_ne e d h, hc, fun c => by simp [queue]⟩

theorem othersAlone_leaveQueue : OthersAlone d st (st.leaveQueue e) := by
  unfold leaveQueue
  split
  · exact OthersAlone.refl d st
  · next c _ =>
    split
    · have hu : OthersAlone d st (st.unqueue c e) := by
        refine ⟨rfl, rfl, fun k => ?_⟩
        rw [unqueue_queue]
        split
        · exact List.erase_subset
        · exact List.Subset.refl _
      exact hu.trans (othersAlone_updDesc h _ _)
    · exact OthersAlone.refl d st

theorem othersAlone_fail (r : FailReason) : OthersAlone d st (st.fail e r) :=
  ((othersAlone_updDesc h st _).trans (othersAlone_leaveQueue h _)).trans (othersAlone_settle h _)

end FrameStore

/-! ### A descriptor apart from queues, framers and transmitters -/

/-- No class queue, framer, delivery queue or transmitter has d. -/
structure Apart (d : DescId) (s : State) : Prop where
  queued : ∀ c, d ∉ s.store.queue c
  framer : ∀ p, (s.framer p).desc ≠ some d
  delivery : ∀ p, d ∉ (s.port p).delivery
  sending : ∀ p x, (s.port p).sending = some x → x.desc ≠ d

/-- From s, in which d stands apart, to t no step has touched d or the cells, and d stands apart still. -/
def LeavesAlone (d : DescId) (s t : State) : Prop :=
  Apart d s → Apart d t ∧ t.store.desc d = s.store.desc d ∧ t.store.cells = s.store.cells

/-- A change of a port that gives it no descriptor. -/
def GivesNothing (f : Port → Port) : Prop := ∀ q, ((f q).framer.desc = none ∨ (f q).framer.desc = q.framer.desc) ∧
  (f q).delivery ⊆ q.delivery ∧ ((f q).sending = none ∨ (f q).sending = q.sending)

namespace LeavesAlone
variable {d : DescId}

theorem refl (s : State) : LeavesAlone d s s := fun h => ⟨h, rfl, rfl⟩

theorem trans {s t u : State} (h : LeavesAlone d s t) (h' : LeavesAlone d t u) : LeavesAlone d s u := fun hs =>
  have ⟨ht, hd, hc⟩ := h hs
  have ⟨hu, hd', hc'⟩ := h' ht
  ⟨hu, hd'.trans hd, hc'.trans hc⟩

/-- What d's standing apart says may be used to show that it is left alone. -/
theorem of_apart {s t : State} (h : Apart d s → LeavesAlone d s t) : LeavesAlone d s t := fun hs => h hs hs

theorem of_eq {s t : State} (hs : t.store = s.store) (hp : t.ports = s.ports) : LeavesAlone d s t := fun h => by
  have hq : ∀ p, t.port p = s.port p := fun p => by rw [State.port, hp, State.port]
  refine ⟨⟨fun c => ?_, fun p => ?_, fun p => ?_, fun p => ?_⟩, by rw [hs], by rw [hs]⟩
  · rw [hs]; exact h.queued c
  · rw [State.framer, hq]; exact h.framer p
  · rw [hq]; exact h.delivery p
  · rw [hq]; exact h.sending p

theorem updStore {f : FrameStore → FrameStore} {s : State} (hf : FrameStore.OthersAlone d s.store (f s.store)) :
    LeavesAlone d s (s.updStore f) := fun h => by
  obtain ⟨hd, hc, hq⟩ := hf
  exact ⟨⟨fun c hm => h.queued c (hq c hm), h.framer, h.delivery, h.sending⟩, hd, hc⟩

theorem updPort {f : Port → Port} (hf : GivesNothing f) (p : PortIx) (s : State) :
    LeavesAlone d s (s.updPort p f) := fun h => by
  refine ⟨⟨h.queued, fun k => ?_, fun k => ?_, fun k x => ?_⟩, rfl, rfl⟩ <;> obtain ⟨hr, hl, hx⟩ := hf (s.port k)
  · rw [State.framer, port_updPort]
    split
    · rcases hr with hr | hr <;> rw [hr]
      · simp
      · exact h.framer k
    · exact h.framer k
  · rw [port_updPort]
    split
    · exact fun hm => h.delivery k (hl hm)
    · exact h.delivery k
  · rw [port_updPort]
    split
    · rcases hx with hx | hx <;> rw [hx]
      · simp
      · exact h.sending k x
    · exact h.sending k x

theorem updFramer_freed (p : PortIx) (y : FramerState) (s : State) :
    LeavesAlone d s (updFramer p (Framer.freed y) s) := by
  refine updPort ?_ p s
  exact fun _ => ⟨.inl rfl, List.Subset.refl _, .inr rfl⟩

theorem foldl {α : Type} {f : State → α → State} {l : List α} (hf : ∀ a ∈ l, ∀ s, LeavesAlone d s (f s a)) (s : State) :
    LeavesAlone d s (l.foldl f s) := by
  induction l generalizing s with
  | nil => exact refl s
  | cons a l ih =>
    exact (hf a List.mem_cons_self s).trans (ih (fun b hb => hf b (List.mem_cons_of_mem a hb)) (f s a))

/-! ### The operations on other frames -/

theorem failFrame {e : DescId} (h : e ≠ d) (r : FailReason) (s : State) : LeavesAlone d s (failFrame e r s) := by
  have hs : LeavesAlone d s (s.updStore (FrameStore.fail e r)) := updStore (FrameStore.othersAlone_fail h _ r)
  unfold Machine.failFrame
  split
  · unfold failAtPort
    split
    · next p _ =>
      refine (hs.trans (updPort (fun q => ?_) p _)).trans (updPort (fun q => ?_) p _)
      · exact ⟨.inr rfl, List.Subset.refl _, .inr rfl⟩
      · split
        · exact ⟨.inl rfl, List.Subset.refl _, .inr rfl⟩
        · exact ⟨.inr rfl, List.Subset.refl _, .inr rfl⟩
    all_goals exact hs
  · exact refl s

theorem discardQueued {e : DescId} (h : e ≠ d) (r : FailReason) (s : State) :
    LeavesAlone d s (discardQueued e r s) := by
  have hl : LeavesAlone d (Machine.failFrame e r s)
      ((Machine.failFrame e r s).updStore fun st => (st.leaveQueue e).settle e) :=
    updStore ((FrameStore.othersAlone_leaveQueue h _).trans (FrameStore.othersAlone_settle h _))
  exact (failFrame h r s).trans (hl.trans (of_eq rfl rfl))

theorem emptyClassQueue (c : Cls) (r : FailReason) (s : State) : LeavesAlone d s (emptyClassQueue c r s) :=
  of_apart fun h => foldl (fun e he => discardQueued (fun hed : e = d => h.queued c (hed ▸ he)) r) s

theorem framerFails (p : PortIx) (r : FailReason) (y : FramerState) (s : State) :
    LeavesAlone d s (framerFails p r y s) := of_apart fun h => by
  unfold Machine.framerFails
  split
  · exact refl s
  · next e he =>
    exact (failFrame (fun hed => h.framer p (by rw [he, hed])) r s).trans (updFramer_freed p y _)

theorem dropRefs {l : List DescId} (h : d ∉ l) (s : State) : LeavesAlone d s (dropRefs l s) := by
  refine updStore ?_
  generalize s.store = st
  induction l generalizing st with
  | nil => exact FrameStore.OthersAlone.refl d st
  | cons e l ih =>
    obtain ⟨he, hl⟩ := not_or.1 fun h' => h (List.mem_cons.2 h')
    exact (FrameStore.othersAlone_dropRef (Ne.symm he) st).trans (ih hl _)

theorem emptyDelivery (p : PortIx) (s : State) : LeavesAlone d s (emptyDelivery p s) := of_apart fun h => by
  unfold Machine.emptyDelivery
  refine trans (updPort ?_ p s) (dropRefs (h.delivery p) _)
  exact fun _ => ⟨.inr rfl, List.nil_subset _, .inr rfl⟩

theorem abandonSending (p : PortIx) (s : State) : LeavesAlone d s (abandonSending p s) := of_apart fun h => by
  unfold Machine.abandonSending
  split
  · refine updPort ?_ p s
    exact fun _ => ⟨.inr rfl, List.Subset.refl _, .inr rfl⟩
  · next x hx =>
    have hd : d ∉ [x.desc] := fun hm => h.sending p x hx (List.mem_singleton.1 hm).symm
    refine trans (updPort ?_ p s) (dropRefs hd _)
    exact fun _ => ⟨.inr rfl, List.Subset.refl _, .inl rfl⟩

theorem stopServing (p : PortIx) (s : State) : LeavesAlone d s (stopServing p s) := by
  have hr : LeavesAlone d s (receptionEnded p s) := by
    unfold receptionEnded
    split
    · exact framerFails p _ _ s
    · exact refl s
  rw [stopServing_eq]
  exact ((hr.trans (updFramer_freed p .idle _)).trans (emptyDelivery p _)).trans (abandonSending p _)

theorem changePort {f : Port → Port} (hf : GivesNothing f) (p : PortIx) (s : State) :
    LeavesAlone d s (changePort p f s) := by
  unfold Machine.changePort
  dsimp only
  split
  · exact (updPort hf p s).trans (stopServing p _)
  · exact (updPort hf p s).trans (updFramer_freed p .idle _)
  all_goals exact updPort hf p s

theorem applyConfigs (l : List PortConfig) (i : Nat) (s : State) : LeavesAlone d s (applyConfigs i l s) := by
  induction l generalizing i s with
  | nil => exact refl s
  | cons x xs ih =>
    rw [Machine.applyConfigs]
    refine trans ?_ (ih _ _)
    split
    · refine changePort ?_ _ s
      exact fun _ => ⟨.inr rfl, List.Subset.refl _, .inr rfl⟩
    · exact refl s

theorem updPorts_counters (s : State) :
    LeavesAlone d s (s.updPorts (mapPorts fun q => { q with counters := PortCounters.zero })) := by
  have h : ∀ p s, LeavesAlone d s (s.updPort p fun q => { q with counters := PortCounters.zero }) :=
    updPort fun _ => ⟨.inr rfl, List.Subset.refl _, .inr rfl⟩
  exact (((h 0 s).trans (h 1 _)).trans (h 2 _)).trans (h 3 _)

theorem clearCounters (s : State) : LeavesAlone d s (clearCounters s) := by
  unfold Machine.clearCounters
  exact trans (of_eq rfl rfl) (trans (updPorts_counters _) (of_eq rfl rfl))

/-! ### The execution of a request (R166 to R170) -/

theorem performWrite (t : TableId) (r : Request) (s : State) : LeavesAlone d s (performWrite t r s).state := by
  cases t with
  | classify => exact of_eq (by simp [Machine.performWrite]) (by simp [Machine.performWrite])
  | portDefault => exact of_eq (by simp [Machine.performWrite]) (by simp [Machine.performWrite])
  | classPolicy => exact of_eq (by simp [Machine.performWrite]) (by simp [Machine.performWrite])
  | route => exact of_eq (by simp [Machine.performWrite]) (by simp [Machine.performWrite])
  | portConfig =>
    unfold Machine.performWrite performWritePortConfig
    dsimp only
    split
    · exact refl s
    · exact applyConfigs _ _ s
  | scheduleStandby => exact of_eq (by simp [Machine.performWrite]) (by simp [Machine.performWrite])
  | scheduleActive => exact refl s
  | hits => exact refl s

theorem performFlush (r : Request) (s : State) : LeavesAlone d s (performFlush r s).state := by
  unfold Machine.performFlush
  split
  · split
    · exact refl s
    · exact emptyClassQueue _ _ s
  · split
    · split
      · exact refl s
      · exact emptyDelivery _ s
    · exact refl s

theorem performReadCounters (r : Request) (s : State) : LeavesAlone d s (performReadCounters r s).state := by
  unfold Machine.performReadCounters
  dsimp only
  split
  · exact clearCounters s
  · exact refl s

theorem performKind {k : ReqKind} (hk : k ≠ .trafficReset) (r : Request) (s : State) :
    LeavesAlone d s (performKind k r s).state := by
  cases k with
  | query => exact of_eq rfl rfl
  | read =>
    unfold Machine.performKind
    dsimp only
    split <;> exact refl s
  | write =>
    unfold Machine.performKind
    dsimp only
    split
    · exact refl s
    · exact performWrite _ r s
  | commit => exact of_eq (by simp [Machine.performKind]) (by simp [Machine.performKind])
  | abandon => exact of_eq (by simp [Machine.performKind]) (by simp [Machine.performKind])
  | setAlign => exact of_eq (by simp [Machine.performKind]) (by simp [Machine.performKind])
  | setGlobal => exact of_eq (by simp [Machine.performKind]) (by simp [Machine.performKind])
  | readCounters => exact performReadCounters r s
  | flush => exact performFlush r s
  | trafficReset => exact absurd rfl hk

end LeavesAlone

end Sys2Proof.Machine
end

section
/-! The reply to a request (R164, R171): the Agent's claim has room for it, its execution leaves the claim alone, and
the frame is written into it byte for byte. -/

namespace Sys2Proof.Machine

/-! ### The claim of a reply (R113, R163) -/

/-- d is claimed, with n cells for itself alone, in a store whose queues and bytes are those of before. -/
theorem agentClaim_some {n : Nat} {d : DescId} {st st' : FrameStore} (h : st.agentClaim n = some (d, st')) :
    d ∈ st.freeDescs ∧ n ≤ st.freeCells.length ∧ (st'.desc d).chain = st.freeCells.take n ∧
      st'.cells = st.cells ∧ st'.queues = st.queues := by
  unfold FrameStore.agentClaim at h
  split at h
  · next hn =>
    cases hf : st.freeDescs with
    | nil => simp [FrameStore.takeDesc, hf] at h
    | cons e ds =>
      simp only [FrameStore.takeDesc, hf, Option.some.injEq, Prod.mk.injEq] at h
      obtain ⟨rfl, rfl⟩ := h
      exact ⟨List.mem_cons_self, hn, by rw [FrameStore.desc_updDesc_self]; rfl, rfl, rfl⟩
  · cases h

theorem le_cellsFor (n : Nat) : n ≤ 64 * cellsFor n := by
  simp only [cellsFor, Config.cellBytes]
  omega

/-- A replay's claim has room for 14 bytes, a fresh request's for the data of its reply too (R163). -/
theorem replyRoom_of_replay {r : Request} {l : List ReplayEntry} {e : ReplayEntry} (h : replayEntry r l = some e) :
    5 + 0 + 9 ≤ 64 * replyCells r l := by
  simpa [replyCells, h] using le_cellsFor 14

theorem replyRoom_of_fresh {r : Request} {s : State} (h : Fresh r s) :
    5 + (if r.preCheck = .ok then r.dataLength else 0) + 9 ≤ 64 * replyCells r s.agent.replay := by
  rw [Fresh] at h
  simpa [replyCells, h] using le_cellsFor (5 + (if r.preCheck = .ok then r.dataLength else 0) + 9)

theorem StoreOk.freeCells_nodup {s : State} (h : StoreOk s) : s.store.freeCells.Nodup :=
  List.nodup_iff_count_le_one.2 fun k => by have := h.cells k; omega

/-- A FREE descriptor has no holder (R119). -/
theorem StoreOk.holders_of_free {s : State} (h : StoreOk s) {d : DescId} (hd : d ∈ s.store.freeDescs) :
    s.holders d = 0 := by
  rw [← h.refs d, h.unused d ((h.freeList d).1 hd)]
  rfl

theorem apart_of_free {s : State} (h : StoreOk s) {d : DescId} (hd : d ∈ s.store.freeDescs) : Apart d s := by
  have hz := h.holders_of_free hd
  simp only [State.holders, Nat.add_eq_zero_iff, Finset.sum_eq_zero_iff, Finset.mem_univ, true_implies] at hz
  obtain ⟨⟨⟨⟨hq, -⟩, hp⟩, -⟩, -⟩ := hz
  refine ⟨fun c => List.count_eq_zero.1 (hq c), fun p hf => ?_, fun p => List.count_eq_zero.1 (hp p).1,
    fun p x hx he => ?_⟩
  · obtain ⟨hs, -⟩ := h.framed p d hf
    rw [(h.freeList d).1 hd] at hs
    cases hs
  · have := (hp p).2
    simp [hx, he] at this

theorem ne_of_inbox_of_free {s : State} (h : StoreOk s) {q d : DescId} (hd : d ∈ s.store.freeDescs)
    (hq : q ∈ s.agent.inbox) : q ≠ d := fun he => by
  have hz := h.holders_of_free hd
  have hc := List.count_pos_iff.2 (he ▸ hq)
  rw [State.holders] at hz
  omega

/-! ### The turn that takes a request (R160 to R164) -/

theorem exec_requestRow (k : RequestRow) (s : State) :
    exec k.command s = .next (whenRunning (requestStep k) s) := by
  cases k <;> rfl

section
variable {q d : DescId} {qs : List DescId} {r : Request} {s : State} {st : FrameStore}

/-- The claim that is granted to the request taken. -/
theorem RequestTaken.agentClaim (h : RequestTaken q d qs r s) :
    ∃ st, s.store.agentClaim (replyCells r s.agent.replay) = some (d, st) := by
  have hc := h.claim
  rw [Option.map_eq_some_iff] at hc
  obtain ⟨⟨d', st⟩, hc, rfl⟩ := hc
  exact ⟨st, hc⟩

/-- The request q taken and its claim granted, q not yet dropped. -/
def requestInHand (q : DescId) (qs : List DescId) (st : FrameStore) (s : State) : State :=
  (s.updAgent fun a => { a with inbox := qs, inHand := some q, job := some .reply }).updStore fun _ => st

theorem dropRequest_requestInHand (q : DescId) (qs : List DescId) (st : FrameStore) (s : State) :
    dropRequest (requestInHand q qs st s) = atExecution q qs st s := rfl

theorem builderChooseJob_of_taken (h : RequestTaken q d qs r s)
    (hc : s.store.agentClaim (replyCells r s.agent.replay) = some (d, st)) :
    builderChooseJob s = serve d r (requestInHand q qs st s) := by
  have ht : takeRequest s = s.updAgent fun a => { a with inbox := qs, inHand := some q, job := some .reply } := by
    rw [takeRequest, h.inbox]
  have ha : handAnswerable (takeRequest s) = true := by
    rw [ht, ← h.answerable, ← h.request]
    rfl
  have hr : chooseReply s = claimReply (takeRequest s) := if_pos ha
  rw [builderChooseJob, h.idle]
  dsimp only
  rw [chooseJob, h.chosen]
  dsimp only
  rw [hr, ht, claimReply]
  simp only [State.updAgent_agent, State.updAgent_store, h.request, hc]
  rfl

theorem builderChooseJob_of_replay {e : ReplayEntry} (h : RequestTaken q d qs r s)
    (hc : s.store.agentClaim (replyCells r s.agent.replay) = some (d, st))
    (he : replayEntry r s.agent.replay = some e) :
    builderChooseJob s = answerReplay d r e (atExecution q qs st s) := by
  have he' : replayEntry r (atExecution q qs st s).agent.replay = some e := he
  rw [builderChooseJob_of_taken h hc, serve, dropRequest_requestInHand]
  rw [he']

theorem builderChooseJob_of_fresh (h : RequestTaken q d qs r s)
    (hc : s.store.agentClaim (replyCells r s.agent.replay) = some (d, st)) (hf : Fresh r s) :
    builderChooseJob s = execute d r (atExecution q qs st s) := by
  have hf' : replayEntry r (atExecution q qs st s).agent.replay = none := hf
  rw [builderChooseJob_of_taken h hc, serve, dropRequest_requestInHand]
  rw [hf']

theorem requestDue_of_taken (h : RequestTaken q d qs r s) {k : RequestRow} (hk : r.row = some k) :
    requestDue k s = true := by
  obtain ⟨st, hc⟩ := h.agentClaim
  simp [requestDue, nextRequest, h.idle, h.chosen, h.inbox, h.request, h.answerable, hk, hc]

/-- The request's own row and BUILDER_CHOOSE_JOB are the same step (log 6). -/
theorem exec_of_taken (h : RequestTaken q d qs r s) {i : Instr}
    (hi : i = .builderChooseJob ∨ ∃ k, r.row = some k ∧ i = k.command) : exec i s = .next (builderChooseJob s) := by
  have hw : ∀ f : State → State, whenRunning f s = f s := fun f => by simp [whenRunning, h.running]
  rcases hi with rfl | ⟨k, hk, rfl⟩
  · rw [← hw builderChooseJob]
    rfl
  · rw [exec_requestRow, hw, requestStep, if_pos (requestDue_of_taken h hk), builderTurn, h.idle]

/-- At the execution step the reply's descriptor stands apart, with the cells of its claim. -/
theorem atExecution_claimed (h : RequestTaken q d qs r s) (hs : StoreOk s)
    (hc : s.store.agentClaim (replyCells r s.agent.replay) = some (d, st)) :
    Apart d (atExecution q qs st s) ∧ ((atExecution q qs st s).store.desc d).chain.Nodup ∧
      ((atExecution q qs st s).store.desc d).chain.length = replyCells r s.agent.replay ∧
      (atExecution q qs st s).store.cells = s.store.cells := by
  obtain ⟨hd, hn, hchain, hcells, hqueues⟩ := agentClaim_some hc
  have hq : q ≠ d := ne_of_inbox_of_free hs hd (by rw [h.inbox]; exact List.mem_cons_self)
  have ha := apart_of_free hs hd
  have hu : Apart d (s.updStore fun _ => st) := by
    refine ⟨fun c => ?_, ha.framer, ha.delivery, ha.sending⟩
    have hqc : st.queue c = s.store.queue c := congrArg (vget · c) hqueues
    rw [State.updStore_store, hqc]
    exact ha.queued c
  have hv : LeavesAlone d (s.updStore fun _ => st) (atExecution q qs st s) :=
    LeavesAlone.trans (LeavesAlone.updStore (FrameStore.othersAlone_dropRef hq st)) (LeavesAlone.of_eq rfl rfl)
  obtain ⟨hv, hdesc, hcells'⟩ := hv hu
  have hch : ((atExecution q qs st s).store.desc d).chain = s.store.freeCells.take (replyCells r s.agent.replay) := by
    rw [hdesc]
    exact hchain
  refine ⟨hv, ?_, ?_, hcells'.trans hcells⟩
  · rw [hch]
    exact hs.freeCells_nodup.sublist (List.take_sublist _ _)
  · rw [hch, List.length_take, Nat.min_eq_left hn]

end

/-! ### A reply written (R164) -/

/-- A reply that its claim has room for is there when it is built. -/
theorem frameIs_reply {d : DescId} {s : State} (hw : Memory.wf s.store.cells = true)
    (hn : (s.store.desc d).chain.Nodup) (r : Request) (x : Status) (replayed again : Bool) {data : List Byte}
    (hk : 5 + data.length + 9 ≤ 64 * (s.store.desc d).chain.length) :
    FrameIs d (frameOf r.src s.agent.address r.tag (replyPayload r.seq r.kind x replayed again data))
      (reply d r x replayed again data s).store := by
  have hl : (replyPayload r.seq r.kind x replayed again data).length = data.length + 5 := by
    simp [replyPayload]
  have hmax : (s.store.desc d).chain.length ≤ 512 := by simpa using hn.length_le_card
  have hb := frameIs_build (d := d) hw hn r.src s.agent.address r.tag
    (payload := replyPayload r.seq r.kind x replayed again data) (by omega) (by omega)
  have he : (reply d r x replayed again data s).store =
      (s.store.build d (frameOf r.src s.agent.address r.tag
        (replyPayload r.seq r.kind x replayed again data))).admitTail s.agent.mgmtClass
          (vget s.policy s.agent.mgmtClass).cutThrough d := rfl
  rw [he]
  refine hb.congr ?_ ?_ rfl <;> rw [FrameStore.admitTail_desc, if_pos rfl] <;> rfl

/-- A replay noted and counted (R171, R175). -/
def replayNoted (e : ReplayEntry) (s : State) : State :=
  countAgent (fun k => { k with replays := ctrInc k.replays }) (updReplay (replayPut { e with replayed := true }) s)

theorem answerReplay_eq (d : DescId) (r : Request) (e : ReplayEntry) (s : State) :
    answerReplay d r e s = reply d r e.status true e.replayed [] (replayNoted e s) := rfl

theorem reply_address (d : DescId) (r : Request) (x : Status) (a b : Bool) (l : List Byte) (s : State) :
    (reply d r x a b l s).agent.address = s.agent.address := rfl

theorem replyPayload_eq (seq : BitVec 16) (kind : Byte) (x : Status) (data : List Byte) :
    replyPayload seq kind x false false data = bytesOf 2 seq.toNat ++ [kind ||| 0x80, x.code, 0x00] ++ data := by
  rw [bytesOf_word]
  rfl

theorem replyPayload_replay (seq : BitVec 16) (kind : Byte) (x : Status) (again : Bool) :
    replyPayload seq kind x true again [] =
      bytesOf 2 seq.toNat ++ [kind ||| 0x80, x.code, if again then 0x03 else 0x01] := by
  rw [bytesOf_word]
  cases again <;> rfl

/-! ### What an execution answers (R163, R165 to R170) -/

theorem perform_of_refused {r : Request} (h : r.preCheck ≠ .ok) (s : State) :
    perform r s = Done.refuse r.preCheck s := by
  unfold perform
  split <;> simp_all

theorem perform_of_passed {r : Request} {k : ReqKind} (h : r.preCheck = .ok) (hk : kindOf r.kind = some k) (s : State) :
    perform r s = performKind k r s := by
  simp [perform, h, hk]

theorem kind_of_passed {r : Request} (h : r.preCheck = .ok) : ∃ k, kindOf r.kind = some k := by
  cases hk : kindOf r.kind with
  | none => simp [Request.preCheck, hk] at h
  | some k => exact ⟨k, rfl⟩

theorem length_natBytes (k n : Nat) : (natBytes k n).length = k := by
  induction k generalizing n <;> simp_all [natBytes]

theorem length_flatMap_le {α : Type} {f : α → List Byte} {m : Nat} (h : ∀ a, (f a).length ≤ m) (l : List α) :
    (l.flatMap f).length ≤ l.length * m := by
  induction l with
  | nil => simp
  | cons a l ih =>
    have := h a
    simp only [List.flatMap_cons, List.length_append, List.length_cons, Nat.add_mul]
    omega

theorem length_counterSet (s : State) : (counterSet s).length = 90 := by
  simp [counterSet, classCounters, PortCounters.list]

theorem length_counterBytes (s : State) : (counterBytes s).length ≤ 360 := by
  have h := length_flatMap_le (f := fun k : Ctr => natBytes 4 k.toNat) (fun _ => (length_natBytes 4 _).le)
    (counterSet s)
  rw [length_counterSet] at h
  exact h

theorem length_tableEntry {α : Type} {n m : Nat} {f : α → List Byte} (h : ∀ a, (f a).length = m) (v : Vector α n)
    (i : Nat) : (tableEntry v f i).length ≤ m := by
  unfold tableEntry
  split
  · exact (h _).le
  · simp

theorem length_entryBytes (k : Bank) (i : Nat) : (k.entryBytes i).length = 4 := by
  cases i <;> simp [Bank.entryBytes, Window.bytes, length_natBytes]

theorem length_readEntry (s : State) (t : TableId) (i : Nat) : (readEntry s t i).length ≤ t.entrySize := by
  cases t with
  | classify => exact length_tableEntry (f := ClassEntry.bytes) (m := 7) (fun _ => rfl) _ i
  | portDefault => exact length_tableEntry (f := fun a : Action => [a.code]) (m := 1) (fun _ => rfl) _ i
  | classPolicy => exact length_tableEntry (f := ClassPolicy.bytes) (m := 3) (fun _ => rfl) _ i
  | route => exact length_tableEntry (f := Route.bytes) (m := 4) (fun _ => rfl) _ i
  | portConfig => exact length_tableEntry (f := fun q : Port => q.config.bytes) (m := 3) (fun _ => rfl) _ i
  | scheduleActive => exact (length_entryBytes _ i).le
  | scheduleStandby => exact (length_entryBytes _ i).le
  | hits =>
    exact length_tableEntry (f := fun e : ClassEntry => natBytes 4 e.hits.toNat)
      (fun _ => length_natBytes 4 _) _ i

theorem length_readEntries (s : State) (t : TableId) (index count : Nat) :
    (readEntries s t index count).length ≤ count * t.entrySize := by
  have h := length_flatMap_le (fun j => length_readEntry s t (index + j)) (List.range count)
  rwa [List.length_range] at h

theorem performWrite_data (t : TableId) (r : Request) (s : State) : (performWrite t r s).data = [] := by
  cases t with
  | classify => unfold performWrite performWriteClassify; dsimp only; split <;> rfl
  | portDefault => unfold performWrite performWritePortDefault; dsimp only; split <;> rfl
  | classPolicy => unfold performWrite performWriteClassPolicy; dsimp only; split <;> rfl
  | portConfig => unfold performWrite performWritePortConfig; dsimp only; split <;> rfl
  | route =>
    unfold performWrite performWriteRoute
    dsimp only
    split
    · rfl
    · split <;> rfl
  | scheduleStandby =>
    unfold performWrite performWriteStandby
    dsimp only
    split
    · rfl
    · split <;> rfl
  | scheduleActive => rfl
  | hits => rfl

theorem performCommit_data (s : State) : (performCommit s).data = [] := by
  unfold performCommit
  split
  · rfl
  · split <;> rfl

theorem performAbandon_data (s : State) : (performAbandon s).data = [] := by
  unfold performAbandon
  split <;> rfl

theorem performSetAlign_data (r : Request) (s : State) : (performSetAlign r s).data = [] := by
  unfold performSetAlign
  dsimp only
  split
  · rfl
  · split
    · split <;> rfl
    · rfl

theorem performSetGlobal_data (r : Request) (s : State) : (performSetGlobal r s).data = [] := by
  unfold performSetGlobal
  dsimp only
  split <;> rfl

theorem performFlush_data (r : Request) (s : State) : (performFlush r s).data = [] := by
  unfold performFlush
  split
  · split <;> rfl
  · split
    · split <;> rfl
    · rfl

/-- No answer is longer than the size of its reply says (R163). -/
theorem length_performKind {r : Request} {k : ReqKind} (hk : kindOf r.kind = some k) (s : State) :
    (performKind k r s).data.length ≤ r.dataLength := by
  cases k with
  | query => simp [performKind, performQuery, queryData, length_natBytes, Request.dataLength, hk]
  | read =>
    cases ht : tableOf r.table with
    | none => simp [performKind, ht, Done.refuse]
    | some t =>
      simp only [performKind, ht, Request.dataLength, hk, Option.elim]
      exact length_readEntries s t _ _
  | write =>
    cases ht : tableOf r.table with
    | none => simp [performKind, ht, Done.refuse]
    | some t => simp [performKind, ht, performWrite_data]
  | commit => simp [performKind, performCommit_data]
  | abandon => simp [performKind, performAbandon_data]
  | setAlign => simp [performKind, performSetAlign_data]
  | setGlobal => simp [performKind, performSetGlobal_data]
  | readCounters =>
    simp only [Request.dataLength, hk]
    exact length_counterBytes s
  | flush => simp [performKind, performFlush_data]
  | trafficReset => simp [performKind, performTrafficReset, Done.ok]

/-- No request but a TRAFFIC_RESET that passes its checks touches a descriptor that stands apart. -/
def NoReset (r : Request) : Prop := r.preCheck = .ok → kindOf r.kind ≠ some .trafficReset

theorem LeavesAlone.perform {d : DescId} {r : Request} (h : NoReset r) (s : State) :
    LeavesAlone d s (perform r s).state := by
  by_cases hp : r.preCheck = .ok
  · obtain ⟨k, hk⟩ := kind_of_passed hp
    rw [perform_of_passed hp hk]
    exact performKind (fun he => h hp (he ▸ hk)) r s
  · rw [perform_of_refused hp]
    exact refl s

theorem length_perform (r : Request) (s : State) :
    (perform r s).data.length ≤ if r.preCheck = .ok then r.dataLength else 0 := by
  by_cases hp : r.preCheck = .ok
  · obtain ⟨k, hk⟩ := kind_of_passed hp
    rw [perform_of_passed hp hk, if_pos hp]
    exact length_performKind hk s
  · rw [perform_of_refused hp, if_neg hp]
    exact Nat.le_refl 0

/-- A READ_COUNTERS that passes its checks. -/
def ReadsCounters (r : Request) : Prop := kindOf r.kind = some .readCounters ∧ r.preCheck = .ok

theorem ReadsCounters.perform {r : Request} (h : ReadsCounters r) (s : State) :
    perform r s = performReadCounters r s := perform_of_passed h.2 h.1 s

theorem performCounted_of_other {r : Request} (h : ¬ ReadsCounters r) (s : State) :
    performCounted r s = perform r (countExecuted s) := by
  have hf : (decide (kindOf r.kind = some .readCounters) && decide (r.preCheck = .ok)) = false := by
    simpa [ReadsCounters] using h
  rw [performCounted, hf]
  rfl

/-- A READ_COUNTERS counts itself before or after it reads (log 9). -/
theorem performCounted_of_readsCounters {r : Request} (h : ReadsCounters r) (s : State) :
    performCounted r s = { performReadCounters r s.drawFree with
        state := countExecuted (performReadCounters r s.drawFree).state } ∨
      performCounted r s = performReadCounters r (countExecuted s.drawFree) := by
  have ht : (decide (kindOf r.kind = some .readCounters) && decide (r.preCheck = .ok)) = true := by
    obtain ⟨hk, hp⟩ := h
    simp [hk, hp]
  rw [performCounted, ht, h.perform, h.perform]
  cases Config.eitherOrder s.freeDraws
  · exact .inl rfl
  · exact .inr rfl

/-- The status, the data and what the counted execution leaves alone, as the uncounted one has them. -/
theorem performCounted_spec {d : DescId} {r : Request} (h : NoReset r) (s : State) :
    (performCounted r s).status = (perform r (countExecuted s)).status ∧
      LeavesAlone d s (performCounted r s).state ∧
      ((performCounted r s).data.length ≤ if r.preCheck = .ok then r.dataLength else 0) ∧
      (ReadsCounters r → (performCounted r s).data = counterBytes s ∨
        (performCounted r s).data = counterBytes (countExecuted s)) ∧
      (¬ ReadsCounters r → (performCounted r s).data = (perform r (countExecuted s)).data) := by
  have hce : ∀ s, LeavesAlone d s (countExecuted s) := fun s => LeavesAlone.of_eq rfl rfl
  have hdf : LeavesAlone d s s.drawFree := LeavesAlone.of_eq rfl rfl
  by_cases hr : ReadsCounters r
  · have hlen : ∀ s, (counterBytes s).length ≤ if r.preCheck = .ok then r.dataLength else 0 := fun s => by
      obtain ⟨hk, hp⟩ := hr
      rw [if_pos hp, Request.dataLength, hk]
      exact length_counterBytes s
    rw [hr.perform]
    rcases performCounted_of_readsCounters hr s with he | he <;> rw [he]
    · exact ⟨rfl, (hdf.trans (.performReadCounters r _)).trans (hce _), hlen _, fun _ => .inl rfl,
        fun hn => absurd hr hn⟩
    · exact ⟨rfl, (hdf.trans (hce _)).trans (.performReadCounters r _), hlen _, fun _ => .inr rfl,
        fun hn => absurd hr hn⟩
  · rw [performCounted_of_other hr]
    exact ⟨rfl, (hce s).trans (.perform h _), length_perform r _, fun hn => absurd hn hr, fun _ => rfl⟩

/-! ### The execution step's reply -/

/-- The state after an execution, before its reply is built: counted and recorded. -/
def executed (r : Request) (s : State) : State :=
  recordOutcome r (performCounted r s).status (countRefused (performCounted r s).status (performCounted r s).state)

theorem execute_of_noReset {r : Request} (h : NoReset r) (d : DescId) (s : State) : execute d r s =
    reply d r (performCounted r s).status false false (performCounted r s).data (executed r s) := by
  obtain ⟨hst, -⟩ := performCounted_spec (d := d) h s
  rw [execute, executed]
  refine if_neg fun ⟨hok, hk⟩ => ?_
  by_cases hp : r.preCheck = .ok
  · exact h hp hk
  · rw [hst, perform_of_refused hp] at hok
    exact hp hok

theorem LeavesAlone.executed {d : DescId} {r : Request} (h : NoReset r) (s : State) :
    LeavesAlone d s (executed r s) := by
  obtain ⟨-, hl, -⟩ := performCounted_spec (d := d) h s
  refine hl.trans (of_eq ?_ ?_)
  all_goals
    unfold Machine.executed recordOutcome updReplay
    split <;> simp

theorem noReset_of_row {r : Request} (h : r.row ≠ some .trafficReset ∨ r.preCheck ≠ .ok) : NoReset r := by
  rcases h with h | h
  · exact fun _ hk => h (by simp [Request.row, hk])
  · exact fun hp => absurd hp h

/-- Settles O43. The claim of the request taken has room for its reply (`atExecution_claimed`), the execution leaves it
alone (`LeavesAlone.executed`), and the reply written is the frame (`frameIs_reply`). -/
theorem replyFrameIsWritten : Obligations.ReplyFrameIsWritten := by
  refine ⟨fun r b => rfl, fun r bs => rfl, by decide +kernel, fun dest src tag payload => ⟨?_, ?_⟩,
    fun i q d qs r s h hi hs hm hreset => ?_⟩
  · exact frameOf_eq dest src tag payload
  · exact crcBytes_frameOf dest src tag payload
  · obtain ⟨st, hc⟩ := h.agentClaim
    obtain ⟨hapart, hn, hl, hcells⟩ := atExecution_claimed h hs hc
    have hw : Memory.wf (atExecution q qs st s).store.cells = true := by rw [hcells]; exact hm
    refine ⟨builderChooseJob s, exec_of_taken h hi, fun e he => ?_, fun st' hf hc' => ?_⟩
    · rw [builderChooseJob_of_replay h hc he, ← replyPayload_replay, answerReplay_eq]
      refine frameIs_reply (s := replayNoted e (atExecution q qs st s)) hw hn r e.status true e.replayed ?_
      exact (replyRoom_of_replay he).trans (Nat.mul_le_mul_left 64 hl.ge)
    · obtain rfl : st = st' := by simpa [hc] using hc'
      have hnr : NoReset r := by
        rcases hreset with hrow | hp | hfresh
        · exact noReset_of_row (.inl hrow)
        · exact noReset_of_row (.inr hp)
        · exact absurd hf hfresh
      obtain ⟨hst, -, hdata, hread, hother⟩ := performCounted_spec (d := d) hnr (atExecution q qs st s)
      obtain ⟨-, hdesc, hcells'⟩ := LeavesAlone.executed hnr _ hapart
      refine ⟨(performCounted r (atExecution q qs st s)).data, ?_, hread, hother⟩
      rw [builderChooseJob_of_fresh h hc hf, execute_of_noReset hnr, ← replyPayload_eq, ← hst, reply_address]
      refine frameIs_reply (s := executed r (atExecution q qs st s)) (by rw [hcells']; exact hw)
        (by rw [hdesc]; exact hn) r _ false false ?_
      have hroom := replyRoom_of_fresh hf
      rw [hdesc, hl]
      omega

end Sys2Proof.Machine
end

section
/-! The Interleaver's slot, rule by rule: what each symbol of the decision leaves in the state (R17), what each step of R20
decides, and a slot that holds nothing but its decision. -/

namespace Sys2Proof.Machine

/-! ### The symbols of the decision (R17) -/

section
variable {e : StackEntry} {es : List StackEntry} {s : State} (h : s.il.stack = e :: es)
include h

theorem setTop_eq (f : StackEntry) : setTop f s = { s with il := { s.il with stack := f :: es } } := by
  simp [setTop, State.updIl, h]

theorem resumeTop_eq : resumeTop e s = { s with
    trunkTx := some (.resume e.cls)
    il := { s.il with stack := { e with state := .active, fragment := 0 } :: es } } := by
  rw [resumeTop, setTop_eq h]
  rfl

theorem pauseTop_eq : pauseTop e s = { s with
    trunkTx := some .pause
    il := { s.il with
      stack := { e with state := .suspended .gated } :: es
      counters := { s.il.counters with gateSuspended := bump e.cls s.il.counters.gateSuspended } } } := by
  rw [pauseTop, setTop_eq h]
  rfl

theorem sendByte_eq : sendByte e s = { s with
    trunkTx := some (.data (s.store.readByte e.desc (e.emitted + 1)))
    il := { s.il with
      stack := { e with emitted := e.emitted + 1, fragment := e.fragment + 1, starve := 0 } :: es } } := by
  rw [sendByte, setTop_eq h]
  rfl

theorem fillTop_eq : fillTop e s = { s with
    trunkTx := some .fill
    il := { s.il with stack := { e with starve := e.starve + 1 } :: es } } := by
  rw [fillTop, setTop_eq h]
  rfl

theorem popTop_eq : popTop e s = { s with
    il := { s.il with stack := es }
    store := s.store.dropRef e.desc } := by
  simp [popTop, State.updIl, State.updStore, h]

theorem closeTop_eq : closeTop e s = { s with
    trunkTx := some .close
    il := { s.il with stack := es, counters := { s.il.counters with sent := bump e.cls s.il.counters.sent } }
    store := s.store.dropRef e.desc } := by
  rw [closeTop, popTop_eq h]
  rfl

theorem abortTop_eq : abortTop e s = { s with
    trunkTx := some .abort
    il := { s.il with stack := es, counters := { s.il.counters with aborted := bump e.cls s.il.counters.aborted } }
    store := s.store.dropRef e.desc } := by
  rw [abortTop, popTop_eq h]
  rfl

/-- OPEN over an ACTIVE top suspends it as PREEMPTED (R27). -/
theorem openFrame_of_active (ha : e.isActive = true) (x : Candidate) : openFrame x s = { s with
    trunkTx := some (.opened x.cls)
    store := s.store.unqueue x.cls x.desc
    il := { s.il with
      hold := if s.il.hold = some x.desc then none else s.il.hold
      stack := openedEntry x s :: { e with state := .suspended .preempted } :: es
      counters := { s.il.counters with preempted := bump e.cls s.il.counters.preempted } } } := by
  by_cases hh : s.il.hold = some x.desc <;>
    simp [openFrame, send, State.setTrunkTx, State.updIl, State.updStore, h, ha, hh, openedEntry]

end

/-- OPEN over an empty stack or a SUSPENDED top leaves what is below as it is (R26). -/
theorem openFrame_of_rests {s : State} (h : TopRests s) (x : Candidate) : openFrame x s = { s with
    trunkTx := some (.opened x.cls)
    store := s.store.unqueue x.cls x.desc
    il := { s.il with
      hold := if s.il.hold = some x.desc then none else s.il.hold
      stack := openedEntry x s :: s.il.stack } } := by
  rcases hs : s.il.stack with _ | ⟨e, es⟩
  · by_cases hh : s.il.hold = some x.desc <;>
      simp [openFrame, send, State.setTrunkTx, State.updIl, State.updStore, hs, hh, openedEntry]
  · have ha := h e es hs
    by_cases hh : s.il.hold = some x.desc <;>
      simp [openFrame, send, State.setTrunkTx, State.updIl, State.updStore, hs, ha, hh, openedEntry]

theorem topRests_of_empty {s : State} (h : s.il.stack = []) : TopRests s := by simp [TopRests, h]

theorem topRests_of_suspended {e : StackEntry} {es : List StackEntry} {s : State} (h : s.il.stack = e :: es)
    (ha : e.isActive = false) : TopRests s := by simp [TopRests, h, ha]

/-- OPEN in its two positions. -/
theorem openFrame_eq (x : Candidate) (s : State) : ∃ l k, openFrame x s = { s with
    trunkTx := some (.opened x.cls)
    store := s.store.unqueue x.cls x.desc
    il := { s.il with
      hold := if s.il.hold = some x.desc then none else s.il.hold
      stack := l
      counters := { s.il.counters with preempted := k } } } := by
  rcases hs : s.il.stack with _ | ⟨e, es⟩
  · exact ⟨_, _, openFrame_of_rests (topRests_of_empty hs) x⟩
  · cases ha : e.isActive
    · exact ⟨_, _, openFrame_of_rests (topRests_of_suspended hs ha) x⟩
    · exact ⟨_, _, openFrame_of_active hs ha x⟩

/-! ### What the arbiter leaves to the decision -/

/-- The arbiter leaves the stack, the drain, the counters, the open sets, the tables and the other blocks as they were. -/
structure Arbitrates (s t : State) : Prop where
  stack : t.il.stack = s.il.stack
  drain : t.il.drain = s.il.drain
  counters : t.il.counters = s.il.counters
  opens : ∀ c, isOpen t c = isOpen s c
  policy : t.policy = s.policy
  routes : t.routes = s.routes
  classifier : t.classifier = s.classifier
  agent : t.agent = s.agent
  align : t.align = s.align
  rx : t.rx = s.rx

theorem arbiter_arbitrates {s t : State} {us : List Cls} {x : Option Candidate} (h : arbiter s = (t, us, x)) :
    Arbitrates s t := by
  obtain rfl : (arbiter s).1 = t := by rw [h]
  constructor <;> simp

theorem openedEntry_congr {s t : State} (h : t.policy = s.policy) (x : Candidate) : openedEntry x t = openedEntry x s := by
  simp [openedEntry, h]

/-! ### The steps of R20, each by its condition -/

section
variable {e : StackEntry} {es : List StackEntry} {us : List Cls} {s t : State}

/-- The top after the change of cause of R32. -/
def gatedTop (e : StackEntry) (es : List StackEntry) (s : State) : State :=
  { s with il := { s.il with
    stack := { e with state := .suspended .gated } :: es
    counters := { s.il.counters with gateSuspended := bump e.cls s.il.counters.gateSuspended } } }

theorem gateTop_of_empty (hs : s.il.stack = []) : gateTop s = s := by
  simp [gateTop, hs]

theorem gateTop_of_stays (hs : s.il.stack = e :: es) (h : e.state = .suspended .gated ∨ isOpen s e.cls = true) :
    gateTop s = s := by
  rw [gateTop, hs]
  exact if_neg fun ⟨hp, hc⟩ => h.elim (fun hg => by simp [hg] at hp) (fun ho => by simp [ho] at hc)

theorem gateTop_of_closed (hs : s.il.stack = e :: es) (hp : e.state = .suspended .preempted)
    (hc : isOpen s e.cls = false) : gateTop s = gatedTop e es s := by
  rw [gateTop, hs]
  refine (if_pos ⟨hp, hc⟩).trans ?_
  rw [setTop_eq hs]
  rfl

theorem decideIdle_of_candidate {x : Candidate} (ha : arbiter (gateTop s) = (t, us, some x)) :
    decideIdle s = (openFrame x t, unfitRaises us) := by
  rw [decideIdle, ha]

theorem decideIdle_of_none (ha : arbiter (gateTop s) = (t, us, none)) :
    decideIdle s = (resumeOrIdle t, unfitRaises us) := by
  rw [decideIdle, ha]

theorem decide20_of_empty (hd : s.il.drain = false) (hs : s.il.stack = []) : decide20 s = decideIdle s := by
  simp [decide20, hd, hs]

theorem decide20_of_suspended (hd : s.il.drain = false) (hs : s.il.stack = e :: es) (ha : e.isActive = false)
    (hf : frameFailed s e.desc = false) : decide20 s = decideIdle s := by
  simp [decide20, hd, hs, ha, hf]

theorem decide20_of_active (hd : s.il.drain = false) (hs : s.il.stack = e :: es) (ha : e.isActive = true)
    (hf : frameFailed s e.desc = false) : decide20 s = decideActive e s := by
  simp [decide20, hd, hs, ha, hf]

theorem decide20_of_failed_active (hd : s.il.drain = false) (hs : s.il.stack = e :: es) (ha : e.isActive = true)
    (hf : frameFailed s e.desc = true) : decide20 s = (abortTop e s, []) := by
  simp [decide20, hd, hs, ha, hf]

theorem decide20_of_failed_suspended (hd : s.il.drain = false) (hs : s.il.stack = e :: es) (ha : e.isActive = false)
    (hf : frameFailed s e.desc = true) : decide20 s = (resumeTop e s, []) := by
  simp [decide20, hd, hs, ha, hf]

theorem decide20_of_drain (hd : s.il.drain = true) : decide20 s = (drainStep s, []) := if_pos hd

/-- A top that the arbiter is not asked about goes on (R20, steps 5c to 5e). -/
theorem decideActive_of_unasked (hl : (e.preemptible && limitsHold s e) = false) : decideActive e s = continueTop e s := by
  simp [decideActive, hl]

/-- An ACTIVE top that goes on, in the state that the arbiter leaves. -/
theorem decide20_of_goesOn (hd : s.il.drain = false) (hs : s.il.stack = e :: es) (h : GoesOn e us s t) :
    decide20 s = ((continueTop e t).1, us.map .unfitDrop ++ (continueTop e t).2) := by
  obtain ⟨ha, hf, h⟩ := h
  rw [decide20_of_active hd hs ha hf]
  rcases h with ⟨hl, rfl, rfl⟩ | ⟨hl, harb, ho⟩
  · exact decideActive_of_unasked hl
  · have hopen := (arbiter_arbitrates harb).opens e.cls
    rw [decideActive, if_pos hl, harb]
    exact if_pos (hopen.trans ho)

theorem GoesOn.arbitrates (h : GoesOn e us s t) : Arbitrates s t := by
  obtain ⟨-, -, ⟨-, -, rfl⟩ | ⟨-, harb, -⟩⟩ := h
  · constructor <;> intros <;> rfl
  · exact arbiter_arbitrates harb

/-- The limits under which an ACTIVE top may be suspended (R27, R29). -/
theorem limits_of {e : StackEntry} {s : State} (hp : e.preemptible = true) (hf : Config.minFrag ≤ e.fragment)
    (ht : Config.minTail ≤ remaining s e) : (e.preemptible && limitsHold s e) = true := by
  simp [limitsHold, hp, hf, ht]

end

/-! ### What no symbol of the decision changes: the drain flag and the gate overruns -/

/-- The drain flag and the gate overrun counters in t are those of s. -/
structure DecisionKeeps (s t : State) : Prop where
  drain : t.il.drain = s.il.drain
  overruns : t.il.counters.overruns = s.il.counters.overruns

namespace DecisionKeeps

theorem refl (s : State) : DecisionKeeps s s := ⟨rfl, rfl⟩

theorem trans {s t u : State} (h : DecisionKeeps s t) (h' : DecisionKeeps t u) : DecisionKeeps s u :=
  ⟨h'.drain.trans h.drain, h'.overruns.trans h.overruns⟩

theorem of_il {s t : State} (h : t.il = s.il) : DecisionKeeps s t := ⟨by rw [h], by rw [h]⟩

theorem setTop (e : StackEntry) (s : State) : DecisionKeeps s (setTop e s) := by
  rcases hs : s.il.stack with _ | ⟨f, fs⟩
  · exact of_il (by simp [Machine.setTop, hs])
  · rw [setTop_eq hs]
    exact ⟨rfl, rfl⟩

theorem sendByte (e : StackEntry) (s : State) : DecisionKeeps s (sendByte e s) := (setTop _ s).trans (of_il rfl)

theorem fillTop (e : StackEntry) (s : State) : DecisionKeeps s (fillTop e s) := (setTop _ s).trans (of_il rfl)

theorem resumeTop (e : StackEntry) (s : State) : DecisionKeeps s (resumeTop e s) := (setTop _ s).trans (of_il rfl)

theorem pauseTop (e : StackEntry) (s : State) : DecisionKeeps s (pauseTop e s) := (setTop _ s).trans ⟨rfl, rfl⟩

theorem closeTop (e : StackEntry) (s : State) : DecisionKeeps s (closeTop e s) := ⟨rfl, rfl⟩

theorem abortTop (e : StackEntry) (s : State) : DecisionKeeps s (abortTop e s) := ⟨rfl, rfl⟩

theorem openFrame (x : Candidate) (s : State) : DecisionKeeps s (openFrame x s) := by
  obtain ⟨l, k, e⟩ := openFrame_eq x s
  rw [e]
  exact ⟨rfl, rfl⟩

theorem of_arbitrates {s t : State} (h : Arbitrates s t) : DecisionKeeps s t := ⟨h.drain, by rw [h.counters]⟩

theorem continueTop (e : StackEntry) (s : State) : DecisionKeeps s (continueTop e s).1 := by
  unfold Machine.continueTop
  split
  · exact closeTop e s
  · split
    · exact sendByte e s
    · split
      · exact (fillTop e s).trans (of_il (by simp))
      · exact fillTop e s

theorem decideActive (e : StackEntry) (s : State) : DecisionKeeps s (decideActive e s).1 := by
  unfold Machine.decideActive
  split
  · split
    · next hx => exact (of_arbitrates (arbiter_arbitrates hx)).trans (openFrame _ _)
    · next hx =>
      split
      · exact (of_arbitrates (arbiter_arbitrates hx)).trans (continueTop _ _)
      · exact (of_arbitrates (arbiter_arbitrates hx)).trans (pauseTop _ _)
  · exact continueTop e s

theorem gateTop (s : State) : DecisionKeeps s (gateTop s) := by
  unfold Machine.gateTop
  split
  · exact refl s
  · split
    · exact (setTop _ s).trans ⟨rfl, rfl⟩
    · exact refl s

theorem resumeOrIdle (s : State) : DecisionKeeps s (resumeOrIdle s) := by
  unfold Machine.resumeOrIdle
  split
  · exact of_il rfl
  · split
    · exact resumeTop _ s
    · exact of_il rfl

theorem decideIdle (s : State) : DecisionKeeps s (decideIdle s).1 := by
  unfold Machine.decideIdle
  split
  · next hx => exact ((gateTop s).trans (of_arbitrates (arbiter_arbitrates hx))).trans (openFrame _ _)
  · next hx => exact ((gateTop s).trans (of_arbitrates (arbiter_arbitrates hx))).trans (resumeOrIdle _)

/-- Outside a drain no decision of R20 begins one, and none counts an overrun. -/
theorem decide20 {s : State} (h : s.il.drain = false) : DecisionKeeps s (decide20 s).1 := by
  unfold Machine.decide20
  rw [if_neg (by simp [h])]
  split
  · exact decideIdle s
  · split
    · split
      · exact abortTop _ s
      · exact decideActive _ s
    · split
      · exact resumeTop _ s
      · exact decideIdle s

end DecisionKeeps

/-- The slot of a drain counts no overrun either. -/
theorem drainStep_overruns (s : State) : (drainStep s).il.counters.overruns = s.il.counters.overruns := by
  rcases hs : s.il.stack with _ | ⟨e, es⟩
  · simp [drainStep, hs]
  · cases ha : e.isActive
    · simpa [drainStep, hs, ha] using (DecisionKeeps.resumeTop e s).overruns
    · have hend : (endDrain (abortTop e s)).il.counters = (abortTop e s).il.counters := (endDrain_il_frame _).2
      by_cases hes : es = []
      · simpa [drainStep, hs, ha, hes, hend] using (DecisionKeeps.abortTop e s).overruns
      · simpa [drainStep, hs, ha, hes] using (DecisionKeeps.abortTop e s).overruns

theorem decide20_overruns (s : State) : (decide20 s).1.il.counters.overruns = s.il.counters.overruns := by
  cases hd : s.il.drain
  · exact (DecisionKeeps.decide20 hd).overruns
  · rw [decide20_of_drain hd]
    exact drainStep_overruns s

/-! ### A slot that holds the decision alone -/

/-- A slot that has begun, with no check due, is its decision. -/
theorem trunkSlot_of_begun {s : State} (hb : s.sched.slotBegun = true) (hm : missedDue s = false) :
    trunkSlot s = raiseAll (decideSlot s).2 (decideSlot s).1 := by
  have hbegin : beginSlot s = s := by simp [beginSlot, hb]
  have hcheck : missedCheck s = s := by simp [missedCheck, hm]
  have hraise : beginRaises s = [] := by simp [beginRaises, hb]
  have hmissed : missedRaises s = [] := by simp [missedRaises, hm]
  simp only [trunkSlot, hbegin, hcheck, hraise, hmissed, List.nil_append]

theorem exec_trunkSlot {s : State} (h : s.resetHeld = false) : exec .trunkSlot s = .next (trunkSlot s) := by
  simp [exec, execTrunkSlot, whenRunning, h]

theorem trunkSlot_of_plain {s : State} (h : PlainSlot s) : trunkSlot s = slotEnds (decide20 s).2 (decide20 s).1 := by
  obtain ⟨⟨-, hu⟩, hb, hm, ho⟩ := h
  rw [trunkSlot_of_begun hb hm]
  simp only [decideSlot, hu, if_true, trunkDecision, ho, countOverrun, overrunRaises, Option.toList_none, List.map_nil,
    List.nil_append]
  rfl

theorem exec_trunkSlot_of_plain {s t : State} {es : List Notice} (h : PlainSlot s) (hd : decide20 s = (t, es)) :
    exec .trunkSlot s = .next (slotEnds es t) := by
  have hr := h.1.1
  rw [exec_trunkSlot hr, trunkSlot_of_plain h, hd]

end Sys2Proof.Machine
end

section
/-! The decisions of a trunk slot: an ACTIVE top goes on, is aborted, preempted or paused, a SUSPENDED one is resumed, a
candidate is opened, or IDLE is sent (R17, R20, R26 to R36, R42). -/

namespace Sys2Proof.Machine

/-! ### The top goes on (R20, steps 5c to 5e) -/

section
variable {e : StackEntry} {t : State}

theorem continueTop_of_close (hr : remaining t e = 0) (hc : (t.store.desc e.desc).state = .complete) :
    continueTop e t = (closeTop e t, []) := if_pos ⟨hr, hc⟩

theorem continueTop_of_data (h : ¬ (remaining t e = 0 ∧ (t.store.desc e.desc).state = .complete))
    (hb : e.emitted < (t.store.desc e.desc).stored) : continueTop e t = (sendByte e t, []) := by
  rw [continueTop, if_neg h, if_pos hb]

theorem continueTop_of_fill (h : ¬ (remaining t e = 0 ∧ (t.store.desc e.desc).state = .complete))
    (hb : (t.store.desc e.desc).stored ≤ e.emitted) (hl : stallsTrunk e t = false) :
    continueTop e t = (fillTop e t, []) := by
  rw [continueTop, if_neg h, if_neg (Nat.not_lt.2 hb), if_neg (by simp [hl])]

theorem continueTop_of_stall (hf : (t.store.desc e.desc).state = .filling)
    (hb : (t.store.desc e.desc).stored ≤ e.emitted) (hl : t.agent.stallLimit ≤ e.starve + 1) :
    continueTop e t = (failFrame e.desc .trunkStall (fillTop e t), [.stallAbort .trunk]) := by
  rw [continueTop, if_neg (by simp [hf]), if_neg (Nat.not_lt.2 hb), if_pos (by simp [stallsTrunk, hl, hf])]

end

/-- Settles O7: the arbiter, where it is asked, leaves the stack, so that the top it leaves goes on by the rules of CLOSE,
data and FILL. -/
theorem activeTopContinues : Obligations.ActiveTopContinues := by
  intro e es us s t hp hd hs hg
  have harb := hg.arbitrates
  have ht : t.il.stack = e :: es := harb.stack.trans hs
  have hexec : ∀ {u : State}, continueTop e t = (u, []) →
      exec .trunkSlot s = .next (slotEnds (us.map .unfitDrop) u) := fun hu => by
    refine exec_trunkSlot_of_plain hp ?_
    rw [decide20_of_goesOn hd hs hg, hu, List.append_nil]
  refine ⟨fun hn hb => ?_, fun hr hc => ?_, fun hn hb hl => ?_⟩
  · rw [← sendByte_eq ht]
    exact hexec (continueTop_of_data hn hb)
  · rw [← closeTop_eq ht]
    exact hexec (continueTop_of_close hr hc)
  · rw [← fillTop_eq ht]
    have hstall : stallsTrunk e t = false := by simp [stallsTrunk, harb.agent, Nat.not_le.2 hl]
    exact hexec (continueTop_of_fill hn hb hstall)

/-! ### ABORT and RESUME (R32, R38, R39, R42) -/

theorem slotEnds_nil (s : State) : slotEnds [] s = slotDone s := rfl

section
variable {e : StackEntry} {es : List StackEntry} {s : State} (hs : s.il.stack = e :: es)
include hs

theorem drainStep_of_active (ha : e.isActive = true) (hes : es ≠ []) : drainStep s = abortTop e s := by
  simp [drainStep, hs, ha, hes]

theorem drainStep_of_last (ha : e.isActive = true) (hes : es = []) : drainStep s = endDrain (abortTop e s) := by
  simp [drainStep, hs, ha, hes]

theorem drainStep_of_suspended (ha : e.isActive = false) : drainStep s = resumeTop e s := by
  simp [drainStep, hs, ha]

theorem resumeOrIdle_of_open (ho : isOpen s e.cls = true) : resumeOrIdle s = resumeTop e s := by
  simp [resumeOrIdle, hs, ho]

theorem resumeOrIdle_of_closed (ho : isOpen s e.cls = false) : resumeOrIdle s = send .idle s := by
  simp [resumeOrIdle, hs, ho]

end

theorem resumeOrIdle_of_empty {s : State} (hs : s.il.stack = []) : resumeOrIdle s = send .idle s := by
  simp [resumeOrIdle, hs]

/-- Settles O8: the steps of R20 that abort or resume the top, each by its condition. -/
theorem topIsAbortedOrResumed : Obligations.TopIsAbortedOrResumed := by
  intro e es s hp hs
  refine ⟨fun ha hc => ?_, fun ha hc => ?_, fun us t ha hd hf ho harb => ?_⟩
  · rw [← abortTop_eq hs, ← slotEnds_nil]
    refine exec_trunkSlot_of_plain hp ?_
    rcases hc with ⟨hd, hf⟩ | ⟨hd, hes⟩
    · exact decide20_of_failed_active hd hs ha hf
    · rw [decide20_of_drain hd, drainStep_of_active hs ha hes]
  · rw [← resumeTop_eq hs, ← slotEnds_nil]
    refine exec_trunkSlot_of_plain hp ?_
    cases hd : s.il.drain
    · exact decide20_of_failed_suspended hd hs ha (hc.resolve_left (by simp [hd]))
    · rw [decide20_of_drain hd, drainStep_of_suspended hs ha]
  · have k := arbiter_arbitrates harb
    have ht : t.il.stack = e :: es := k.stack.trans hs
    have hgate : gateTop s = s := gateTop_of_stays hs (.inr ho)
    rw [← resumeTop_eq ht]
    refine exec_trunkSlot_of_plain hp ?_
    rw [decide20_of_suspended hd hs ha hf, decideIdle_of_none (by rw [hgate]; exact harb),
      resumeOrIdle_of_open ht ((k.opens e.cls).trans ho)]
    rfl

/-! ### OPEN of a candidate (R26, R27, R32) -/

theorem isActive_of_suspended {e : StackEntry} {c : SuspendCause} (h : e.state = .suspended c) : e.isActive = false := by
  simp [StackEntry.isActive, h]

/-- An OPEN over a stack that rests, after the arbiter. -/
theorem openFrame_of_arbitrated {x : Candidate} {s t : State} (k : Arbitrates s t) (hr : TopRests s) :
    openFrame x t = { t with
      trunkTx := some (.opened x.cls)
      store := t.store.unqueue x.cls x.desc
      il := { t.il with
        hold := if t.il.hold = some x.desc then none else t.il.hold
        stack := openedEntry x s :: s.il.stack } } := by
  have ht : TopRests t := by rw [TopRests, k.stack]; exact hr
  rw [openFrame_of_rests ht, openedEntry_congr k.policy, k.stack]

/-- Step 6 of R20 decides a slot over a stack that is empty, or whose top is SUSPENDED and not FAILED. -/
def Rests (s : State) : Prop := ∀ e es, s.il.stack = e :: es → e.isActive = false ∧ frameFailed s e.desc = false

theorem Rests.topRests {s : State} (h : Rests s) : TopRests s := fun e es hs => (h e es hs).1

theorem decide20_of_rests {s : State} (hd : s.il.drain = false) (h : Rests s) : decide20 s = decideIdle s := by
  rcases hs : s.il.stack with _ | ⟨e, es⟩
  · exact decide20_of_empty hd hs
  · obtain ⟨ha, hf⟩ := h e es hs
    exact decide20_of_suspended hd hs ha hf

/-- No top of s is GATED in this slot. -/
theorem gateTop_of_rests {s : State}
    (h : ∀ e es, s.il.stack = e :: es → e.state = .suspended .gated ∨ isOpen s e.cls = true) : gateTop s = s := by
  rcases hs : s.il.stack with _ | ⟨e, es⟩
  · exact gateTop_of_empty hs
  · exact gateTop_of_stays hs (h e es hs)

/-- Settles O10: the OPEN over a stack that rests, over the ACTIVE top it preempts, and over the top that becomes GATED. -/
theorem candidateIsOpenedOrPreempts : Obligations.CandidateIsOpenedOrPreempts := by
  refine ⟨fun x us s t hp hd harb htop => ?_, fun x e es us s t hp hd hs ha hf hpre hfrag htail harb => ?_,
    fun x e es us s t hp hd hs hst hf hc harb => ?_⟩
  · have hrests : Rests s := fun e es hs => by
      rw [hs] at htop
      obtain ⟨hf, ha, -⟩ := htop
      exact ⟨ha, hf⟩
    have hgate : gateTop s = s := gateTop_of_rests fun e es hs => by
      rw [hs] at htop
      obtain ⟨-, -, hg⟩ := htop
      exact hg
    rw [← openFrame_of_arbitrated (arbiter_arbitrates harb) hrests.topRests]
    refine exec_trunkSlot_of_plain hp ?_
    rw [decide20_of_rests hd hrests, decideIdle_of_candidate (by rw [hgate]; exact harb)]
    rfl
  · have k := arbiter_arbitrates harb
    have ht : t.il.stack = e :: es := k.stack.trans hs
    rw [← openedEntry_congr k.policy, ← openFrame_of_active ht ha]
    refine exec_trunkSlot_of_plain hp ?_
    rw [decide20_of_active hd hs ha hf, decideActive, if_pos (limits_of hpre hfrag htail), harb]
    rfl
  · have k : Arbitrates (gatedTop e es s) t := arbiter_arbitrates harb
    have hrest : TopRests (gatedTop e es s) := topRests_of_suspended rfl rfl
    refine (exec_trunkSlot_of_plain hp (t := openFrame x t) (es := us.map .unfitDrop) ?_).trans ?_
    · rw [decide20_of_suspended hd hs (isActive_of_suspended hst) hf,
        decideIdle_of_candidate (by rw [gateTop_of_closed hs hst hc]; exact harb)]
      rfl
    · rw [openFrame_of_arbitrated k hrest]
      rfl

/-! ### PAUSE and IDLE (R29, R32, R33) -/

theorem send_idle_eq (s : State) : send .idle s = { s with trunkTx := some .idle } := rfl

/-- Settles O11: PAUSE of the ACTIVE top, and IDLE over an empty stack or a GATED top, which a closed PREEMPTED one has
become in the slot. -/
theorem pauseOrIdleWithoutCandidate : Obligations.PauseOrIdleWithoutCandidate := by
  refine ⟨fun e es us s t hp hd hs ha hf hpre hfrag htail harb hc => ?_, fun us s t hp hd harb htop => ?_,
    fun e es us s t hp hd hs hst hf hc harb => ?_⟩
  · have k := arbiter_arbitrates harb
    have ht : t.il.stack = e :: es := k.stack.trans hs
    rw [← pauseTop_eq ht]
    refine exec_trunkSlot_of_plain hp ?_
    rw [decide20_of_active hd hs ha hf, decideActive, if_pos (limits_of hpre hfrag htail), harb]
    exact if_neg (by rw [k.opens, hc]; simp)
  · have k := arbiter_arbitrates harb
    have hrests : Rests s := fun e es hs => by
      rw [hs] at htop
      obtain ⟨hf, hg, -⟩ := htop
      exact ⟨isActive_of_suspended hg, hf⟩
    have hgate : gateTop s = s := gateTop_of_rests fun e es hs => by
      rw [hs] at htop
      obtain ⟨-, hg, -⟩ := htop
      exact .inl hg
    have hidle : resumeOrIdle t = send .idle t := by
      rcases hs : s.il.stack with _ | ⟨e, es⟩
      · exact resumeOrIdle_of_empty (k.stack.trans hs)
      · rw [hs] at htop
        obtain ⟨-, -, hc⟩ := htop
        exact resumeOrIdle_of_closed (k.stack.trans hs) ((k.opens e.cls).trans hc)
    rw [← send_idle_eq, ← hidle]
    refine exec_trunkSlot_of_plain hp ?_
    rw [decide20_of_rests hd hrests, decideIdle_of_none (by rw [hgate]; exact harb)]
    rfl
  · have k : Arbitrates (gatedTop e es s) t := arbiter_arbitrates harb
    have hidle : resumeOrIdle t = send .idle t :=
      resumeOrIdle_of_closed (e := { e with state := .suspended .gated }) k.stack ((k.opens e.cls).trans hc)
    rw [← send_idle_eq, ← hidle]
    refine exec_trunkSlot_of_plain hp ?_
    rw [decide20_of_suspended hd hs (isActive_of_suspended hst) hf,
      decideIdle_of_none (by rw [gateTop_of_closed hs hst hc]; exact harb)]
    rfl

end Sys2Proof.Machine
end

section
/-! The slots that hold more than the decision's symbol: the trunk stall (R37), the gate overrun (R31) and the end of a
drain (R43). -/

namespace Sys2Proof.Machine

/-! ### Raises do not look beyond the Agent and the counter (R177) -/

theorem raiseEach_agent_congr (es : List Notice) {s t : State} (ha : t.agent = s.agent)
    (hc : t.sched.counter = s.sched.counter) : (raiseEach es t).agent = (raiseEach es s).agent := by
  induction es generalizing s t with
  | nil => exact ha
  | cons e es ih => exact ih (raise_agent_congr e ha hc) (by simpa using hc)

theorem raiseAll_agent_congr (es : List Notice) {s t : State} (ha : t.agent = s.agent)
    (hc : t.sched.counter = s.sched.counter) (hd : t.freeDraws = s.freeDraws) :
    (raiseAll es t).agent = (raiseAll es s).agent := by
  rw [raiseAll, raiseAll, hd]
  exact raiseEach_agent_congr _ ha hc

/-! ### The failure of the top's frame (R37, R117, R134, R140) -/

/-- A FILLING frame that the stack alone holds is FAILED where it lies: it is in no queue, and it is not released. -/
theorem fail_of_held {d : DescId} {st : FrameStore} (hr : (st.desc d).refs ≠ 0) (hq : st.queued d = false)
    (r : FailReason) : st.fail d r = st.updDesc d fun x => { x with state := .failed r } := by
  have hdesc : (st.updDesc d fun x => { x with state := .failed r }).desc d = { st.desc d with state := .failed r } :=
    FrameStore.desc_updDesc_self _ _ _
  have hleave : (st.updDesc d fun x => { x with state := .failed r }).leaveQueue d =
      st.updDesc d fun x => { x with state := .failed r } := by
    rw [FrameStore.leaveQueue, hdesc]
    cases hc : (st.desc d).cls with
    | none => rfl
    | some c =>
      rw [FrameStore.queued, hc] at hq
      exact if_neg (by simpa using hq)
  rw [FrameStore.fail, hleave, FrameStore.settle_of_refs]
  rw [hdesc]
  exact hr

/-- The failure of a frame that the stack alone holds, at the port it came from. -/
theorem failFrame_of_held {d : DescId} {s : State} (hf : (s.store.desc d).state = .filling)
    (hr : (s.store.desc d).refs ≠ 0) (hq : s.store.queued d = false) (r : FailReason) :
    failFrame d r s = failAtPort d r (s.store.desc d).origin
      (s.updStore fun st => st.updDesc d fun x => { x with state := .failed r }) := by
  rw [failFrame, if_pos hf]
  congr 1
  simp only [State.updStore, fail_of_held hr hq]

/-- The framer that fills a frame lets it go at its failure (R134). -/
theorem framer_failFrame {p : PortIx} {d : DescId} {s : State} (r : FailReason)
    (hf : (s.store.desc d).state = .filling) (ho : (s.store.desc d).origin = some (.tributary p))
    (hd : (s.framer p).desc = some d) : (failFrame d r s).framer p = (s.framer p).freed .discard := by
  simp only [failFrame, hf, if_true, ho, failAtPort, framerLoses, State.framer, port_updPort_self, countPort]
  exact congrArg Port.framer (if_pos hd)

/-- The slot whose FILL reaches the limit is both commands' (log 5). -/
theorem exec_trunkStallLimit_of_stall {s t : State} {es : List Notice} (h : PlainSlot s) (hd : decide20 s = (t, es))
    (hm : Notice.stallAbort .trunk ∈ es) : exec .trunkStallLimit s = exec .trunkSlot s := by
  obtain ⟨⟨hr, hu⟩, hb, hm', ho⟩ := h
  have hbegin : missedCheck (beginSlot s) = s := by simp [beginSlot, missedCheck, hb, hm']
  have hdue : stallDue (missedCheck (beginSlot s)) = true := by
    simp [hbegin, stallDue, hu, trunkDecision, ho, countOverrun, overrunRaises, hd, hm]
  simp [exec, execTrunkStallLimit, execTrunkSlot, whenRunning, hr, trunkStallLimit, hdue]

/-- Settles O9: the FILL of a starving top, with the failure of its frame in the same slot. -/
theorem trunkStallFailsTheTop : Obligations.TrunkStallFailsTheTop := by
  intro e es us s u hp hd hs hg hf hrefs hq hb hl
  have k := hg.arbitrates
  have hu : u.il.stack = e :: es := k.stack.trans hs
  have hdec : decide20 s = (failFrame e.desc .trunkStall (fillTop e u), us.map .unfitDrop ++ [.stallAbort .trunk]) := by
    rw [decide20_of_goesOn hd hs hg, continueTop_of_stall hf hb (by rw [k.agent]; exact hl)]
  have hfail := failFrame_of_held (s := fillTop e u) (by simpa using hf) (by simpa using hrefs) (by simpa using hq)
    .trunkStall
  simp only [fillTop_frame] at hfail
  have hil := congrArg State.il (fillTop_eq hu)
  refine ⟨_, (exec_trunkStallLimit_of_stall hp hdec (by simp)).trans (exec_trunkSlot_of_plain hp hdec),
    exec_trunkSlot_of_plain hp hdec, ?_⟩
  have hstore : (failFrame e.desc .trunkStall (fillTop e u)).store =
      u.store.updDesc e.desc fun x => { x with state := .failed .trunkStall } := by simp [hfail]
  refine ⟨?_, ?_, ?_, ?_, ?_, ?_, fun p ho => ?_, ?_, ?_, ?_, ?_, ?_, ?_, ?_, ?_, ?_⟩
  case refine_1 => rw [hfail]; simp [slotEnds, slotDone, fillTop]
  case refine_2 => simp [slotEnds, slotDone, hil]
  case refine_3 => simp [slotEnds, slotDone, hil, k.counters]
  case refine_4 => simp [slotEnds, slotDone, hil]
  case refine_5 => simp [slotEnds, slotDone, hstore]
  case refine_6 => exact raiseAll_agent_congr _ (by simp [slotDone]) (by simp [slotDone]) (by simp [slotDone])
  case refine_7 =>
    have hport : (slotEnds (us.map .unfitDrop ++ [.stallAbort .trunk])
        (failFrame e.desc .trunkStall (fillTop e u))).port p = (failFrame e.desc .trunkStall (fillTop e u)).port p := by
      simp [State.port, slotEnds, slotDone]
    have hfill : (fillTop e u).port p = u.port p := by simp [State.port]
    have hf' : ((fillTop e u).store.desc e.desc).state = .filling := by simpa using hf
    have ho' : ((fillTop e u).store.desc e.desc).origin = some (.tributary p) := by simpa using ho
    rw [State.framer, State.framer, hport, ← hfill]
    refine ⟨by rw [counters_failFrame _ hf' ho']; rfl, fun hd => ?_⟩
    have hfr := framer_failFrame .trunkStall hf' ho' hd
    rw [State.framer] at hfr
    rw [hfr]
    exact ⟨rfl, rfl⟩
  all_goals simp [slotEnds, slotDone, hstore, k.align, k.rx, k.classifier, k.policy, k.routes]

/-! ### The gate overrun (R31) -/

theorem exists_noteRaise (e : Notice) (n : Nat) (l : List NoticeRecord) :
    ∃ r ∈ noteRaise e n l, r.first.kind = e.kind := by
  induction l with
  | nil => exact ⟨_, List.mem_cons_self, rfl⟩
  | cons x xs ih =>
    unfold noteRaise
    split
    · next hx => exact ⟨_, List.mem_cons_self, hx⟩
    · obtain ⟨r, hr, hk⟩ := ih
      exact ⟨r, List.mem_cons_of_mem _ hr, hk⟩

theorem kinds_noteRaise {e : Notice} {n : Nat} {l : List NoticeRecord} {k : NoticeKind}
    (h : ∃ r ∈ l, r.first.kind = k) : ∃ r ∈ noteRaise e n l, r.first.kind = k := by
  induction l with
  | nil => simp at h
  | cons x xs ih =>
    obtain ⟨r, hr, hk⟩ := h
    unfold noteRaise
    split
    · rcases List.mem_cons.1 hr with rfl | hr
      · exact ⟨_, List.mem_cons_self, hk⟩
      · exact ⟨r, List.mem_cons_of_mem _ hr, hk⟩
    · rcases List.mem_cons.1 hr with rfl | hr
      · exact ⟨r, List.mem_cons_self, hk⟩
      · obtain ⟨r', hr', hk'⟩ := ih ⟨r, hr, hk⟩
        exact ⟨r', List.mem_cons_of_mem _ hr', hk'⟩

/-- A record of kind k stands in the Notice List. -/
def Noted (k : NoticeKind) (s : State) : Prop := ∃ r ∈ s.agent.notices, r.first.kind = k

theorem noted_raise_self {e : Notice} {s : State} (h : maskAllows s.agent.noticeMask e.kind = true) :
    Noted e.kind (raise e s) := by
  simp only [Noted, raise, State.updAgent_agent, h, if_true]
  exact exists_noteRaise e _ _

theorem Noted.raise {k : NoticeKind} {s : State} (h : Noted k s) (e : Notice) : Noted k (raise e s) := by
  simp only [Noted, Machine.raise, State.updAgent_agent]
  split
  · exact kinds_noteRaise h
  · exact h

theorem raise_noticeMask (e : Notice) (s : State) : (raise e s).agent.noticeMask = s.agent.noticeMask := by
  simp only [raise, State.updAgent_agent]
  split <;> rfl

theorem noted_raiseEach {e : Notice} {es : List Notice} {s : State} (he : e ∈ es)
    (h : maskAllows s.agent.noticeMask e.kind = true) : Noted e.kind (raiseEach es s) := by
  have hkeep : ∀ (l : List Notice) (t : State), Noted e.kind t → Noted e.kind (raiseEach l t) := by
    intro l
    induction l with
    | nil => exact fun t ht => ht
    | cons x l ih => exact fun t ht => ih _ (ht.raise x)
  induction es generalizing s with
  | nil => simp at he
  | cons x xs ih =>
    rcases List.mem_cons.1 he with rfl | he
    · exact hkeep xs _ (noted_raise_self h)
    · exact ih he (by rw [raise_noticeMask]; exact h)

/-- Each raise of a step, in whatever order it is taken, stands in the list if its kind is enabled (R177; log 8). -/
theorem noted_raiseAll {e : Notice} {es : List Notice} {s : State} (he : e ∈ es)
    (h : maskAllows s.agent.noticeMask e.kind = true) : Noted e.kind (raiseAll es s) :=
  noted_raiseEach ((freeOrder_perm es s.freeDraws).mem_iff.2 he) h

theorem decide20_noticeMask (s : State) : (decide20 s).1.agent.noticeMask = s.agent.noticeMask := by
  cases hd : s.il.drain
  · rw [(decide20_kept s hd).agent]
  · rw [decide20_of_drain hd]
    rcases hs : s.il.stack with _ | ⟨e, es⟩
    · simp [drainStep, hs]
    · obtain ⟨-, hm, -⟩ := endDrain_sameList (abortTop e s)
      cases ha : e.isActive
      · simp [drainStep, hs, ha]
      · by_cases hes : es = []
        · simpa [drainStep, hs, ha, hes] using hm
        · simp [drainStep, hs, ha, hes]

/-- An overrun of class c has been counted, in a slot whose slot before had the open set o. -/
def overrunCounted (c : Cls) (o : ClassSet) (s : State) : State :=
  countOverrun (some c) (s.updSched fun k => { k with openBefore := o })

theorem besideFramers_overrunCounted (c : Cls) (o : ClassSet) : BesideFramers (overrunCounted c o) :=
  ⟨fun _ => rfl, fun _ _ => rfl, fun _ _ => rfl, fun _ _ => rfl, fun _ _ => rfl, fun _ _ _ _ => rfl⟩

section
variable {e : StackEntry} {es : List StackEntry} {s : State} (hs : s.il.stack = e :: es) (c : Cls) (o : ClassSet)
include hs

theorem overrunCounted_stack : (overrunCounted c o s).il.stack = e :: es := hs

/-- The frame goes on as it does without the overrun (R31). -/
theorem continueTop_overrunCounted : continueTop e (overrunCounted c o s) =
    (overrunCounted c o (continueTop e s).1, (continueTop e s).2) := by
  have hs' := overrunCounted_stack hs c o
  have hclose : closeTop e (overrunCounted c o s) = overrunCounted c o (closeTop e s) := rfl
  have hsend : sendByte e (overrunCounted c o s) = overrunCounted c o (sendByte e s) := by
    rw [sendByte_eq hs', sendByte_eq hs]
    rfl
  have hfill : fillTop e (overrunCounted c o s) = overrunCounted c o (fillTop e s) := by
    rw [fillTop_eq hs', fillTop_eq hs]
    rfl
  have hstore : (overrunCounted c o s).store = s.store := rfl
  have hrem : remaining (overrunCounted c o s) e = remaining s e := rfl
  have hstall : stallsTrunk e (overrunCounted c o s) = stallsTrunk e s := rfl
  unfold continueTop
  rw [hclose, hsend, hfill, (besideFramers_overrunCounted c o).failFrame, hstore, hrem, hstall]
  split
  · rfl
  · split
    · rfl
    · split <;> rfl

/-- Outside a drain, a top that may not be preempted decides its slot alike with the overrun and without it. -/
theorem decide20_overrunCounted (ha : e.isActive = true) (hd : s.il.drain = false) (hp : e.preemptible = false) :
    decide20 (overrunCounted c o s) = (overrunCounted c o (decide20 s).1, (decide20 s).2) := by
  have hs' := overrunCounted_stack hs c o
  have hd' : (overrunCounted c o s).il.drain = false := hd
  cases hf : frameFailed s e.desc
  · rw [decide20_of_active hd hs ha hf, decide20_of_active hd' hs' ha hf, decideActive_of_unasked (by simp [hp]),
      decideActive_of_unasked (by simp [hp])]
    exact continueTop_overrunCounted hs c o
  · rw [decide20_of_failed_active hd hs ha hf, decide20_of_failed_active hd' hs' ha hf]
    rfl

end

theorem trunkSlot_of_decision {s : State} (hb : s.sched.slotBegun = true) (hm : missedDue s = false)
    (hu : s.trunkRx.up = true) : trunkSlot s = slotEnds (trunkDecision s).2 (trunkDecision s).1 := by
  rw [trunkSlot_of_begun hb hm, decideSlot, if_pos hu]
  rfl

theorem overrunClass_of_closes {e : StackEntry} {es : List StackEntry} {s : State} (hs : s.il.stack = e :: es)
    (ha : e.isActive = true) (hf : e.fitChecked = true) (hc : closes s e.cls = true) : overrunClass s = some e.cls := by
  simp [overrunClass, hs, ha, hf, hc]

/-- The slot of s had the same classes open before. -/
def notClosing (s : State) : State := s.updSched fun k => { k with openBefore := s.sched.openSet }

theorem overrunClass_notClosing (s : State) : overrunClass (notClosing s) = none := by
  have hc : ∀ c, closes (notClosing s) c = false := fun c => Bool.and_not_self _
  unfold overrunClass
  split
  · rfl
  · simp [hc]

/-- Settles O13: the overrun is counted before the decision, which neither counts another nor looks at it, and its raise is
taken with the slot's others. -/
theorem gateOverrunIsCounted : Obligations.GateOverrunIsCounted := by
  intro e es s ⟨hr, hu⟩ hb hm hs ha hfit hbefore hclosed
  have hover : overrunClass s = some e.cls :=
    overrunClass_of_closes hs ha hfit (by simp [closes, hbefore, hclosed])
  have hslot := trunkSlot_of_decision hb hm hu
  have hdec : trunkDecision s = ((decide20 (countOverrun (some e.cls) s)).1,
      .gateOverrun e.cls :: (decide20 (countOverrun (some e.cls) s)).2) := by
    rw [trunkDecision, hover]
    rfl
  refine ⟨trunkSlot s, exec_trunkSlot hr, ?_, fun hmask => ?_, fun hd hp => ?_⟩
  · have hcount := decide20_overruns (countOverrun (some e.cls) s)
    rw [hslot, hdec]
    simp only [slotEnds, slotDone, raiseAll_frame, State.updSched_il, hcount]
    rfl
  · rw [hslot, hdec]
    refine noted_raiseAll (e := .gateOverrun e.cls) List.mem_cons_self ?_
    have hmask' := decide20_noticeMask (countOverrun (some e.cls) s)
    simp only [slotDone, State.updSched_agent, hmask', countOverrun_frame]
    exact hmask
  · have hslot' : trunkSlot (notClosing s) = slotEnds (decide20 (notClosing s)).2 (decide20 (notClosing s)).1 :=
      trunkSlot_of_plain ⟨⟨hr, hu⟩, hb, hm, overrunClass_notClosing s⟩
    refine ⟨trunkSlot (notClosing s), exec_trunkSlot (s := notClosing s) hr, ?_⟩
    have hcounted : decide20 (countOverrun (some e.cls) s) =
        (overrunCounted e.cls s.sched.openBefore (decide20 (notClosing s)).1, (decide20 (notClosing s)).2) :=
      decide20_overrunCounted (s := notClosing s) hs e.cls s.sched.openBefore ha hd hp
    have hkeep : (decide20 (notClosing s)).1.il.counters.overruns = s.il.counters.overruns :=
      decide20_overruns (notClosing s)
    rw [hslot, hdec, hslot', hcounted]
    simp [slotEnds, slotDone, overrunCounted, countOverrun, countIl, hkeep]

/-! ### The end of a drain (R43, R174) -/

/-- DRAIN_END is the slot of the last ABORT (log 5). -/
theorem exec_drainEnd_of_last {e : StackEntry} {s : State} (h : PlainSlot s) (hd : s.il.drain = true)
    (hs : s.il.stack = [e]) (ha : e.isActive = true) : exec .drainEnd s = exec .trunkSlot s := by
  obtain ⟨⟨hr, hu⟩, -⟩ := h
  simp [exec, execDrainEnd, execTrunkSlot, whenRunning, hr, drainEnd, hs, drainEndsNext, hd, hu, ha]

/-- Settles O15: the ABORT of the last entry, with the end of the drain in the same slot. -/
theorem drainEndsWithTheReplyHeld : Obligations.DrainEndsWithTheReplyHeld := by
  intro e r s hp hd hs ha ho hne
  have hagent : (abortTop e s).agent = s.agent := by simp
  have hstack : (abortTop e s).il.stack = [] := by rw [abortTop_eq hs]
  have hend := endDrain_of_owed (s := abortTop e s) (by rw [hagent]; exact ho)
  have hdec : decide20 s = (endDrain (abortTop e s), []) := by
    rw [decide20_of_drain hd, drainStep_of_last hs ha rfl]
  have hexec := exec_trunkSlot_of_plain hp hdec
  obtain ⟨n, h, hbuilt, -⟩ := (abortTop e s).store.build_desc r.desc (resetReply (abortTop e s) r)
  have hdesc : (resetReplyAdmitted r (abortTop e s)).desc r.desc = FrameStore.admitted s.agent.mgmtClass
      (vget s.policy s.agent.mgmtClass).cutThrough
      { (abortTop e s).store.desc r.desc with stored := n, header := some h, state := .complete } := by
    rw [resetReplyAdmitted, FrameStore.admitHead_desc, if_pos rfl, hbuilt]
    rfl
  have hqueue : (resetReplyAdmitted r (abortTop e s)).queue s.agent.mgmtClass =
      r.desc :: s.store.queue s.agent.mgmtClass := by
    have hkept : (abortTop e s).store.queues = s.store.queues := (FrameStore.dropRef_frame s.store e.desc).2
    rw [queue_resetReplyAdmitted, if_pos (by rw [hagent])]
    simp only [FrameStore.queue, hkept]
  refine ⟨_, (exec_drainEnd_of_last hp hd hs ha).trans hexec, hexec, ?_⟩
  rw [slotEnds_nil, hend]
  refine ⟨rfl, hstack, rfl, rfl, rfl, hqueue, ?_, ?_, rfl, rfl, rfl, fun hstore hmem => ?_⟩
  · exact congrArg Descriptor.state hdesc
  · exact congrArg Descriptor.refs hdesc
  · obtain ⟨-, -, -, -, hchain⟩ := hstore.owed r ho
    have hkept : (abortTop e s).store.desc r.desc = s.store.desc r.desc :=
      FrameStore.dropRef_desc_of_ne _ _ _ hne.symm
    have hcells : (abortTop e s).store.cells = s.store.cells := (FrameStore.dropRef_frame s.store e.desc).1
    obtain ⟨-, -, hframe⟩ := frameIs_resetReplyAdmitted (r := r) (s := abortTop e s) (by rw [hcells]; exact hmem)
      (by rw [hkept]; exact hchain)
    exact hframe

end Sys2Proof.Machine
end

section
/-! The builder, its job in hand and the drain agree, and every step keeps them so (R41 to R46, R162, R174). -/

namespace Sys2Proof.Machine

/-! ### What BuilderOk reads -/

/-- The builder's registers in t are those of s. -/
structure SameBuilder (s t : State) : Prop where
  builder : t.agent.builder = s.agent.builder
  job : t.agent.job = s.agent.job
  inHand : t.agent.inHand = s.agent.inHand
  owed : t.agent.owed = s.agent.owed

theorem SameBuilder.of_agent {s t : State} (e : t.agent = s.agent) : SameBuilder s t := by
  constructor <;> rw [e]

theorem SameBuilder.of_kept {s t : State} (h : AgentKept s t) : SameBuilder s t := ⟨h.builder, h.job, h.inHand, h.owed⟩

/-- BuilderOk looks at the builder's registers, the drain flag, and whether the stack may be empty. -/
theorem BuilderOk.congr {s t : State} (h : BuilderOk s) (e : SameBuilder s t) (hd : t.il.drain = s.il.drain)
    (hs : t.il.drain = true → t.il.stack ≠ []) (hu : t.trunkRx.up = false → t.il.stack = []) : BuilderOk t := by
  obtain ⟨h1, h2, -, -, h5⟩ := h
  obtain ⟨e1, e2, e3, e4⟩ := e
  unfold BuilderOk
  rw [e1, e2, e3, e4, hd]
  exact ⟨h1, h2, hd ▸ hs, hu, h5⟩

theorem BuilderOk.of_same {s t : State} (h : BuilderOk s) (e : SameBuilder s t) (hd : t.il.drain = s.il.drain)
    (hs : t.il.stack = s.il.stack) (hu : t.trunkRx.up = s.trunkRx.up) : BuilderOk t := by
  obtain ⟨-, -, h3, h4, -⟩ := id h
  exact h.congr e hd (by rw [hd, hs]; exact h3) (by rw [hu, hs]; exact h4)

theorem BuilderOk.of_kept {s t : State} (h : BuilderOk s) (k : AgentKept s t) (hi : t.il = s.il)
    (hu : t.trunkRx.up = s.trunkRx.up) : BuilderOk t := h.of_same (.of_kept k) (by rw [hi]) (by rw [hi]) hu

/-- The drain flag is set just while a reply is owed, and nothing is then in hand. -/
theorem BuilderOk.of_drain {s : State} (h : BuilderOk s) (hd : s.il.drain = true) :
    (∃ r, s.agent.owed = some r) ∧ s.agent.inHand = none := by
  obtain ⟨h1, h2, -, -, h5⟩ := h
  have hb := h1.2 hd
  rw [hb] at h5
  exact ⟨Option.isSome_iff_exists.1 (h2.1 hb), h5.2⟩

/-- No reply is owed, no drain runs, and a DOWN trunk has an empty stack: the state of a builder between its jobs, whatever
it has in hand. -/
structure Undrained (s : State) : Prop where
  owed : s.agent.owed = none
  drain : s.il.drain = false
  down : s.trunkRx.up = false → s.il.stack = []

theorem Undrained.congr {s t : State} (h : Undrained s) (ha : t.agent.owed = s.agent.owed)
    (hd : t.il.drain = s.il.drain) (hs : t.il.stack = s.il.stack) (hu : t.trunkRx = s.trunkRx) : Undrained t :=
  ⟨ha.trans h.owed, hd.trans h.drain, by rw [hs, hu]; exact h.down⟩

theorem BuilderOk.undrained {s : State} (h : BuilderOk s) (hb : s.agent.builder ≠ .executing) : Undrained s := by
  obtain ⟨h1, h2, -, h4, -⟩ := h
  exact ⟨by simpa using mt h2.2 hb, by simpa using mt h1.2 hb, h4⟩

/-- An IDLE builder with nothing in hand. -/
theorem Undrained.builderOk_idle {s : State} (h : Undrained s) (hb : s.agent.builder = .idle) (hj : s.agent.job = none)
    (hh : s.agent.inHand = none) : BuilderOk s := by
  unfold BuilderOk
  rw [hb, h.owed, h.drain]
  exact ⟨by simp, by simp, by simp, h.down, hj, hh⟩

/-- A builder that waits for store with a job in hand. -/
theorem Undrained.builderOk_waiting {s : State} (h : Undrained s) (hb : s.agent.builder = .waitingStore)
    (hj : s.agent.job.isSome = true) (hh : s.agent.job = some .reply ↔ s.agent.inHand.isSome = true) : BuilderOk s := by
  unfold BuilderOk
  rw [hb, h.owed, h.drain]
  exact ⟨by simp, by simp, by simp, h.down, hj, hh⟩

/-! ### The end of a drain (R43, R174) -/

/-- The drain ends over an empty stack: the builder is IDLE again. -/
theorem builderOk_endDrain {r : OwedReply} {s : State} (ho : s.agent.owed = some r) (hh : s.agent.inHand = none)
    (hs : s.il.stack = []) : BuilderOk (endDrain s) := by
  rw [endDrain_of_owed ho]
  exact Undrained.builderOk_idle ⟨rfl, rfl, fun _ => hs⟩ rfl rfl hh

/-! ### The decision of a trunk slot (R20) -/

/-- A slot of a drain takes the drain to its end or leaves an entry on the stack (R42, R43). -/
theorem BuilderOk.drainStep {s : State} (h : BuilderOk s) (hd : s.il.drain = true) (hu : s.trunkRx.up = true) :
    BuilderOk (drainStep s) := by
  have hup : ∀ {t : State}, t.trunkRx = s.trunkRx → t.trunkRx.up = false → t.il.stack = [] :=
    fun e hf => by rw [e, hu] at hf; cases hf
  obtain ⟨⟨r, ho⟩, hh⟩ := h.of_drain hd
  rcases hs : s.il.stack with _ | ⟨e, es⟩
  · obtain ⟨-, -, h3, -⟩ := h
    exact absurd hs (h3 hd)
  · cases ha : e.isActive
    · rw [drainStep_of_suspended hs ha, resumeTop_eq hs]
      exact h.congr (.of_agent rfl) rfl (fun _ => by simp) (hup rfl)
    · by_cases hes : es = []
      · rw [drainStep_of_last hs ha hes, abortTop_eq hs]
        exact builderOk_endDrain ho hh hes
      · rw [drainStep_of_active hs ha hes, abortTop_eq hs]
        exact h.congr (.of_agent rfl) rfl (fun _ => hes) (hup rfl)

theorem BuilderOk.decide20 {s : State} (h : BuilderOk s) (hu : s.trunkRx.up = true) : BuilderOk (decide20 s).1 := by
  cases hd : s.il.drain
  · have hd' := (DecisionKeeps.decide20 hd).drain
    exact h.congr (.of_kept (decide20_kept s hd)) hd' (by simp [hd', hd]) (by simp [hu])
  · rw [Machine.decide20, if_pos hd]
    exact h.drainStep hd hu

theorem BuilderOk.decideSlot {s : State} (h : BuilderOk s) : BuilderOk (decideSlot s).1 := by
  unfold Machine.decideSlot
  dsimp only
  split
  · next hu =>
    have hc : BuilderOk (countOverrun (overrunClass s) s) := by
      cases overrunClass s with
      | none => exact h
      | some c => exact h.of_same (.of_agent rfl) rfl rfl rfl
    exact (hc.decide20 (by simpa using hu)).of_same (.of_agent rfl) rfl rfl rfl
  · exact h.of_same (.of_agent rfl) rfl rfl rfl

/-! ### Trunk DOWN (R46) -/

theorem BuilderOk.interleaverFallen {s : State} (h : BuilderOk s) : BuilderOk (interleaverFallen s) := by
  have hstack : (stackFallen s).il.stack = [] := dropEntries_stack _ _
  obtain ⟨hagent, -⟩ := stackFallen_frame s
  obtain ⟨hdrain, -⟩ := stackFallen_keeps s
  cases hd : s.il.drain
  · rw [interleaverFallen_of_no_drain hd]
    exact h.congr (.of_agent hagent) hdrain (by simp [hdrain, hd]) (fun _ => hstack)
  · rw [interleaverFallen_of_drain hd]
    obtain ⟨⟨r, ho⟩, hh⟩ := h.of_drain hd
    exact builderOk_endDrain (by rw [hagent, ho]) (by rw [hagent, hh]) hstack

theorem BuilderOk.trunkFalls {s : State} (h : BuilderOk s) : BuilderOk (trunkFalls s) := by
  obtain ⟨hu, hil, hagent, -⟩ := trunkFalls_parts s
  have hu' : (Machine.interleaverFallen s).trunkRx = LineRx.report false := by simp [Machine.interleaverFallen]
  exact h.interleaverFallen.of_same (.of_agent hagent) (by rw [hil]) (by rw [hil]) (by rw [hu, hu'])

/-! ### The words of the trunk (R185) -/

theorem BuilderOk.raise {s : State} (h : BuilderOk s) (e : Notice) : BuilderOk (raise e s) :=
  h.of_kept (raise_kept e s) (by simp) (by simp)

theorem BuilderOk.raiseAll {s : State} (h : BuilderOk s) (es : List Notice) : BuilderOk (raiseAll es s) :=
  h.of_kept (raiseAll_kept es s) (by simp) (by simp)

theorem BuilderOk.trunkUp {s : State} (h : BuilderOk s) : BuilderOk (trunkUp s) := by
  obtain ⟨-, -, h3, -⟩ := id h
  unfold Machine.trunkUp
  split
  · exact h
  · have hr : BuilderOk (s.updTrunkRx fun _ => LineRx.report true) :=
      h.congr (.of_agent rfl) rfl h3 (by simp [LineRx.report])
    exact hr.raise _

/-- A run of code words counted: the line's condition stands. -/
theorem BuilderOk.updTrunkRx {s : State} (h : BuilderOk s) {f : LineRx → LineRx} (hf : ∀ r, (f r).up = r.up) :
    BuilderOk (s.updTrunkRx f) := h.of_same (.of_agent rfl) rfl rfl (hf _)

/-- A received word whose handling leaves the Interleaver and the builder alone. -/
theorem BuilderOk.trunkDecoded {s : State} (h : BuilderOk s) {f : State → State} (hf : ∀ s, BuilderOk s → BuilderOk (f s)) :
    BuilderOk (trunkDecoded f s) := by
  unfold Machine.trunkDecoded
  split
  · exact (hf s h).updTrunkRx fun _ => rfl
  · dsimp only
    split
    · exact BuilderOk.trunkUp (BuilderOk.updTrunkRx h fun _ => rfl)
    · exact BuilderOk.updTrunkRx h fun _ => rfl

theorem BuilderOk.trunkFailed {s : State} (h : BuilderOk s) : BuilderOk (trunkFailed s) := by
  have hw : BuilderOk (undecodedWord s) := h.of_same (.of_agent (by simp)) (by simp) (by simp) (by simp)
  unfold Machine.trunkFailed
  split
  · dsimp only
    split
    · exact BuilderOk.raiseAll (BuilderOk.trunkFalls (BuilderOk.updTrunkRx hw fun _ => rfl)) _
    · refine BuilderOk.raiseAll (BuilderOk.updTrunkRx hw ?_) _
      exact fun _ => rfl
  · exact h.updTrunkRx fun _ => rfl

/-! ### The execution of a request (R164, R173, R174) -/

/-- What the execution of a request keeps of a builder between its jobs: what it has in hand, and all that Undrained
says. -/
structure HandKept (s t : State) : Prop where
  inHand : t.agent.inHand = s.agent.inHand
  owed : t.agent.owed = s.agent.owed
  drain : t.il.drain = s.il.drain
  stack : t.il.stack = s.il.stack
  line : t.trunkRx = s.trunkRx

namespace HandKept

theorem refl (s : State) : HandKept s s := ⟨rfl, rfl, rfl, rfl, rfl⟩

theorem trans {s t u : State} (a : HandKept s t) (b : HandKept t u) : HandKept s u :=
  ⟨b.inHand.trans a.inHand, b.owed.trans a.owed, b.drain.trans a.drain, b.stack.trans a.stack, b.line.trans a.line⟩

theorem undrained {s t : State} (k : HandKept s t) (h : Undrained s) : Undrained t :=
  h.congr k.owed k.drain k.stack k.line

theorem of_agent {s t : State} (e : t.agent = s.agent) (hi : t.il = s.il) (hu : t.trunkRx = s.trunkRx) :
    HandKept s t := ⟨by rw [e], by rw [e], by rw [hi], by rw [hi], hu⟩

theorem countAgent (f : AgentCounters → AgentCounters) (s : State) : HandKept s (countAgent f s) :=
  ⟨rfl, rfl, rfl, rfl, rfl⟩

theorem countExecuted (s : State) : HandKept s (countExecuted s) := countAgent _ s

theorem drawFree (s : State) : HandKept s s.drawFree := of_agent rfl rfl rfl

theorem updStore (f : FrameStore → FrameStore) (s : State) : HandKept s (s.updStore f) := of_agent rfl rfl rfl

theorem updReplay (f : List ReplayEntry → List ReplayEntry) (s : State) : HandKept s (updReplay f s) :=
  ⟨rfl, rfl, rfl, rfl, rfl⟩

theorem replayNoted (e : ReplayEntry) (s : State) : HandKept s (replayNoted e s) :=
  (updReplay _ s).trans (countAgent _ _)

theorem discardQueued (d : DescId) (r : FailReason) (s : State) : HandKept s (discardQueued d r s) := by
  by_cases h : s.il.hold = some d <;> constructor <;> simp [Machine.discardQueued, h]

theorem emptyClassQueue (c : Cls) (r : FailReason) (s : State) : HandKept s (emptyClassQueue c r s) := by
  unfold Machine.emptyClassQueue
  generalize s.store.queue c = l
  induction l generalizing s with
  | nil => exact refl s
  | cons d l ih => exact (discardQueued d r s).trans (ih _)

theorem foldl {α : Type} {f : State → α → State} (hf : ∀ s a, HandKept s (f s a)) (l : List α) (s : State) :
    HandKept s (l.foldl f s) := by
  induction l generalizing s with
  | nil => exact refl s
  | cons a l ih => exact (hf s a).trans (ih _)

theorem framerTrafficReset (s : State) (p : PortIx) : HandKept s (framerTrafficReset p s) :=
  of_agent (by simp) (by simp) (by simp)

theorem portTrafficReset (s : State) (p : PortIx) : HandKept s (portTrafficReset p s) :=
  of_agent (by simp) (by simp) (by simp)

theorem resetBeforeReception (s : State) : HandKept s (resetBeforeReception s) :=
  ((foldl framerTrafficReset [0, 1, 2, 3] s).trans
    (foldl (fun s c => emptyClassQueue c .reset s) [0, 1, 2, 3, 4, 5] _)).trans (foldl portTrafficReset [0, 1, 2, 3] _)

theorem dropInbox (s : State) : HandKept s (dropInbox s) := ⟨rfl, rfl, rfl, rfl, rfl⟩

theorem performTrafficReset (s : State) : HandKept s (performTrafficReset s).state := by
  rw [performTrafficReset_eq]
  refine (resetBeforeReception s).trans (HandKept.trans ?_ (dropInbox _))
  exact of_agent (by simp) (by simp) (by simp)

theorem performFlush (r : Request) (s : State) : HandKept s (performFlush r s).state := by
  unfold Machine.performFlush
  split
  · split
    · exact refl s
    · exact emptyClassQueue _ _ s
  · split
    · split
      · exact refl s
      · exact of_agent (by simp [performFlushDelivery, Done.ok]) (by simp [performFlushDelivery, Done.ok])
          (by simp [performFlushDelivery, Done.ok])
    · exact refl s

theorem clearCounters (s : State) : HandKept s (clearCounters s) := by
  constructor <;> simp [Machine.clearCounters]

theorem performReadCounters (r : Request) (s : State) : HandKept s (performReadCounters r s).state := by
  cases h : r.clears
  · rw [show (Machine.performReadCounters r s).state = s by simp [Machine.performReadCounters, h]]
    exact refl s
  · rw [show (Machine.performReadCounters r s).state = Machine.clearCounters s by simp [Machine.performReadCounters, h]]
    exact clearCounters s

theorem performSetGlobal (r : Request) (s : State) : HandKept s (performSetGlobal r s).state := by
  unfold Machine.performSetGlobal
  dsimp only
  split
  · exact ⟨rfl, rfl, rfl, rfl, rfl⟩
  · exact refl s

theorem performKind (k : ReqKind) (r : Request) (s : State) : HandKept s (performKind k r s).state := by
  cases k with
  | query => exact refl s
  | read => unfold Machine.performKind; dsimp only; split <;> exact refl s
  | write =>
    unfold Machine.performKind
    dsimp only
    split
    · exact refl s
    · exact of_agent (by simp) (by simp) (by simp)
  | commit => exact of_agent (by simp [Machine.performKind]) (by simp [Machine.performKind]) (by simp)
  | abandon => exact of_agent (by simp [Machine.performKind]) (by simp [Machine.performKind]) (by simp)
  | setAlign => exact of_agent (by simp [Machine.performKind]) (by simp [Machine.performKind]) (by simp)
  | setGlobal => exact performSetGlobal r s
  | readCounters => exact performReadCounters r s
  | flush => exact performFlush r s
  | trafficReset => exact performTrafficReset s

theorem perform (r : Request) (s : State) : HandKept s (perform r s).state := by
  unfold Machine.perform
  split
  · exact performKind _ r s
  · exact refl s
  · exact refl s

theorem performCounted (r : Request) (s : State) : HandKept s (performCounted r s).state := by
  by_cases hr : ReadsCounters r
  · rcases performCounted_of_readsCounters hr s with e | e <;> rw [e]
    · exact ((drawFree s).trans (performReadCounters r _)).trans (countExecuted _)
    · exact ((drawFree s).trans (countExecuted _)).trans (performReadCounters r _)
  · rw [performCounted_of_other hr]
    exact (countExecuted s).trans (perform r _)

theorem executed (r : Request) (s : State) : HandKept s (executed r s) := by
  refine (performCounted r s).trans ?_
  unfold Machine.executed recordOutcome countRefused
  split <;> split <;> exact ⟨rfl, rfl, rfl, rfl, rfl⟩

end HandKept

theorem dropRequest_inHand (s : State) : (dropRequest s).agent.inHand = none := by
  unfold dropRequest
  split
  · assumption
  · rfl

theorem dropRequest_owed (s : State) : (dropRequest s).agent.owed = s.agent.owed := by
  unfold dropRequest
  split <;> rfl

theorem Undrained.dropRequest {s : State} (h : Undrained s) : Undrained (dropRequest s) :=
  h.congr (dropRequest_owed s) (by simp) (by simp) (by simp)

/-- A reply built leaves the builder IDLE (R162, R164). -/
theorem builderOk_reply {s : State} (h : Undrained s) (hh : s.agent.inHand = none) (d : DescId) (r : Request) (x : Status)
    (a b : Bool) (l : List Byte) : BuilderOk (reply d r x a b l s) :=
  Undrained.builderOk_idle (h.congr rfl rfl rfl rfl) rfl rfl hh

/-- An executed TRAFFIC_RESET owes its reply through the drain, which over an empty stack has ended at once (R173, R174). -/
theorem builderOk_beginDrain {s : State} (h : Undrained s) (hh : s.agent.inHand = none) (d : DescId) (r : Request) :
    BuilderOk (beginDrain (oweReply d r s)) := by
  unfold beginDrain
  split
  · next he => exact builderOk_endDrain rfl hh (by simpa using he)
  · next he =>
    have hs : s.il.stack ≠ [] := by simpa using he
    exact ⟨by simp [oweReply], by simp [oweReply], fun _ => hs, h.down, rfl, hh⟩

theorem builderOk_execute {s : State} (h : Undrained s) (hh : s.agent.inHand = none) (d : DescId) (r : Request) :
    BuilderOk (execute d r s) := by
  have k := HandKept.executed r s
  have he : (executed r s).agent.inHand = none := k.inHand.trans hh
  rw [execute, ← executed]
  split
  · exact builderOk_beginDrain (k.undrained h) he d r
  · exact builderOk_reply (k.undrained h) he d r _ _ _ _

theorem builderOk_serve {s : State} (h : Undrained s) (d : DescId) (r : Request) : BuilderOk (serve d r s) := by
  have hh := dropRequest_inHand s
  rw [serve]
  split
  · next e _ =>
    rw [answerReplay_eq]
    have k := HandKept.replayNoted e (dropRequest s)
    exact builderOk_reply (k.undrained h.dropRequest) (k.inHand.trans hh) d r _ _ _ _
  · exact builderOk_execute h.dropRequest hh d r

/-! ### The builder's turns (R161 to R163) -/

/-- The claim of the reply to the request in hand is refused, or granted and served. -/
theorem builderOk_claimReply {s : State} (h : Undrained s) (hj : s.agent.job = some .reply)
    (hh : s.agent.inHand.isSome = true) : BuilderOk (claimReply s) := by
  obtain ⟨q, hq⟩ := Option.isSome_iff_exists.1 hh
  rw [claimReply, hq]
  dsimp only
  split
  · exact Undrained.builderOk_waiting (h.congr rfl rfl rfl rfl) rfl (congrArg Option.isSome hj)
      (by simp [waitForStore, hj, hq])
  · exact builderOk_serve ((HandKept.updStore _ s).undrained h) _ _

/-- A notice built leaves the builder IDLE (R162, R179). -/
theorem builderOk_buildNotice {s : State} (h : Undrained s) (hh : s.agent.inHand = none) (d : DescId)
    (x : NoticeRecord) : BuilderOk (buildNotice d x s) := by
  refine Undrained.builderOk_idle (h.congr ?_ ?_ ?_ ?_) ?_ ?_ ?_
  case refine_7 => simpa [buildNotice, admitBuilt] using hh
  all_goals simp [buildNotice, admitBuilt]

/-- The claim of the notice at the head of the list is refused, or granted and built. -/
theorem builderOk_claimNotice {s : State} (h : Undrained s) (hj : s.agent.job = some .notice)
    (hh : s.agent.inHand = none) (hn : s.agent.notices ≠ []) : BuilderOk (claimNotice s) := by
  obtain ⟨x, xs, hx⟩ := List.exists_cons_of_ne_nil hn
  rw [claimNotice, hx]
  dsimp only
  split
  · exact Undrained.builderOk_waiting (h.congr rfl rfl rfl rfl) rfl (congrArg Option.isSome hj)
      (by simp [waitForStore, hj, hh])
  · exact builderOk_buildNotice ((HandKept.updStore _ s).undrained h) hh _ _

theorem BuilderOk.storeClaimGranted {s : State} (h : BuilderOk s) : BuilderOk (storeClaimGranted s) := by
  unfold Machine.storeClaimGranted
  split
  · next hb =>
    have hu : Undrained s := h.undrained (by rw [hb]; simp)
    obtain ⟨-, -, -, -, h5⟩ := id h
    rw [hb] at h5
    obtain ⟨-, hr⟩ := h5
    unfold claimJob
    split
    · exact h
    · next hj => exact builderOk_claimReply hu hj (hr.1 hj)
    · next hj =>
      by_cases hn : s.agent.notices = []
      · rw [claimNotice, hn]
        exact h
      · exact builderOk_claimNotice hu hj (by simpa [hj] using hr) hn
  · exact h
  · exact h

/-- A job is chosen only where one waits (R162). -/
theorem notices_of_chosenJob {s : State} (h : chosenJob s = some .notice) : s.agent.notices ≠ [] := by
  intro hn
  have hw : noticeWaits s = false := by simp [noticeWaits, hn]
  rw [chosenJob, hw] at h
  cases hr : replyWaits s <;> simp [hr] at h

theorem inbox_of_chosenJob {s : State} (h : chosenJob s = some .reply) : s.agent.inbox ≠ [] := by
  intro hn
  have hw : replyWaits s = false := by simp [replyWaits, hn]
  rw [chosenJob, hw] at h
  cases hr : noticeWaits s <;> simp [hr] at h

theorem BuilderOk.builderChooseJob {s : State} (h : BuilderOk s) : BuilderOk (builderChooseJob s) := by
  unfold Machine.builderChooseJob
  split
  · next hb =>
    have hu : Undrained s := h.undrained (by rw [hb]; simp)
    obtain ⟨-, -, -, -, h5⟩ := id h
    rw [hb] at h5
    obtain ⟨-, hh⟩ := h5
    unfold chooseJob
    split
    · exact h
    · next hc =>
      obtain ⟨q, qs, hq⟩ := List.exists_cons_of_ne_nil (inbox_of_chosenJob hc)
      have ht : takeRequest s = s.updAgent fun a => { a with inbox := qs, inHand := some q, job := some .reply } := by
        rw [takeRequest, hq]
      have hut : Undrained (takeRequest s) := by rw [ht]; exact hu.congr rfl rfl rfl rfl
      unfold chooseReply
      dsimp only
      split
      · exact builderOk_claimReply hut (by rw [ht]; rfl) (by rw [ht]; rfl)
      · exact Undrained.builderOk_idle (hut.dropRequest.congr rfl rfl rfl rfl) rfl rfl (dropRequest_inHand _)
    · next hc =>
      exact builderOk_claimNotice (hu.congr rfl rfl rfl rfl) rfl hh (notices_of_chosenJob hc)
  · exact h
  · exact h

/-! ### Every step keeps the agreement -/

theorem builderOk_kept : Kept BuilderOk where
  reset held straps l n := Undrained.builderOk_idle ⟨rfl, rfl, fun _ => rfl⟩ rfl rfl rfl
  raise e s h := h.raise e
  setDraws n s h := h.of_same (.of_agent rfl) rfl rfl rfl
  beginSlot s h := h.of_kept (beginSlot_kept s) (by simp) (by simp)
  missedCheck s h := h.of_kept (missedCheck_kept s) (by simp) (by simp)
  decideSlot s h := h.decideSlot
  endDrain s hs hb h := by
    obtain ⟨h1, -, h3, -⟩ := h
    exact absurd hs (h3 (h1.1 hb))
  trunkDown s h := by
    unfold Machine.trunkDown
    split
    · exact h.trunkFalls.raise _
    · exact h
  trunkUp s h := h.trunkUp
  tributaryDown p s h := h.of_kept (tributaryDown_kept p s) (by simp) (by simp)
  tributaryUp p s h := h.of_kept (tributaryUp_kept p s) (by simp) (by simp)
  symbolReceived y s h := h.trunkDecoded fun s h => h.of_kept (rxSymbol_kept y s) (by simp) (by simp)
  undecodable s h := h.trunkDecoded fun s h => h.of_kept (rxUndecodable_kept s) (by simp) (by simp)
  trunkFailed s h := h.trunkFailed
  mark s h := h.trunkDecoded fun s h =>
    h.of_kept ((rxSymbol_kept .mark s).trans (markArrives_kept _)) (by simp) (by simp)
  tribDecoded p y s h := h.of_kept (tribDecoded_kept p y s) (by simp) (by simp)
  tribFailed p s h := h.of_kept (tribFailed_kept p s) (by simp) (by simp)
  tribTxSlot p s h := h.of_same (.of_agent (by simp)) (by simp) (by simp) (by simp)
  builderChooseJob s h := h.builderChooseJob
  storeClaimGranted s h := h.storeClaimGranted

/-- Settles O59: each operation of the blocks keeps the agreement (`builderOk_kept`). A drain begins and ends with the
builder's own registers (`builderOk_beginDrain`, `builderOk_endDrain`). -/
theorem builderAndDrainAgree : Obligations.BuilderAndDrainAgree := fun s t h e =>
  builderOk_kept.step (fun _ _ h => h.of_same (.of_agent rfl) rfl rfl rfl) s t h e

end Sys2Proof.Machine
end

section
/-! The arbiter (R23 to R25, R44, R65 to R67): the head it names, the reply hold, and what an UNFIT discard leaves. -/

namespace Sys2Proof.Machine

/-! ### The arbiter where no head is unfit (R23, R25) -/

/-- The candidate of class c, where no hold is present and no head is unfit: its head, if it passes the tests of R23. -/
def namedHead (c : Cls) (s : State) : Option Candidate :=
  match s.store.queue c with
  | [] => none
  | d :: _ =>
    if nests s c && isOpen s c && ready (s.store.desc d) &&
        ((vget s.policy c).preemptible || decide (fitCheck c ((s.store.desc d).frameBytes - 9) s = .fits)) then
      some ⟨c, d, !(vget s.policy c).preemptible⟩
    else none

theorem namedHead_eq_some {s : State} (hh : s.il.hold = none) (c : Cls) (x : Candidate) : namedHead c s = some x ↔
    x.cls = c ∧ EligibleHead c x.desc s ∧ (x.fitChecked = true ↔ (vget s.policy c).preemptible = false) := by
  obtain ⟨c', d', b⟩ := x
  unfold namedHead EligibleHead
  rcases hq : s.store.queue c with _ | ⟨d, ds⟩
  · simp
  · have hb : ((!(vget s.policy c).preemptible) = b) ↔ (b = true ↔ (vget s.policy c).preemptible = false) := by
      cases b <;> cases (vget s.policy c).preemptible <;> simp
    simp only [hh, Option.ite_none_right_eq_some, Option.some.injEq, Candidate.mk.injEq, hb, Bool.and_eq_true,
      Bool.or_eq_true, decide_eq_true_eq, List.head?_cons, true_or, and_true]
    constructor
    · rintro ⟨⟨⟨⟨hn, ho⟩, hr⟩, hf⟩, rfl, rfl, hb⟩
      exact ⟨rfl, ⟨rfl, ho, hn, hr, hf⟩, hb⟩
    · rintro ⟨rfl, ⟨rfl, ho, hn, hr, hf⟩, hb⟩
      exact ⟨⟨⟨⟨hn, ho⟩, hr⟩, hf⟩, rfl, rfl, hb⟩

theorem holdAllows_of_none {s : State} (hh : s.il.hold = none) (d : DescId) : holdAllows s d = true := by
  simp [holdAllows, hh]

theorem examines_of_none {s : State} (hh : s.il.hold = none) (c : Cls) : examines s c = nests s c := by
  simp [examines, hh]

/-- The examination of a class that nests and has no unfit head. -/
theorem examineQueue_of_fit {s : State} (hh : s.il.hold = none) (hn : NoUnfitHead s) {c : Cls} (hc : nests s c = true) :
    examineQueue c (s.store.queue c) s = (s, [], namedHead c s) := by
  unfold namedHead
  rcases hq : s.store.queue c with _ | ⟨d, ds⟩
  · rfl
  · cases ho : isOpen s c
    · simp [examineQueue, ho]
    · cases hp : (vget s.policy c).preemptible
      · have hu := hn c d (by rw [hq]; rfl) ho hp
        cases hf : fitCheck c ((s.store.desc d).frameBytes - 9) s
        · simp [examineQueue, ho, hp, hf, hc, holdAllows_of_none hh]
        · simp [examineQueue, ho, hp, hf]
        · exact absurd hf hu
      · simp [examineQueue, ho, hp, hc, holdAllows_of_none hh]

theorem arbitrate_of_fit {s : State} (hh : s.il.hold = none) (hn : NoUnfitHead s) (cs : List Cls) :
    arbitrate cs s = (s, [], cs.findSome? fun c => namedHead c s) := by
  induction cs with
  | nil => rfl
  | cons c cs ih =>
    rw [arbitrate, examines_of_none hh, List.findSome?_cons]
    cases hc : nests s c
    · have hnone : namedHead c s = none := by
        unfold namedHead
        split <;> simp [hc]
      rw [if_neg (by simp), ih, hnone]
    · rw [if_pos rfl, examineQueue_of_fit hh hn hc]
      cases namedHead c s with
      | none => simp [ih]
      | some x => rfl

/-- The first of a rising list of classes that names a head is the most urgent (R25). -/
theorem findSome_eq_some_iff {f : Cls → Option Candidate} (hf : ∀ c x, f c = some x → x.cls = c) {cs : List Cls}
    (hs : cs.Pairwise (· < ·)) (x : Candidate) :
    cs.findSome? f = some x ↔ x.cls ∈ cs ∧ f x.cls = some x ∧ ∀ c ∈ cs, c < x.cls → f c = none := by
  induction cs with
  | nil => simp
  | cons c cs ih =>
    obtain ⟨hc, hs⟩ := List.pairwise_cons.1 hs
    rw [List.findSome?_cons]
    cases hfc : f c with
    | none =>
      refine (ih hs).trans ⟨fun ⟨hm, hx, hl⟩ => ⟨List.mem_cons_of_mem _ hm, hx, fun k hk hlt => ?_⟩,
        fun ⟨hm, hx, hl⟩ => ⟨?_, hx, fun k hk => hl k (List.mem_cons_of_mem _ hk)⟩⟩
      · rcases List.mem_cons.1 hk with rfl | hk
        · exact hfc
        · exact hl k hk hlt
      · rcases List.mem_cons.1 hm with he | hm
        · rw [he, hfc] at hx
          cases hx
        · exact hm
    | some y =>
      have hy := hf c y hfc
      refine ⟨fun h => ?_, fun ⟨hm, hx, hl⟩ => ?_⟩
      · obtain rfl : y = x := by simpa using h
        refine ⟨by rw [hy]; exact List.mem_cons_self, by rw [hy]; exact hfc, fun k hk hlt => ?_⟩
        rcases List.mem_cons.1 hk with rfl | hk
        · exact absurd hlt (by simp [hy])
        · exact absurd (hc k hk) (by rw [← hy]; exact hlt.asymm)
      · rcases List.mem_cons.1 hm with he | hm
        · rw [he, hfc] at hx
          exact hx
        · have := hl c List.mem_cons_self (hc _ hm)
          rw [hfc] at this
          cases this

theorem classes_pairwise : ([0, 1, 2, 3, 4, 5] : List Cls).Pairwise (· < ·) := by decide

theorem mem_classes (c : Cls) : c ∈ ([0, 1, 2, 3, 4, 5] : List Cls) := by
  revert c
  decide

/-! ### What an examination and the arbiter can do, said once (R24, R25) -/

/-- The head of a class blocks it, is named, or is discarded as UNFIT, and the examination goes on from the new head. -/
theorem examineQueue_cons (c : Cls) (d : DescId) (ds : List DescId) (s : State) :
    (∃ y, examineQueue c (d :: ds) s = (s, [], y) ∧ ∀ x, y = some x → holdAllows s x.desc = true) ∨
      examineQueue c (d :: ds) s = ((examineQueue c ds (unfitDiscard c d s)).1,
        c :: (examineQueue c ds (unfitDiscard c d s)).2.1, (examineQueue c ds (unfitDiscard c d s)).2.2) := by
  have hnamed : ∀ (b : Bool) (x : Candidate), (if ready (s.store.desc d) && holdAllows s d then
      some (⟨c, d, b⟩ : Candidate) else none) = some x → holdAllows s x.desc = true := by
    rintro b x hx
    obtain ⟨hc, hx⟩ := Option.ite_none_right_eq_some.1 hx
    cases hx
    exact (Bool.and_eq_true_iff.1 hc).2
  generalize hr : examineQueue c ds (unfitDiscard c d s) = rest
  rw [examineQueue, hr]
  split
  · exact .inl ⟨none, rfl, by simp⟩
  · split
    · exact .inl ⟨_, rfl, hnamed false⟩
    · split
      · exact .inl ⟨_, rfl, hnamed true⟩
      · exact .inl ⟨none, rfl, by simp⟩
      · exact .inr rfl

/-- A class is passed over, or names the candidate, or leaves the next classes to the arbiter. -/
theorem arbitrate_cons (c : Cls) (cs : List Cls) (s : State) :
    arbitrate (c :: cs) s = arbitrate cs s ∨
      (∃ t us x, examineQueue c (s.store.queue c) s = (t, us, some x) ∧ arbitrate (c :: cs) s = (t, us, some x)) ∨
      ∃ t us, examineQueue c (s.store.queue c) s = (t, us, none) ∧
        arbitrate (c :: cs) s = ((arbitrate cs t).1, us ++ (arbitrate cs t).2.1, (arbitrate cs t).2.2) := by
  rw [arbitrate]
  split
  · rcases h : examineQueue c (s.store.queue c) s with ⟨t, us, x | x⟩
    · exact .inr (.inr ⟨t, us, rfl, rfl⟩)
    · exact .inr (.inl ⟨t, us, x, rfl, rfl⟩)
  · exact .inl rfl

/-! ### The reply hold (R44) -/

/-- The hold in t is that of s, or has ended. -/
def HoldEnds (s t : State) : Prop := t.il.hold = s.il.hold ∨ t.il.hold = none

theorem HoldEnds.trans {s t u : State} (h : HoldEnds s t) (h' : HoldEnds t u) : HoldEnds s u := by
  rcases h' with h' | h'
  · rw [HoldEnds, h']
    exact h
  · exact .inr h'

theorem discardQueued_hold (d : DescId) (r : FailReason) (s : State) :
    (discardQueued d r s).il.hold = if s.il.hold = some d then none else s.il.hold := by
  by_cases h : s.il.hold = some d <;> simp [discardQueued, h]

theorem unfitDiscard_hold (c : Cls) (d : DescId) (s : State) :
    (unfitDiscard c d s).il.hold = if s.il.hold = some d then none else s.il.hold := by
  simp [unfitDiscard, discardQueued_hold]

theorem holdEnds_unfitDiscard (c : Cls) (d : DescId) (s : State) : HoldEnds s (unfitDiscard c d s) := by
  rw [HoldEnds, unfitDiscard_hold]
  split
  · exact .inr rfl
  · exact .inl rfl

/-- What is named is allowed by the hold as the discards have left it. -/
theorem examineQueue_hold (c : Cls) (ds : List DescId) (s : State) : HoldEnds s (examineQueue c ds s).1 ∧
    ∀ x, (examineQueue c ds s).2.2 = some x → holdAllows (examineQueue c ds s).1 x.desc = true := by
  induction ds generalizing s with
  | nil => exact ⟨.inl rfl, by simp [examineQueue]⟩
  | cons d ds ih =>
    obtain ⟨ih1, ih2⟩ := ih (unfitDiscard c d s)
    rcases examineQueue_cons c d ds s with ⟨y, e, hy⟩ | e <;> rw [e]
    · exact ⟨.inl rfl, hy⟩
    · exact ⟨(holdEnds_unfitDiscard c d s).trans ih1, ih2⟩

theorem arbitrate_hold (cs : List Cls) (s : State) : HoldEnds s (arbitrate cs s).1 ∧
    ∀ x, (arbitrate cs s).2.2 = some x → holdAllows (arbitrate cs s).1 x.desc = true := by
  induction cs generalizing s with
  | nil => exact ⟨.inl rfl, by simp [arbitrate]⟩
  | cons c cs ih =>
    have hx := examineQueue_hold c (s.store.queue c) s
    rcases arbitrate_cons c cs s with e | ⟨t, us, x, he, e⟩ | ⟨t, us, he, e⟩ <;> rw [e]
    · exact ih s
    · rw [he] at hx
      exact hx
    · rw [he] at hx
      obtain ⟨h1, -⟩ := hx
      obtain ⟨ih1, ih2⟩ := ih t
      exact ⟨h1.trans ih1, ih2⟩

/-! ### The UNFIT counters (R70) -/

/-- The UNFIT counters after discards of the classes us. -/
def unfitCounted (us : List Cls) (v : Vector Ctr 6) : Vector Ctr 6 := us.foldl (fun v c => bump c v) v

theorem unfitDiscard_sched (c : Cls) (d : DescId) (s : State) :
    (unfitDiscard c d s).sched = { s.sched with unfit := bump c s.sched.unfit } := by
  simp [unfitDiscard]

theorem examineQueue_unfit (c : Cls) (ds : List DescId) (s : State) : (examineQueue c ds s).1.sched =
    { s.sched with unfit := unfitCounted (examineQueue c ds s).2.1 s.sched.unfit } := by
  induction ds generalizing s with
  | nil => rfl
  | cons d ds ih =>
    rcases examineQueue_cons c d ds s with ⟨y, e, -⟩ | e <;> rw [e]
    · rfl
    · rw [ih, unfitDiscard_sched]
      rfl

theorem arbitrate_unfit (cs : List Cls) (s : State) : (arbitrate cs s).1.sched =
    { s.sched with unfit := unfitCounted (arbitrate cs s).2.1 s.sched.unfit } := by
  induction cs generalizing s with
  | nil => rfl
  | cons c cs ih =>
    have hx := examineQueue_unfit c (s.store.queue c) s
    rcases arbitrate_cons c cs s with e | ⟨t, us, x, he, e⟩ | ⟨t, us, he, e⟩ <;> rw [e]
    · exact ih s
    · rw [he] at hx
      exact hx
    · rw [he] at hx
      rw [ih, hx, unfitCounted, unfitCounted, unfitCounted, List.foldl_append]

/-! ### An UNFIT discard in a sound store (R67, R122) -/

/-- The store after a discard of d from its class queue with reason r (R122). -/
def FrameStore.discard (d : DescId) (r : FailReason) (st : FrameStore) : FrameStore :=
  ((if (st.desc d).state = .filling then st.fail d r else st).leaveQueue d).settle d

theorem discardQueued_store (d : DescId) (r : FailReason) (s : State) :
    (discardQueued d r s).store = s.store.discard d r := by
  have hf : (failFrame d r s).store = if (s.store.desc d).state = .filling then s.store.fail d r else s.store := by
    unfold failFrame
    split <;> simp
  simp [discardQueued, hf, FrameStore.discard]

section
variable {st : FrameStore} {c : Cls} {d : DescId} {ds : List DescId}

/-- A queue's head leaves it, and drops the queue's reference. -/
def FrameStore.headLeft (c : Cls) (d : DescId) (st : FrameStore) : FrameStore :=
  (st.unqueue c d).updDesc d fun x => { x with refs := x.refs - 1 }

theorem leaveQueue_of_head (hc : (st.desc d).cls = some c) (hq : st.queue c = d :: ds) :
    st.leaveQueue d = st.headLeft c d := by
  simp [FrameStore.leaveQueue, hc, hq, FrameStore.headLeft]

theorem leaveQueue_of_gone (hg : ∀ c, (st.desc d).cls = some c → d ∉ st.queue c) : st.leaveQueue d = st := by
  unfold FrameStore.leaveQueue
  split
  · rfl
  · next c hc => exact if_neg (by simpa using hg c hc)

theorem headLeft_desc : (st.headLeft c d).desc d = { st.desc d with refs := (st.desc d).refs - 1 } :=
  FrameStore.desc_updDesc_self _ _ _

theorem headLeft_queue (hq : st.queue c = d :: ds) (c' : Cls) :
    (st.headLeft c d).queue c' = if c = c' then ds else st.queue c' := by
  rw [FrameStore.headLeft, FrameStore.updDesc_queue, FrameStore.unqueue_queue]
  split
  · next h => rw [← h, hq, List.erase_cons_head]
  · rfl

theorem settle_queue (e : DescId) (c : Cls) : (st.settle e).queue c = st.queue c := by
  simp [FrameStore.queue]

theorem settle_cls (h : ((st.settle d).desc d).cls = some c) : (st.desc d).cls = some c := by
  unfold FrameStore.settle at h
  split at h
  · rw [FrameStore.release_desc, if_pos rfl] at h
    cases h
  · exact h

theorem settle_settle : (st.settle d).settle d = st.settle d := by
  by_cases h : (st.desc d).refs = 0 ∧ FrameStore.ended (st.desc d).state = true
  · have hs : st.settle d = st.release d := if_pos h
    rw [hs, FrameStore.settle_of_filling]
    rw [FrameStore.release_desc, if_pos rfl]
    rfl
  · have hs : st.settle d = st := if_neg h
    rw [hs, hs]

theorem settle_free (hr : (st.desc d).refs = 0) (he : FrameStore.ended (st.desc d).state = true) :
    ((st.settle d).desc d).state = .free := by
  rw [FrameStore.settle, if_pos ⟨hr, he⟩, FrameStore.release_desc, if_pos rfl]
  rfl

/-- A frame at the head of its queue, FAILED first if it is still FILLING, leaves the queue and is settled (R117, R122). -/
theorem discard_of_head (hc : (st.desc d).cls = some c) (hq : st.queue c = d :: ds) (hd : d ∉ ds) (r : FailReason) :
    st.discard d r = (((if (st.desc d).state = .filling then
      st.updDesc d fun x => { x with state := .failed r } else st).headLeft c d).settle d) := by
  unfold FrameStore.discard
  split
  · generalize ht : (st.updDesc d fun x => { x with state := .failed r }) = t
    have htc : (t.desc d).cls = some c := by rw [← ht, FrameStore.desc_updDesc_self, ← hc]
    have htq : t.queue c = d :: ds := by rw [← ht, FrameStore.updDesc_queue, hq]
    have hfail : st.fail d r = (t.headLeft c d).settle d := by
      rw [FrameStore.fail, ht, leaveQueue_of_head htc htq]
    rw [hfail, leaveQueue_of_gone, settle_settle]
    intro k hk
    have hk' := settle_cls hk
    rw [headLeft_desc] at hk'
    obtain rfl : c = k := Option.some.inj (htc.symm.trans hk')
    rw [settle_queue, headLeft_queue htq, if_pos rfl]
    exact hd
  · rw [leaveQueue_of_head hc hq]

theorem queue_discard (hc : (st.desc d).cls = some c) (hq : st.queue c = d :: ds) (hd : d ∉ ds) (r : FailReason)
    (c' : Cls) : (st.discard d r).queue c' = if c = c' then ds else st.queue c' := by
  rw [discard_of_head hc hq hd, settle_queue]
  split <;> exact headLeft_queue hq c'

/-- A discarded frame with no other holder is released (R119). -/
theorem discard_free (hc : (st.desc d).cls = some c) (hq : st.queue c = d :: ds) (hd : d ∉ ds) (r : FailReason)
    (hf : (st.desc d).state ≠ .free) (hr : (st.desc d).refs = 1) : ((st.discard d r).desc d).state = .free := by
  rw [discard_of_head hc hq hd]
  split
  · refine settle_free ?_ ?_ <;> rw [headLeft_desc, FrameStore.desc_updDesc_self]
    · simp [hr]
    · rfl
  · next hn =>
    refine settle_free ?_ ?_ <;> rw [headLeft_desc]
    · simp [hr]
    · cases hs : (st.desc d).state with
      | free => exact absurd hs hf
      | filling => exact absurd hs hn
      | complete => simp [FrameStore.ended]
      | failed r => simp [FrameStore.ended]

end

theorem unfitDiscard_store (c : Cls) (d : DescId) (s : State) : (unfitDiscard c d s).store = s.store.discard d .unfit := by
  simp [unfitDiscard, discardQueued_store]

/-! ### The arbiter goes on from the new head (R67) -/

/-- Classes with nothing waiting are passed over. -/
theorem arbitrate_of_empty {s : State} {pre : List Cls} (h : ∀ c ∈ pre, s.store.queue c = []) (cs : List Cls) :
    arbitrate (pre ++ cs) s = arbitrate cs s := by
  induction pre with
  | nil => rfl
  | cons c pre ih =>
    have hc : s.store.queue c = [] := h c List.mem_cons_self
    have ih := ih fun k hk => h k (List.mem_cons_of_mem _ hk)
    rw [List.cons_append]
    rcases arbitrate_cons c (pre ++ cs) s with e | ⟨t, us, x, he, e⟩ | ⟨t, us, he, e⟩
    · exact e.trans ih
    · rw [hc] at he
      cases he
    · rw [hc] at he
      cases he
      rw [e, ih]
      rfl

theorem arbitrate_of_none {c : Cls} {cs : List Cls} {s t : State} {us : List Cls} (h : examines s c = true)
    (he : examineQueue c (s.store.queue c) s = (t, us, none)) : arbitrate (c :: cs) s =
      ((arbitrate cs t).1, us ++ (arbitrate cs t).2.1, (arbitrate cs t).2.2) := by
  simp only [arbitrate, if_pos h, he]

theorem arbitrate_of_some {c : Cls} {cs : List Cls} {s t : State} {us : List Cls} {x : Candidate}
    (h : examines s c = true) (he : examineQueue c (s.store.queue c) s = (t, us, some x)) :
    arbitrate (c :: cs) s = (t, us, some x) := by
  simp only [arbitrate, if_pos h, he]

theorem examineQueue_of_unfit {c : Cls} {d : DescId} {ds : List DescId} {s : State} (ho : isOpen s c = true)
    (hp : (vget s.policy c).preemptible = false) (hf : fitCheck c ((s.store.desc d).frameBytes - 9) s = .unfit) :
    examineQueue c (d :: ds) s = ((examineQueue c ds (unfitDiscard c d s)).1,
      c :: (examineQueue c ds (unfitDiscard c d s)).2.1, (examineQueue c ds (unfitDiscard c d s)).2.2) := by
  generalize hr : examineQueue c ds (unfitDiscard c d s) = rest
  simp [examineQueue, ho, hp, hf, hr]

theorem StoreOk.head_not_mem {s : State} (h : StoreOk s) {c : Cls} {d : DescId} {ds : List DescId}
    (hq : s.store.queue c = d :: ds) : d ∉ ds := by
  have hn := h.queueNodup c
  rw [hq] at hn
  exact (List.nodup_cons.1 hn).1

theorem StoreOk.not_free_of_refs {s : State} (h : StoreOk s) {d : DescId} (hr : (s.store.desc d).refs ≠ 0) :
    (s.store.desc d).state ≠ .free := fun hf => by
  rw [h.unused d hf] at hr
  exact hr rfl

/-- The arbiter's answer where the first class with a frame waiting has an unfit head. -/
theorem arbiter_of_unfit {s : State} (h : StoreOk s) {c : Cls} {d : DescId} {ds : List DescId}
    (hq : s.store.queue c = d :: ds) (hh : s.il.hold = none) (hempty : ∀ c', c' < c → s.store.queue c' = [])
    (hn : nests s c = true) (ho : isOpen s c = true) (hp : (vget s.policy c).preemptible = false)
    (hf : fitCheck c ((s.store.desc d).frameBytes - 9) s = .unfit) :
    arbiter s = ((arbiter (unfitDiscard c d s)).1, c :: (arbiter (unfitDiscard c d s)).2.1,
      (arbiter (unfitDiscard c d s)).2.2) := by
  obtain ⟨pre, post, hsplit⟩ := List.mem_iff_append.1 (mem_classes c)
  have hlt : ∀ c' ∈ pre, c' < c := fun c' hc' => by
    have hp := classes_pairwise
    rw [hsplit] at hp
    exact (List.pairwise_append.1 hp).2.2 c' hc' c List.mem_cons_self
  have hcls := h.queued c d (by rw [hq]; exact List.mem_cons_self)
  have hqueue : ∀ c', (unfitDiscard c d s).store.queue c' = if c = c' then ds else s.store.queue c' := fun c' => by
    rw [unfitDiscard_store]
    exact queue_discard hcls hq (h.head_not_mem hq) .unfit c'
  have hempty' : ∀ c' ∈ pre, (unfitDiscard c d s).store.queue c' = [] := fun c' hc' => by
    rw [hqueue, if_neg (hlt c' hc').ne', hempty c' (hlt c' hc')]
  have hexam : examines s c = true := by rw [examines_of_none hh, hn]
  have hexam' : examines (unfitDiscard c d s) c = true := by
    rw [examines_of_none (by rw [unfitDiscard_hold, hh]; simp), nests_congr (unfitDiscard_il c d s).1, hn]
  unfold arbiter
  rw [hsplit, arbitrate_of_empty (fun c' hc' => hempty c' (hlt c' hc')), arbitrate_of_empty hempty']
  have hq' : (unfitDiscard c d s).store.queue c = ds := by rw [hqueue, if_pos rfl]
  rcases hr : examineQueue c ds (unfitDiscard c d s) with ⟨t, us, _ | x⟩
  · rw [arbitrate_of_none hexam' (by rw [hq', hr]),
      arbitrate_of_none hexam (by rw [hq, examineQueue_of_unfit ho hp hf, hr])]
    rfl
  · rw [arbitrate_of_some hexam' (by rw [hq', hr]),
      arbitrate_of_some hexam (by rw [hq, examineQueue_of_unfit ho hp hf, hr])]

/-- Settles O12: without holds and unfit heads the arbiter is a search for the first eligible head (`arbitrate_of_fit`); the
rest follows its examinations (`examineQueue_cons`, `arbitrate_cons`). -/
theorem arbiterNamesTheCandidate : Obligations.ArbiterNamesTheCandidate := by
  refine ⟨fun s hh hn => ?_, fun h us s t x hh ha => ?_, fun us s t x ha => ?_, fun c d ds s h hq => ?_⟩
  · have harb : arbiter s = _ := arbitrate_of_fit hh hn _
    have hcls : ∀ c x, namedHead c s = some x → x.cls = c := fun c x hx => ((namedHead_eq_some hh c x).1 hx).1
    have hnone : ∀ c, namedHead c s = none ↔ ∀ d, ¬ EligibleHead c d s := fun c => by
      rw [Option.eq_none_iff_forall_ne_some]
      refine ⟨fun hx d hd => hx ⟨c, d, !(vget s.policy c).preemptible⟩ ?_, fun hd x hx => ?_⟩
      · exact (namedHead_eq_some hh c _).2 ⟨rfl, hd, by simp⟩
      · obtain ⟨-, he, -⟩ := (namedHead_eq_some hh c x).1 hx
        exact hd _ he
    rw [harb]
    refine ⟨fun x => ?_, ?_⟩
    · have hsome := findSome_eq_some_iff hcls classes_pairwise x
      simp only [Prod.mk.injEq, true_and, hsome, mem_classes, forall_const, hnone, namedHead_eq_some hh]
      exact ⟨fun ⟨⟨he, hf⟩, hl⟩ => ⟨he, hf, fun c d hc => hl c hc d⟩,
        fun ⟨he, hf, hl⟩ => ⟨⟨he, hf⟩, fun c hc d => hl c d hc⟩⟩
    · simp only [Prod.mk.injEq, true_and, List.findSome?_eq_none_iff, mem_classes, forall_const, hnone]
  · obtain ⟨hends, hallow⟩ := arbitrate_hold [0, 1, 2, 3, 4, 5] s
    rw [← arbiter, ha] at hends hallow
    rcases hends with he | he
    · have hx := hallow x rfl
      rw [holdAllows, he, hh] at hx
      exact .inl ⟨(of_decide_eq_true hx).symm, he.trans hh⟩
    · exact .inr he
  · have hk := arbiter_arbitrates ha
    have hu := arbitrate_unfit [0, 1, 2, 3, 4, 5] s
    rw [← arbiter, ha] at hu
    exact ⟨hk.stack, hk.counters, hk.agent, hu⟩
  · have hcls := h.queued c d (by rw [hq]; exact List.mem_cons_self)
    have hd := h.head_not_mem hq
    refine ⟨?_, ?_, ?_, ?_, unfitDiscard_hold c d s, fun hr => ?_, fun hh hempty hn ho hp hf =>
      arbiter_of_unfit h hq hh hempty hn ho hp hf⟩
    · rw [unfitDiscard_store, queue_discard hcls hq hd, if_pos rfl]
    · rw [unfitDiscard_sched]
    · simp
    · simp
    · rw [unfitDiscard_store]
      exact discard_free hcls hq hd .unfit (h.not_free_of_refs (by rw [hr]; simp)) hr

end Sys2Proof.Machine
end

section
/-! DEVICE_RESET and RESET_RELEASE (R125, R186): what every block holds after them. -/

namespace Sys2Proof.Machine

/-! ### The blocks at their reset values -/

section
variable (held : Bool) (k : BitVec 4) (l : List Instr) (n : Nat)

theorem blocksReset_port (p : PortIx) :
    (State.blocksReset held k l n).port p = Port.reset (if held then none else some .idle) :=
  vget_replicate ..

theorem blocksReset_framer (p : PortIx) : (State.blocksReset held k l n).framer p = Framer.reset :=
  congrArg Port.framer (blocksReset_port held k l n p)

theorem blocksReset_context (c : Cls) : (State.blocksReset held k l n).context c = Context.closed := vget_replicate ..

theorem blocksReset_desc (d : DescId) : (State.blocksReset held k l n).store.desc d = Descriptor.unused :=
  vget_replicate ..

theorem blocksReset_queue (c : Cls) : (State.blocksReset held k l n).store.queue c = [] := vget_replicate ..

theorem blocksReset_free : (State.blocksReset held k l n).store.freeCells = List.finRange 512 ∧
    (State.blocksReset held k l n).store.freeDescs = List.finRange 128 := by
  simp only [State.blocksReset, FrameStore.reset, and_self]

theorem blocksReset_bank (x : BankId) : (State.blocksReset held k l n).sched.bank x = Bank.reset := by
  cases x <;> rfl

end

theorem bankReset_window_zero : Bank.reset.window 0 = { offset := 0, openSet := 0x3F } := by decide

theorem bankReset_window {i : Nat} (h1 : 1 ≤ i) (h2 : i ≤ 15) : Bank.reset.window i = { offset := 0, openSet := 0 } := by
  interval_cases i <;> decide

theorem policyReset_eq (c : Cls) :
    vget policyReset c = { preemptible := decide (c ≠ 0), cutThrough := false, queueLimit := 32 } := by
  fin_cases c <;> rfl

/-- A command that is no reset acts only while the pin is high (R186, log 18). -/
theorem exec_eq_whenRunning {c : Instr} (h : c ≠ .deviceReset) (hk : ∀ k, c ≠ .resetRelease k) :
    ∃ f, ∀ s, exec c s = .next (whenRunning f s) := by
  cases c with
  | deviceReset => exact absurd rfl h
  | resetRelease k => exact absurd rfl (hk k)
  | _ => exact ⟨_, fun _ => rfl⟩

/-- Settles O4: every block by the equations of its reset value; the commands but for the two resets are guarded by the pin
(`exec_eq_whenRunning`). -/
theorem resetTakesAndReleases : Obligations.ResetTakesAndReleases := by
  refine ⟨fun s => ⟨_, rfl, rfl, rfl, rfl, fun p => ?_, ⟨rfl, rfl, rfl, fun c => ?_⟩,
      ⟨rfl, rfl, rfl, rfl, rfl, fun c => vget_replicate .., fun k => ?_⟩, rfl, ⟨rfl, rfl, fun c => ?_, rfl⟩, fun d => ?_,
      (blocksReset_free ..).1, (blocksReset_free ..).2, fun c => ?_, fun i => vget_replicate ..,
      fun p => vget_replicate .., policyReset_eq, fun i => vget_replicate .., ?_⟩,
    fun k s h => ?_, fun c s h hc hk => ?_⟩
  · rw [blocksReset_port]
    exact ⟨rfl, rfl, rfl, rfl, rfl, rfl, rfl, rfl, rfl, rfl, rfl⟩
  · exact ⟨vget_replicate .., vget_replicate .., vget_replicate .., vget_replicate .., vget_replicate ..⟩
  · rw [blocksReset_bank]
    exact ⟨rfl, rfl, bankReset_window_zero, fun i h1 h2 => bankReset_window h1 h2⟩
  · exact blocksReset_context ..
  · exact blocksReset_desc ..
  · exact blocksReset_queue ..
  · exact ⟨rfl, rfl, rfl, rfl, rfl, rfl, rfl, rfl, rfl, rfl, rfl, rfl, rfl⟩
  · refine ⟨State.blocksReset false k s.pending s.freeDraws, _, congrArg _ (if_pos h), rfl, rfl, rfl, rfl, fun p => ?_,
      rfl, rfl, rfl, rfl, rfl, rfl, rfl, rfl, rfl⟩
    rw [blocksReset_port, blocksReset_port]
    rfl
  · obtain ⟨f, hf⟩ := exec_eq_whenRunning hc hk
    rw [hf, whenRunning, if_pos h]

/-! ### The invariants after reset -/

theorem scheduleOk_reset : ScheduleOk State.reset := by
  refine ⟨by decide, by decide, by decide, nofun, nofun⟩

theorem portsOk_reset : PortsOk State.reset := fun p => by
  have hp : State.reset.port p = Port.reset (some .idle) := blocksReset_port ..
  rw [State.framer, hp]
  exact ⟨fun _ => ⟨rfl, rfl, rfl, rfl, rfl, rfl, rfl⟩, Nat.zero_le _⟩

theorem routesOk_reset : RoutesOk State.reset := by
  have hr : routeAddresses State.reset.routes = [] := by
    decide
  rw [RoutesOk, hr]
  exact ⟨List.nodup_nil, nofun, by decide, by decide⟩

theorem holders_reset (d : DescId) : State.reset.holders d = 0 := by
  have hp : ∀ p, State.reset.port p = Port.reset (some .idle) := fun p => blocksReset_port ..
  have hq : ∀ c, State.reset.store.queue c = [] := fun c => blocksReset_queue ..
  simp only [State.holders, hp, hq]
  rfl

theorem storeOk_reset : StoreOk State.reset := by
  have hd : ∀ d, State.reset.store.desc d = Descriptor.unused := fun d => blocksReset_desc ..
  have hq : ∀ c, State.reset.store.queue c = [] := fun c => blocksReset_queue ..
  have hf : ∀ p, State.reset.framer p = Framer.reset := fun p => blocksReset_framer ..
  have hc : ∀ c, State.reset.context c = Context.closed := fun c => blocksReset_context ..
  exact {
    freeList := fun d => by
      rw [hd]
      exact ⟨fun _ => rfl, fun _ => List.mem_finRange d⟩
    freeNodup := by
      rw [State.reset, (blocksReset_free ..).2]
      exact List.nodup_finRange 128
    unused := fun d _ => hd d
    refs := fun d => by rw [hd, holders_reset]; rfl
    held := fun d h => by rw [hd] at h; cases h
    queued := fun c d h => by rw [hq] at h; cases h
    queueNodup := fun c => by rw [hq]; exact List.nodup_nil
    heldReply := nofun
    framer := fun p => by rw [hf]; rfl
    framed := fun p d h => by rw [hf] at h; cases h
    stored := fun c d h => by rw [hc] at h; cases h
    storedOnce := fun c c' d h => by rw [hc] at h; cases h
    owed := nofun
    cells := fun k => by
      have hk : State.reset.store.freeCells.count k = 1 := by
        rw [State.reset, (blocksReset_free ..).1]
        exact List.count_eq_one_of_mem (List.nodup_finRange 512) (List.mem_finRange k)
      rw [hk, Finset.sum_eq_zero fun d _ => by rw [hd]; rfl, Nat.add_zero] }

/-- Settles O5: the stacks and the builder by what a reset keeps (`Kept.reset`), the others block by block. -/
theorem resetStateIsSafe : Obligations.ResetStateIsSafe := by
  refine ⟨transmitStackOk_kept.reset .., receiveStackOk_kept.reset .., scheduleOk_reset, ?_, ⟨rfl, fun p => ?_⟩,
    portsOk_reset, rfl, routesOk_reset, List.nodup_nil, ⟨List.nodup_nil, Nat.zero_le _, Nat.zero_le _⟩,
    builderOk_kept.reset .., storeOk_reset⟩
  · exact ⟨⟨fun _ => rfl, fun _ => rfl⟩, nofun, rfl, by decide, by decide⟩
  · exact congrArg (fun q : Port => q.rx.ok) (blocksReset_port ..)

end Sys2Proof.Machine
end

section
/-! The slots of the counter (R49, R52, R54, R82): a plain advance, an edge, a wrap, and the parts of a TRUNK_SLOT. -/

namespace Sys2Proof.Machine

/-! ### The beginning of a slot -/

theorem wrapsNext_iff {s : State} : wrapsNext s = true ↔ s.sched.activeBank.length ≤ s.sched.counter + 1 :=
  decide_eq_true_iff

theorem wrapsNext_of_lt {s : State} (h : s.sched.counter + 1 < s.sched.activeBank.length) : wrapsNext s = false :=
  decide_eq_false h.not_ge

/-- A slot that begins below the wrap. -/
theorem beginSlot_of_advance {s : State} (hb : s.sched.slotBegun = false) (hw : wrapsNext s = false) :
    beginSlot s = { s with sched := { s.sched with
      counter := s.sched.counter + 1
      window := s.sched.activeBank.windowFor (s.sched.counter + 1)
      openBefore := s.sched.openSet
      slotBegun := true
      slotByWrap := false
      slotWidth := s.align.width } } := by
  rw [beginSlot, hb, hw]
  rfl

theorem beginSlot_of_wrap {s : State} (hb : s.sched.slotBegun = false) (hw : wrapsNext s = true) :
    beginSlot s = boundary true (s.updSched (Schedule.nextSlot s.align.width)) := by
  rw [beginSlot, hb, hw]
  rfl

theorem beginSlot_of_begun {s : State} (hb : s.sched.slotBegun = true) : beginSlot s = s := if_pos hb

theorem beginSlot_slotBegun (s : State) : (beginSlot s).sched.slotBegun = true := by
  rcases hb : s.sched.slotBegun with _ | _
  · rcases hw : wrapsNext s with _ | _
    · rw [beginSlot_of_advance hb hw]
    · rw [beginSlot_of_wrap hb hw, boundary_sched]
      rfl
  · rw [beginSlot_of_begun hb, hb]

theorem beginRaises_of_begun {s : State} (hb : s.sched.slotBegun = true) : beginRaises s = [] := if_pos hb

theorem beginRaises_of_advance {s : State} (hb : s.sched.slotBegun = false) (hw : wrapsNext s = false) :
    beginRaises s = [] := by
  rw [beginRaises, hb, hw]
  rfl

theorem beginRaises_of_wrap {s : State} (hb : s.sched.slotBegun = false) (hw : wrapsNext s = true) :
    beginRaises s = if s.sched.commit = .pending then [.commitDone s.sched.active.other] else [] := by
  rw [beginRaises, hb, hw, boundaryRaises]
  cases s.sched.commit <;> rfl

/-! ### Edges of a valid bank (R51, R52) -/

theorem Bank.offset_lt_length {k : Bank} (h : k.valid = true) {i : Nat} (hi : i < k.count) :
    (k.window i).offset < k.length := by
  have hr : k.offsetsRise (k.count - 1) = true := by simp [Bank.valid] at h; exact h.2
  have below : ∀ n, k.offsetsRise n = true → ∀ j ≤ n, (k.window j).offset < k.length := by
    intro n
    induction n with
    | zero =>
      intro hn j hj
      obtain rfl : j = 0 := Nat.le_zero.1 hj
      exact of_decide_eq_true hn
    | succ n ih =>
      intro hn j hj
      simp only [Bank.offsetsRise, Bool.and_eq_true, decide_eq_true_eq] at hn
      rcases Nat.le_succ_iff.1 hj with hj | rfl
      · exact ih hn.2 j hj
      · exact hn.1.2
  exact below _ hr i (by omega)

theorem Bank.edgeAt_offset {k : Bank} {i : Nat} (h1 : 1 ≤ i) (hi : i < k.count) : k.edgeAt (k.window i).offset = true := by
  rw [Bank.edgeAt, List.any_eq_true]
  exact ⟨i, List.mem_range.2 hi, by simp [h1]⟩

/-! ### The boundary (R54) -/

/-- Order 1 of a boundary touches the schedule alone. -/
theorem swapIfPending_eq (s : State) : ∃ c, swapIfPending s = s.updSched fun _ => c := by
  unfold swapIfPending
  split
  · exact ⟨s.sched, rfl⟩
  · exact ⟨s.sched.swap, rfl⟩

/-- What a boundary leaves but for the schedule: marks at the ports, and the expect flag. -/
theorem boundary_eq (b : Bool) (s : State) : boundary b s = { s with
    sched := (boundary b s).sched
    ports := mapPorts Port.markBoundary s.ports
    align := s.align.boundaryReport b } := by
  obtain ⟨c, hc⟩ := swapIfPending_eq (s.updSched fun c => { c with counter := 0, slotByWrap := b })
  simp only [boundary, hc]
  rfl

theorem port_boundary (b : Bool) (s : State) (p : PortIx) : (boundary b s).port p =
    if (s.port p).config.markForwarding ∧ (s.port p).serving then { s.port p with markPending := true }
    else s.port p := by
  have hp : (boundary b s).port p = (s.port p).markBoundary := by
    rw [boundary_eq]
    exact vget_mapPorts ..
  rw [hp, Port.markBoundary]
  simp only [Bool.and_eq_true]

/-! ### The missed-mark check (R82) -/

theorem takeMiss_expect (s : State) (h : s.align.expect = false) : (takeMiss s).align.expect = false := by
  dsimp only [takeMiss]
  split
  · rfl
  · exact h

theorem missedDue_of_no_expect {s : State} (h : s.align.expect = false) : missedDue s = false := by
  simp [missedDue, h]

/-- The check, once taken, is not due again in its slot. -/
theorem missedDue_missedCheck (s : State) : missedDue (missedCheck s) = false := by
  rcases h : missedDue s with _ | _
  · rw [missedCheck, h]
    exact h
  · rw [missedCheck, h]
    exact missedDue_of_no_expect (takeMiss_expect _ rfl)

/-! ### The slots -/

/-- A slot in which the trunk is DOWN sends IDLE and does nothing else (R1). -/
theorem decideSlot_of_down {s : State} (h : s.trunkRx.up = false) :
    decideSlot s = ({ s with trunkTx := some .idle, sched := { s.sched with slotBegun := false } }, []) := by
  rw [decideSlot, h]
  rfl

theorem exec_cycleWrap {s : State} (h : s.resetHeld = false) (hb : s.sched.slotBegun = false)
    (hw : wrapsNext s = true) : exec .cycleWrap s = .next (raiseAll (beginRaises s) (beginSlot s)) := by
  simp [exec, execCycleWrap, whenRunning, cycleWrap, h, hb, hw]

theorem trunkSlot_of_down {s : State} (hu : s.trunkRx.up = false) (hl : s.align.state ≠ .locked)
    (hb : s.sched.slotBegun = false) (hw : wrapsNext s = false) :
    trunkSlot s = { s with
      trunkTx := some .idle
      sched := { s.sched with
        counter := s.sched.counter + 1
        window := s.sched.activeBank.windowFor (s.sched.counter + 1)
        openBefore := s.sched.openSet
        slotBegun := false
        slotByWrap := false
        slotWidth := s.align.width } } := by
  have hdue : missedDue (beginSlot s) = false := by simp [missedDue, beginSlot_of_advance hb hw, hl]
  have hcheck : missedCheck (beginSlot s) = beginSlot s := by simp [missedCheck, hdue]
  have hmissed : missedRaises (beginSlot s) = [] := by simp [missedRaises, hdue]
  have hdecide := decideSlot_of_down (s := beginSlot s) (by rw [beginSlot_of_advance hb hw, hu])
  simp only [trunkSlot, beginRaises_of_advance hb hw, hcheck, hmissed, hdecide, List.append_nil, raiseAll_nil]
  rw [beginSlot_of_advance hb hw]

/-- Settles O6: a slot begins by an advance or by the wrap (`beginSlot_of_advance`, `beginSlot_of_wrap`), and the check is
due once (`missedDue_missedCheck`). -/
theorem slotsOfTheCounter : Obligations.SlotsOfTheCounter := by
  refine ⟨fun s h hu hl hb hw => ?_, fun k s h hb hv h1 hk ho => ?_, fun s h hb hw => ?_, fun s h =>
    ⟨⟨?_, exec_trunkSlot h, ?_, ?_⟩, fun hb => ⟨beginSlot_of_begun hb, beginRaises_of_begun hb⟩, fun hb hw => ⟨?_, ?_⟩,
      fun hb hw => ?_⟩⟩
  · rw [exec_trunkSlot h, trunkSlot_of_down hu hl hb (wrapsNext_of_lt hw)]
  · have hw : wrapsNext s = false := wrapsNext_of_lt (ho ▸ Bank.offset_lt_length hv hk)
    have hedge : s.sched.activeBank.edgeAt (s.sched.counter + 1) = true := ho ▸ Bank.edgeAt_offset h1 hk
    have hwin : s.sched.activeBank.windowFor (s.sched.counter + 1) = k := ho ▸ Bank.windowFor_offset hv hk
    have hexec : exec .windowEdge s = .next (beginSlot s) := by
      simp [exec, execWindowEdge, whenRunning, windowEdge, h, hb, hw, hedge]
    rw [hexec, beginSlot_of_advance hb hw, hwin]
  · have hw := wrapsNext_iff.2 hw
    have hbegin := beginSlot_of_wrap hb hw
    have hraises := beginRaises_of_wrap hb hw
    have hframe := boundary_eq true (s.updSched (Schedule.nextSlot s.align.width))
    have hagent : (beginSlot s).agent = s.agent := by rw [hbegin, hframe]; rfl
    refine ⟨_, exec_cycleWrap h hb hw, ?_, fun p => ?_, ?_, fun hc => ?_, fun hc => ?_, ?_⟩
    · simp only [raiseAll_frame, hbegin, boundary_sched]
      rfl
    · have hp : ∀ es, (raiseAll es (beginSlot s)).port p = (beginSlot s).port p := fun es => by simp [State.port]
      rw [hp, hbegin, port_boundary]
      rfl
    · simp only [raiseAll_frame]
      rw [hbegin, hframe]
      rfl
    · rw [hraises, hc, if_neg nofun, raiseAll_nil, hagent]
    · rw [hraises, hc, if_pos rfl, raiseAll_singleton]
      exact raise_agent_congr _ hagent (by rw [hbegin, boundary_sched])
    · simp only [raiseAll_frame]
      rw [hbegin, hframe]
      exact ⟨rfl, rfl, rfl, rfl, rfl, rfl⟩
  · have hu : (missedCheck (beginSlot s)).sched.slotBegun = true := by simp [beginSlot_slotBegun]
    rw [exec_trunkSlot (by simp [h]), trunkSlot_of_begun hu (missedDue_missedCheck _)]
  · simp [beginSlot_slotBegun]
  · exact missedDue_missedCheck _
  · exact exec_cycleWrap h hb (wrapsNext_iff.2 hw)
  · exact beginRaises_of_wrap hb (wrapsNext_iff.2 hw)
  · have hw := wrapsNext_of_lt hw
    exact ⟨beginRaises_of_advance hb hw, beginSlot_of_advance hb hw⟩

end Sys2Proof.Machine
end

section
/-! A descriptor leaves the class queue it stands in (R117, R122): what is left of every queue, and that the queues stay in
agreement with the descriptors and the reply hold. -/

namespace Sys2Proof.Machine

namespace FrameStore
variable {st st' : FrameStore} {d : DescId}

/-- A frame in class queue c has class c, and stands there once (R109, R120). -/
structure Filed (st : FrameStore) : Prop where
  cls : ∀ c, ∀ e ∈ st.queue c, (st.desc e).cls = some c
  nodup : ∀ c, (st.queue c).Nodup

/-- From st to st' descriptor d has left the class queues, and the other descriptors are as they were. -/
structure Left (d : DescId) (st st' : FrameStore) : Prop where
  queue : ∀ c, st'.queue c = (st.queue c).erase d
  others : ∀ e, e ≠ d → st'.desc e = st.desc e

theorem Filed.mem_erase (h : st.Filed) {e : DescId} {c : Cls} : e ∈ (st.queue c).erase d ↔ e ≠ d ∧ e ∈ st.queue c :=
  (h.nodup c).mem_erase_iff

theorem Filed.left (h : st.Filed) (l : Left d st st') : st'.Filed := by
  refine ⟨fun c e he => ?_, fun c => ?_⟩
  · rw [l.queue, h.mem_erase] at he
    obtain ⟨hne, he⟩ := he
    rw [l.others e hne]
    exact h.cls c e he
  · rw [l.queue]
    exact (h.nodup c).erase d

theorem Filed.updDesc (h : st.Filed) {f : Descriptor → Descriptor} (hf : (f (st.desc d)).cls = (st.desc d).cls) :
    (st.updDesc d f).Filed := by
  refine ⟨fun c e he => ?_, h.nodup⟩
  rw [desc_updDesc]
  split
  · next hd =>
    subst hd
    exact hf.trans (h.cls c d he)
  · exact h.cls c e he

theorem Left.settle (l : Left d st st') : Left d st (st'.settle d) :=
  ⟨fun c => (settle_queue d c).trans (l.queue c), fun e he => (settle_desc_of_ne _ d e he.symm).trans (l.others e he)⟩

theorem Left.of_updDesc {f : Descriptor → Descriptor} (l : Left d (st.updDesc d f) st') : Left d st st' :=
  ⟨l.queue, fun e he => (l.others e he).trans (by rw [desc_updDesc, if_neg he.symm])⟩

/-- What has left the queues once is not in them to leave again. -/
theorem Left.again (h : st.Filed) {st'' : FrameStore} (l : Left d st st') (l' : Left d st' st'') : Left d st st'' := by
  refine ⟨fun c => ?_, fun e he => (l'.others e he).trans (l.others e he)⟩
  rw [l'.queue, l.queue, List.erase_of_not_mem fun hm => (h.mem_erase.1 hm).1 rfl]

theorem left_leaveQueue (h : st.Filed) (d : DescId) : Left d st (st.leaveQueue d) := by
  by_cases hq : ∃ c, d ∈ st.queue c
  · obtain ⟨c, hd⟩ := hq
    have hcls := h.cls c d hd
    have hl : st.leaveQueue d = st.headLeft c d := by simp [leaveQueue, hcls, hd, headLeft]
    rw [hl]
    refine ⟨fun k => ?_, fun e he => ?_⟩
    · rw [headLeft, updDesc_queue, unqueue_queue]
      split
      · rfl
      · next hk =>
        refine (List.erase_of_not_mem fun hm => hk ?_).symm
        exact Option.some.inj (hcls.symm.trans (h.cls k d hm))
    · rw [headLeft, desc_updDesc, if_neg he.symm]
      rfl
  · have hn : ∀ c, d ∉ st.queue c := fun c hd => hq ⟨c, hd⟩
    rw [leaveQueue_of_gone fun c _ => hn c]
    exact ⟨fun c => (List.erase_of_not_mem (hn c)).symm, fun _ _ => rfl⟩

theorem left_fail (h : st.Filed) (d : DescId) (r : FailReason) : Left d st (st.fail d r) :=
  (left_leaveQueue (h.updDesc rfl) d).settle.of_updDesc

theorem left_discard (h : st.Filed) (d : DescId) (r : FailReason) : Left d st (st.discard d r) := by
  unfold discard
  split
  · have hf := left_fail h d r
    exact (hf.again h (left_leaveQueue (h.left hf) d)).settle
  · exact (left_leaveQueue h d).settle

end FrameStore

/-! ### The queues and the reply hold -/

/-- The queues agree with the descriptors, and the reply that is held for is COMPLETE and waits in one (R43, R44). -/
structure QueuesAgree (s : State) : Prop where
  filed : s.store.Filed
  held : ∀ h, s.il.hold = some h → (s.store.desc h).state = .complete ∧ ∃ c, h ∈ s.store.queue c

theorem StoreOk.queuesAgree {s : State} (h : StoreOk s) : QueuesAgree s := ⟨⟨h.queued, h.queueNodup⟩, h.heldReply⟩

namespace QueuesAgree
variable {s t : State} {d : DescId}

theorem congr (h : QueuesAgree s) (hs : t.store = s.store) (hi : t.il.hold = s.il.hold) : QueuesAgree t :=
  ⟨hs ▸ h.filed, hs ▸ hi ▸ h.held⟩

/-- The queues without d agree still, unless d is held for. -/
theorem left (h : QueuesAgree s) (l : FrameStore.Left d s.store t.store)
    (hh : ∀ x, t.il.hold = some x → x ≠ d ∧ s.il.hold = some x) : QueuesAgree t := by
  refine ⟨h.filed.left l, fun x hx => ?_⟩
  obtain ⟨hne, hx⟩ := hh x hx
  obtain ⟨hc, c, hm⟩ := h.held x hx
  rw [l.others x hne]
  exact ⟨hc, c, by rw [l.queue, h.filed.mem_erase]; exact ⟨hne, hm⟩⟩

theorem failFrame (h : QueuesAgree s) (d : DescId) (r : FailReason) : QueuesAgree (failFrame d r s) := by
  by_cases hd : (s.store.desc d).state = .filling
  · have hs : (Machine.failFrame d r s).store = s.store.fail d r := by simp [Machine.failFrame, hd]
    refine h.left (d := d) (hs ▸ FrameStore.left_fail h.filed d r) fun x hx => ?_
    have hx : s.il.hold = some x := by simpa using hx
    refine ⟨fun he => ?_, hx⟩
    rw [← he, (h.held x hx).1] at hd
    cases hd
  · rw [Machine.failFrame, if_neg hd]
    exact h

theorem left_discardQueued (h : QueuesAgree s) (d : DescId) (r : FailReason) :
    FrameStore.Left d s.store (discardQueued d r s).store := by
  rw [discardQueued_store]
  exact FrameStore.left_discard h.filed d r

theorem discardQueued (h : QueuesAgree s) (d : DescId) (r : FailReason) : QueuesAgree (discardQueued d r s) := by
  refine h.left (h.left_discardQueued d r) fun x hx => ?_
  rw [discardQueued_hold] at hx
  split at hx
  · cases hx
  · next hn => exact ⟨fun he => hn (he ▸ hx), hx⟩

/-! ### A class queue emptied (R123) -/

theorem discards (h : QueuesAgree s) (l : List DescId) (r : FailReason) :
    QueuesAgree (l.foldl (fun s d => Machine.discardQueued d r s) s) ∧
      ∀ c, (l.foldl (fun s d => Machine.discardQueued d r s) s).store.queue c = (s.store.queue c).diff l := by
  induction l generalizing s with
  | nil => exact ⟨h, fun _ => rfl⟩
  | cons d l ih =>
    obtain ⟨hk, hq⟩ := ih (h.discardQueued d r)
    exact ⟨hk, fun c => by rw [List.foldl_cons, hq, (h.left_discardQueued d r).queue, List.diff_cons]⟩

theorem emptyClassQueue (h : QueuesAgree s) (c : Cls) (r : FailReason) : QueuesAgree (emptyClassQueue c r s) :=
  (h.discards _ r).1

theorem queue_emptyClassQueue (h : QueuesAgree s) (c k : Cls) (r : FailReason)
    (hk : k = c ∨ s.store.queue k = []) : (Machine.emptyClassQueue c r s).store.queue k = [] := by
  have hq : (Machine.emptyClassQueue c r s).store.queue k = (s.store.queue k).diff (s.store.queue c) :=
    (h.discards _ r).2 k
  rw [hq]
  rcases hk with rfl | hk
  · rw [(h.filed.nodup k).sdiff_eq_filter]
    simp
  · rw [hk, List.nil_diff]

theorem emptyClassQueues (h : QueuesAgree s) (l : List Cls) (r : FailReason) :
    QueuesAgree (l.foldl (fun s c => Machine.emptyClassQueue c r s) s) ∧ ∀ k, k ∈ l ∨ s.store.queue k = [] →
      (l.foldl (fun s c => Machine.emptyClassQueue c r s) s).store.queue k = [] := by
  induction l generalizing s with
  | nil => exact ⟨h, fun k hk => hk.resolve_left List.not_mem_nil⟩
  | cons c l ih =>
    obtain ⟨ha, hq⟩ := ih (h.emptyClassQueue c r)
    refine ⟨ha, fun k hk => hq k ?_⟩
    rcases hk with hk | hk
    · exact (List.mem_cons.1 hk).symm.imp_right fun hk => h.queue_emptyClassQueue c k r (.inl hk)
    · exact .inr (h.queue_emptyClassQueue c k r (.inr hk))

/-- Where every queue is empty nothing is held for. -/
theorem hold_none (h : QueuesAgree s) (he : ∀ c, s.store.queue c = []) : s.il.hold = none := by
  rw [Option.eq_none_iff_forall_ne_some]
  intro x hx
  obtain ⟨-, c, hm⟩ := h.held x hx
  rw [he] at hm
  cases hm

end QueuesAgree

end Sys2Proof.Machine
end

section
/-! What a TRAFFIC_RESET leaves of ports, contexts and inbox (R106, R135, R137, R138, R173). -/

namespace Sys2Proof.Machine

/-! ### Framers in a frame go to DISCARD (R135) -/

/-- A port may have lost its frame in reception; its configuration is as it was. -/
structure PortPasses (q q' : Port) : Prop where
  config : q'.config = q.config
  framer : q'.framer = q.framer ∨ q'.framer = q.framer.freed .discard

/-- So may every port. -/
def Passes (s t : State) : Prop := ∀ p, PortPasses (s.port p) (t.port p)

namespace Passes
variable {s t u : State}

theorem refl (s : State) : Passes s s := fun _ => ⟨rfl, .inl rfl⟩

theorem trans (h : Passes s t) (h' : Passes t u) : Passes s u := fun p => by
  obtain ⟨hc, hf⟩ := h p
  obtain ⟨hc', hf'⟩ := h' p
  refine ⟨hc'.trans hc, ?_⟩
  rcases hf' with hf' | hf' <;> rcases hf with hf | hf <;> rw [hf', hf]
  · exact .inl rfl
  · exact .inr rfl
  · exact .inr rfl
  · exact .inr rfl

theorem of_ports (h : t.ports = s.ports) : Passes s t := fun p => by
  rw [State.port, State.port, h]
  exact ⟨rfl, .inl rfl⟩

theorem updPort {f : Port → Port} (hf : ∀ q, PortPasses q (f q)) (p : PortIx) (s : State) : Passes s (s.updPort p f) :=
  fun k => by
    rw [port_updPort]
    split
    · exact hf _
    · exact ⟨rfl, .inl rfl⟩

theorem foldl {α : Type} {f : State → α → State} (hf : ∀ s a, Passes s (f s a)) (l : List α) (s : State) :
    Passes s (l.foldl f s) := by
  induction l generalizing s with
  | nil => exact refl s
  | cons a l ih => exact (hf s a).trans (ih _)

theorem countPort (p : PortIx) (g : PortCounters → PortCounters) (s : State) : Passes s (countPort p g s) :=
  updPort (f := fun q => { q with counters := g q.counters }) (fun _ => ⟨rfl, .inl rfl⟩) p s

theorem framerFreed (p : PortIx) (s : State) : Passes s (updFramer p (Framer.freed .discard) s) :=
  updPort (f := fun q => { q with framer := q.framer.freed .discard }) (fun _ => ⟨rfl, .inr rfl⟩) p s

theorem framerLoses (p : PortIx) (d : DescId) (s : State) : Passes s (framerLoses p d s) := by
  refine updPort (fun q => ?_) p s
  split
  · exact ⟨rfl, .inr rfl⟩
  · exact ⟨rfl, .inl rfl⟩

theorem failFrame (d : DescId) (r : FailReason) (s : State) : Passes s (failFrame d r s) := by
  have hs : Passes s (s.updStore (FrameStore.fail d r)) := of_ports rfl
  unfold Machine.failFrame
  split
  · unfold failAtPort
    split
    · exact hs.trans ((countPort _ _ _).trans (framerLoses _ _ _))
    all_goals exact hs
  · exact refl s

theorem framerFails (p : PortIx) (r : FailReason) (s : State) : Passes s (framerFails p r .discard s) := by
  unfold Machine.framerFails
  split
  · exact refl s
  · exact (failFrame _ r s).trans (framerFreed p _)

theorem framerTrafficReset (s : State) (p : PortIx) : Passes s (framerTrafficReset p s) := by
  unfold Machine.framerTrafficReset
  split
  · exact framerFails p .reset s
  · exact refl s

theorem discardQueued (r : FailReason) (s : State) (d : DescId) : Passes s (discardQueued d r s) :=
  (failFrame d r s).trans (of_ports rfl)

theorem emptyClassQueue (r : FailReason) (s : State) (c : Cls) : Passes s (emptyClassQueue c r s) :=
  foldl (discardQueued r) _ s

/-- A framer that is in no frame enters none. -/
theorem not_receiving (h : Passes s t) {p : PortIx} (hr : (s.framer p).receiving = false) :
    (t.framer p).receiving = false := by
  rcases (h p).framer with hf | hf <;> rw [State.framer, hf]
  · exact hr
  · rfl

theorem freed_of_receiving (h : Passes s t) {p : PortIx} (hr : (s.framer p).receiving = true)
    (ht : (t.framer p).receiving = false) : t.framer p = (s.framer p).freed .discard := by
  rcases (h p).framer with hf | hf
  · rw [State.framer, hf, ← State.framer, hr] at ht
    cases ht
  · exact hf

/-- A framer in a frame has its descriptor, as before. -/
theorem receiving_eq (h : Passes s t) {p : PortIx} (hr : (s.framer p).receiving = (s.framer p).desc.isSome) :
    (t.framer p).receiving = (t.framer p).desc.isSome := by
  rcases (h p).framer with hf | hf <;> rw [State.framer, hf]
  · exact hr
  · rfl

end Passes

theorem framerTrafficReset_receiving {p : PortIx} {s : State}
    (h : (s.framer p).receiving = (s.framer p).desc.isSome) : ((framerTrafficReset p s).framer p).receiving = false := by
  unfold framerTrafficReset
  split
  · next hr =>
    obtain ⟨d, hd⟩ := Option.isSome_iff_exists.1 (h.symm.trans hr)
    rw [framerFails, hd, State.framer]
    dsimp only
    rw [updFramer, port_updPort_self]
    rfl
  · next hr => exact Bool.not_eq_true _ ▸ hr

theorem framersReset_receiving {p : PortIx} {s : State} (h : (s.framer p).receiving = (s.framer p).desc.isSome)
    (l : List PortIx) (hp : p ∈ l ∨ (s.framer p).receiving = false) :
    ((l.foldl (fun s p => framerTrafficReset p s) s).framer p).receiving = false := by
  induction l generalizing s with
  | nil => exact hp.resolve_left List.not_mem_nil
  | cons k l ih =>
    have hk := Passes.framerTrafficReset s k
    refine ih (hk.receiving_eq h) ?_
    rcases hp with hp | hp
    · rcases List.mem_cons.1 hp with rfl | hp
      · exact .inr (framerTrafficReset_receiving h)
      · exact .inl hp
    · exact .inr (hk.not_receiving hp)

/-! ### Delivery queues and transmitters (R137, R138) -/

/-- A port whose deliveries a traffic reset has ended. -/
def Port.cleared (q : Port) : Port :=
  { q with delivery := [], sending := none, markPending := false, displaced := none }

theorem port_portTrafficReset (p k : PortIx) (s : State) : (portTrafficReset p s).port k =
    if p = k then (s.port k).cleared else s.port k := by
  split
  · next h =>
    subst h
    rw [portTrafficReset, port_abandonSending, port_emptyDelivery]
    rfl
  · next h =>
    have ha : ∀ t : State, (abandonSending p t).port k = t.port k := fun t => by
      unfold abandonSending
      split <;> simp [port_updPort, h]
    rw [portTrafficReset, ha, emptyDelivery, port_dropRefs, port_updPort, if_neg h]

theorem port_portsReset (p : PortIx) (s : State) :
    ([0, 1, 2, 3].foldl (fun s p => portTrafficReset p s) s).port p = (s.port p).cleared := by
  fin_cases p <;> simp [port_portTrafficReset]

theorem portTrafficReset_queues (p : PortIx) (s : State) : (portTrafficReset p s).store.queues = s.store.queues := by
  have hd : ∀ (l : List DescId) (st : FrameStore), (l.foldl (fun st d => st.dropRef d) st).queues = st.queues := fun l => by
    induction l with
    | nil => exact fun _ => rfl
    | cons d l ih => exact fun st => (ih _).trans (by simp)
  unfold portTrafficReset abandonSending
  split
  · exact hd _ _
  · exact (hd _ _).trans (hd _ _)

end Sys2Proof.Machine
end

section
/-! What a TRAFFIC_RESET leaves of contexts, inbox and queues, and of the descriptor that its reply has claimed (R106,
R173, R174). -/

namespace Sys2Proof.Machine

/-! ### Open contexts are discarded (R106) -/

theorem context_discards (l : List Cls) (r : DiscardReason) (s : State) (c : Cls) :
    (l.foldl (fun s c => discardContext c r s) s).context c =
      if c ∈ l then (s.context c).discarded r else s.context c := by
  induction l generalizing s with
  | nil => simp
  | cons k l ih =>
    rw [List.foldl_cons, ih, context_discardContext]
    by_cases hk : k = c
    · subst hk
      simp [Context.discarded]
    · simp [hk, Ne.symm hk]

theorem context_deinterleaverTrafficReset {s : State} {c : Cls} (h : rxOpenClass s c = true) :
    (deinterleaverTrafficReset s).context c = (s.context c).discarded .reset := by
  rw [deinterleaverTrafficReset, context_discards, if_pos]
  simpa [rxOpenClass] using h

theorem deinterleaverTrafficReset_rx (s : State) : (deinterleaverTrafficReset s).rx.stack = s.rx.stack ∧
    (deinterleaverTrafficReset s).rx.mode = s.rx.mode ∧ (deinterleaverTrafficReset s).rx.counters = s.rx.counters := by
  unfold deinterleaverTrafficReset
  generalize s.rx.stack.map OpenFrame.cls = l
  induction l generalizing s with
  | nil => exact ⟨rfl, rfl, rfl⟩
  | cons c l ih => simpa using ih (discardContext c .reset s)

theorem deinterleaverTrafficReset_queues (s : State) :
    (deinterleaverTrafficReset s).store.queues = s.store.queues := by
  unfold deinterleaverTrafficReset
  generalize s.rx.stack.map OpenFrame.cls = l
  induction l generalizing s with
  | nil => rfl
  | cons c l ih => simpa using ih (discardContext c .reset s)

/-! ### The claimed descriptor through the reset -/

namespace LeavesAlone
variable {d : DescId} {s : State}

theorem of_store {t : State} (hs : FrameStore.OthersAlone d s.store t.store) (hp : t.ports = s.ports) :
    LeavesAlone d s t := trans (updStore (f := fun _ => t.store) hs) (of_eq rfl hp)

theorem discardContext (h : ∀ c, (s.context c).storage ≠ some d) (c : Cls) (r : DiscardReason) :
    LeavesAlone d s (discardContext c r s) := by
  refine of_store ?_ (by simp)
  have hs : (Machine.discardContext c r s).store = (releaseStorage c s).store := by simp [Machine.discardContext]
  rw [hs, releaseStorage_store]
  cases he : (s.context c).storage with
  | none => exact .refl d _
  | some e =>
    have hne : e ≠ d := fun hed => h c (by rw [he, hed])
    exact ⟨(FrameStore.release_desc _ e d).trans (if_neg hne), rfl, fun k => List.Subset.refl _⟩

theorem deinterleaverTrafficReset (h : ∀ c, (s.context c).storage ≠ some d) :
    LeavesAlone d s (deinterleaverTrafficReset s) := by
  unfold Machine.deinterleaverTrafficReset
  generalize s.rx.stack.map OpenFrame.cls = l
  induction l generalizing s with
  | nil => exact refl s
  | cons c l ih =>
    refine (discardContext h c .reset).trans (ih fun k => ?_)
    rw [context_discardContext]
    split
    · exact nofun
    · exact h k

theorem countExecuted (s : State) : LeavesAlone d s (countExecuted s) := of_eq rfl rfl

theorem framerTrafficReset (p : PortIx) (s : State) : LeavesAlone d s (framerTrafficReset p s) := by
  unfold Machine.framerTrafficReset
  split
  · exact framerFails p _ _ s
  · exact refl s

theorem portTrafficReset (p : PortIx) (s : State) : LeavesAlone d s (portTrafficReset p s) :=
  (emptyDelivery p s).trans (abandonSending p _)

theorem resetBeforeReception (s : State) : LeavesAlone d s (resetBeforeReception s) :=
  ((foldl (fun p _ => framerTrafficReset p) s).trans (foldl (fun c _ => emptyClassQueue c .reset) _)).trans
    (foldl (fun p _ => portTrafficReset p) _)

theorem dropInbox (h : d ∉ s.agent.inbox) : LeavesAlone d s (dropInbox s) := by
  unfold Machine.dropInbox
  dsimp only
  refine trans ?_ (dropRefs h _)
  exact of_eq rfl rfl

end LeavesAlone

theorem QueuesAgree.framersReset {s : State} (h : QueuesAgree s) (l : List PortIx) :
    QueuesAgree (l.foldl (fun s p => framerTrafficReset p s) s) := by
  induction l generalizing s with
  | nil => exact h
  | cons p l ih =>
    rw [List.foldl_cons]
    refine ih ?_
    unfold framerTrafficReset framerFails
    split
    · split
      · exact h
      · next d _ => exact (h.failFrame d .reset).congr (by simp) (by simp)
    · exact h

/-! ### The counters of the Agent (R173, R175) -/

theorem ctrInc_toNat (c : Ctr) : (ctrInc c).toNat = min (c.toNat + 1) 0xFFFFFFFF := by
  have hlt := c.isLt
  unfold ctrInc
  split
  · next h => simp [h]
  · next h =>
    have hne : c.toNat ≠ 0xFFFFFFFF := fun he => h (BitVec.eq_of_toNat_eq he)
    rw [BitVec.toNat_add, Nat.mod_eq_of_lt (by simp; omega)]
    simp
    omega

theorem ctrIncs_toNat {α : Type} (l : List α) (c : Ctr) :
    (l.foldl (fun k _ => ctrInc k) c).toNat = min (c.toNat + l.length) 0xFFFFFFFF := by
  induction l generalizing c with
  | nil =>
    have hlt := c.isLt
    simp
    omega
  | cons a l ih =>
    rw [List.foldl_cons, ih, ctrInc_toNat, List.length_cons]
    omega

/-! ### The effects, counted (R173, R175) -/

/-- The state that the effects of a TRAFFIC_RESET leave, the request counted. -/
def trafficEnded (s : State) : State := dropInbox (deinterleaverTrafficReset (resetBeforeReception (countExecuted s)))

section
variable (s : State)

theorem performTrafficReset_counted : performTrafficReset (countExecuted s) = .ok (trafficEnded s) := rfl

theorem trafficEnded_agent : (trafficEnded s).agent = { s.agent with
    inbox := []
    counters := { s.agent.counters with
      executed := ctrInc s.agent.counters.executed
      droppedByReset := s.agent.inbox.foldl (fun k _ => ctrInc k) s.agent.counters.droppedByReset } } := by
  have ha : (deinterleaverTrafficReset (resetBeforeReception (countExecuted s))).agent = (countExecuted s).agent := by
    simp [resetBeforeReception]
  rw [trafficEnded, dropInbox]
  simp only [dropRefs_frame, State.updAgent_agent, ha]
  rfl

theorem trafficEnded_frame : (trafficEnded s).sched = s.sched ∧ (trafficEnded s).align = s.align ∧
    (trafficEnded s).classifier = s.classifier ∧ (trafficEnded s).policy = s.policy ∧
    (trafficEnded s).routes = s.routes := by
  simp [trafficEnded, resetBeforeReception, countExecuted, countAgent]

theorem trafficEnded_rx : (trafficEnded s).rx.stack = s.rx.stack ∧ (trafficEnded s).rx.mode = s.rx.mode ∧
    (trafficEnded s).rx.counters = s.rx.counters := by
  have h := deinterleaverTrafficReset_rx (resetBeforeReception (countExecuted s))
  rw [resetBeforeReception_rx] at h
  simpa [trafficEnded] using h

theorem trafficEnded_context {c : Cls} (h : rxOpenClass s c = true) :
    ((trafficEnded s).context c).disposition = .discard .reset ∧ ((trafficEnded s).context c).storage = none := by
  have hc : (trafficEnded s).context c =
      (deinterleaverTrafficReset (resetBeforeReception (countExecuted s))).context c := by
    simp [trafficEnded, State.context]
  rw [hc, context_deinterleaverTrafficReset (by rw [rxOpenClass, resetBeforeReception_rx]; exact h)]
  exact ⟨rfl, rfl⟩

/-- The traffic reset up to the ports: framers and class queues (R124, R135). -/
def queuesReset : State :=
  [0, 1, 2, 3, 4, 5].foldl (fun s c => emptyClassQueue c .reset s)
    ([0, 1, 2, 3].foldl (fun s p => framerTrafficReset p s) (countExecuted s))

theorem queuesReset_passes : Passes s (queuesReset s) :=
  (Passes.of_ports rfl).trans ((Passes.foldl Passes.framerTrafficReset _ (countExecuted s)).trans
    (Passes.foldl (Passes.emptyClassQueue .reset) _ _))

theorem queuesReset_receiving {p : PortIx} (h : (s.framer p).receiving = (s.framer p).desc.isSome) :
    ((queuesReset s).framer p).receiving = false := by
  have hp : p ∈ [0, 1, 2, 3] := by fin_cases p <;> simp
  have hr := framersReset_receiving (s := countExecuted s) h [0, 1, 2, 3] (.inl hp)
  exact (Passes.foldl (Passes.emptyClassQueue .reset) [0, 1, 2, 3, 4, 5] _).not_receiving hr

theorem resetBeforeReception_counted : resetBeforeReception (countExecuted s) =
    [0, 1, 2, 3].foldl (fun s p => portTrafficReset p s) (queuesReset s) := rfl

theorem trafficEnded_port (p : PortIx) : (trafficEnded s).port p = ((queuesReset s).port p).cleared := by
  have hp : (trafficEnded s).port p = (resetBeforeReception (countExecuted s)).port p := by
    simp [State.port, trafficEnded]
  rw [hp, resetBeforeReception_counted, port_portsReset]

theorem dropRefs_queues (l : List DescId) (s : State) : (dropRefs l s).store.queues = s.store.queues := by
  rw [dropRefs, State.updStore_store]
  generalize s.store = st
  induction l generalizing st with
  | nil => rfl
  | cons d l ih => exact (ih _).trans (by simp)

theorem dropInbox_queues (s : State) : (dropInbox s).store.queues = s.store.queues := by
  unfold dropInbox
  dsimp only
  rw [dropRefs_queues, State.updAgent_store]

theorem portsReset_queues (l : List PortIx) (s : State) :
    (l.foldl (fun s p => portTrafficReset p s) s).store.queues = s.store.queues := by
  induction l generalizing s with
  | nil => rfl
  | cons p l ih => rw [List.foldl_cons, ih, portTrafficReset_queues]

theorem trafficEnded_queues : (trafficEnded s).store.queues = (queuesReset s).store.queues := by
  rw [trafficEnded, dropInbox_queues, deinterleaverTrafficReset_queues, resetBeforeReception_counted, portsReset_queues]

theorem trafficEnded_il : (trafficEnded s).il = (queuesReset s).il := by
  simp [trafficEnded, resetBeforeReception_counted]

theorem trafficEnded_stack : (trafficEnded s).il.stack = s.il.stack ∧
    (trafficEnded s).agent.inHand = s.agent.inHand := by
  have h := (HandKept.countExecuted s).trans (HandKept.performTrafficReset (countExecuted s))
  rw [performTrafficReset_counted] at h
  exact ⟨h.stack, h.inHand⟩

/-- Every queue is empty, and nothing is held for (R124). -/
theorem trafficEnded_empty {s : State} (h : QueuesAgree s) :
    (∀ c, (trafficEnded s).store.queue c = []) ∧ (trafficEnded s).il.hold = none := by
  obtain ⟨ha, hq⟩ := (h.congr (t := countExecuted s) rfl rfl).framersReset [0, 1, 2, 3] |>.emptyClassQueues
    [0, 1, 2, 3, 4, 5] .reset
  have hempty : ∀ c, (queuesReset s).store.queue c = [] := fun c => hq c (.inl (by fin_cases c <;> simp))
  refine ⟨fun c => ?_, ?_⟩
  · rw [FrameStore.queue, trafficEnded_queues]
    exact hempty c
  · rw [trafficEnded_il]
    exact QueuesAgree.hold_none ha hempty

/-- A descriptor that no holder has is left to the reply (R163). -/
theorem trafficEnded_leaves {d : DescId} {s : State} (hc : ∀ c, (s.context c).storage ≠ some d)
    (hi : d ∉ s.agent.inbox) : LeavesAlone d s (trafficEnded s) := by
  have hr : LeavesAlone d s (resetBeforeReception (countExecuted s)) :=
    (LeavesAlone.countExecuted s).trans (.resetBeforeReception _)
  have hx : (resetBeforeReception (countExecuted s)).rx = s.rx := by
    rw [resetBeforeReception_rx]
    rfl
  have ha : (deinterleaverTrafficReset (resetBeforeReception (countExecuted s))).agent.inbox = s.agent.inbox := by
    simp [resetBeforeReception, countExecuted, countAgent]
  have hd : ∀ c, ((resetBeforeReception (countExecuted s)).context c).storage ≠ some d := fun c => by
    rw [State.context, hx]
    exact hc c
  rw [← ha] at hi
  exact (hr.trans (.deinterleaverTrafficReset hd)).trans (.dropInbox hi)

end

end Sys2Proof.Machine
end

section
/-! The TRAFFIC_RESET that the builder takes (R173, R174): the state at its execution, the drain that it begins, and the
reply that an empty stack lets it build at once. -/

namespace Sys2Proof.Machine

/-! ### The state at the execution (R163, R164) -/

section
variable {q d : DescId} {qs : List DescId} {r : Request} {s : State} {st : FrameStore}

/-- The claim touches its descriptor alone. -/
theorem agentClaim_others {n : Nat} (h : s.store.agentClaim n = some (d, st)) {e : DescId} (he : e ≠ d) :
    st.desc e = s.store.desc e := by
  unfold FrameStore.agentClaim at h
  split at h
  · cases hf : s.store.freeDescs with
    | nil => simp [FrameStore.takeDesc, hf] at h
    | cons k ds =>
      simp only [FrameStore.takeDesc, hf, Option.some.injEq, Prod.mk.injEq] at h
      obtain ⟨rfl, rfl⟩ := h
      rw [FrameStore.desc_updDesc, if_neg he.symm]
      exact FrameStore.desc_updDesc .. |>.trans (if_neg he.symm)
  · cases h

/-- A frame that waits in the inbox and in a class queue has two holders (R119). -/
theorem StoreOk.two_le_refs (hs : StoreOk s) {c : Cls} (hi : q ∈ s.agent.inbox) (hq : q ∈ s.store.queue c) :
    2 ≤ (s.store.desc q).refs := by
  have hqueue : 1 ≤ ∑ c : Cls, (s.store.queue c).count q :=
    Nat.le_trans (List.count_pos_iff.2 hq)
      (Finset.single_le_sum (f := fun c => (s.store.queue c).count q) (fun _ _ => Nat.zero_le _) (Finset.mem_univ c))
  have hinbox := List.count_pos_iff.2 hi
  rw [hs.refs, State.holders]
  omega

/-- A queued frame keeps its state and its class when the request's reference is dropped. -/
theorem desc_atExecution (hs : StoreOk s) (h : RequestTaken q d qs r s)
    (hc : s.store.agentClaim (replyCells r s.agent.replay) = some (d, st)) {e : DescId} {c : Cls}
    (he : e ∈ s.store.queue c) : ((st.dropRef q).desc e).state = (s.store.desc e).state ∧
      ((st.dropRef q).desc e).cls = (s.store.desc e).cls := by
  obtain ⟨hfree, -⟩ := agentClaim_some hc
  have hd : e ≠ d := fun hed => (apart_of_free hs hfree).queued c (hed ▸ he)
  rw [← agentClaim_others hc hd]
  by_cases hq : q = e
  · subst hq
    have hrefs := hs.two_le_refs (by rw [h.inbox]; exact List.mem_cons_self) he
    rw [← agentClaim_others hc hd] at hrefs
    rw [FrameStore.dropRef, FrameStore.settle_of_refs, FrameStore.desc_updDesc_self]
    · exact ⟨rfl, rfl⟩
    · rw [FrameStore.desc_updDesc_self]
      simp
      omega
  · rw [FrameStore.dropRef_desc_of_ne _ _ _ hq]
    exact ⟨rfl, rfl⟩

theorem queuesAgree_atExecution (hs : StoreOk s) (h : RequestTaken q d qs r s)
    (hc : s.store.agentClaim (replyCells r s.agent.replay) = some (d, st)) : QueuesAgree (atExecution q qs st s) := by
  obtain ⟨-, -, -, -, hqueues⟩ := agentClaim_some hc
  have hq : ∀ c, (st.dropRef q).queue c = s.store.queue c := fun c => by
    rw [FrameStore.queue, (FrameStore.dropRef_frame _ _).2, hqueues, FrameStore.queue]
  refine ⟨⟨fun c e he => ?_, fun c => ?_⟩, fun x hx => ?_⟩
  · have he : e ∈ s.store.queue c := hq c ▸ he
    exact (desc_atExecution hs h hc he).2.trans (hs.queued c e he)
  · exact (hq c).symm ▸ hs.queueNodup c
  · obtain ⟨hcomplete, c, hm⟩ := hs.heldReply x hx
    exact ⟨(desc_atExecution hs h hc hm).1.trans hcomplete, c, (hq c).symm ▸ hm⟩

/-- No context and no request has the descriptor claimed. -/
theorem claimed_unheld (hs : StoreOk s) (h : RequestTaken q d qs r s) (hd : d ∈ s.store.freeDescs) :
    (∀ c, (s.context c).storage ≠ some d) ∧ d ∉ qs := by
  refine ⟨fun c hc => ?_, fun hm => ne_of_inbox_of_free hs hd (by rw [h.inbox]; exact List.mem_cons_of_mem q hm) rfl⟩
  have hf := (hs.stored c d hc).1
  rw [(hs.freeList d).1 hd] at hf
  cases hf

end

/-! ### A TRAFFIC_RESET executed (R165, R173) -/

theorem kindOf_of_trafficReset_row {r : Request} (h : r.row = some .trafficReset) : kindOf r.kind = some .trafficReset := by
  unfold Request.row at h
  split at h
  case h_4 =>
    obtain ⟨t, -, ht⟩ := Option.map_eq_some_iff.1 h
    cases t <;> cases ht
  case h_9 => split at h <;> cases h
  case h_10 =>
    split at h
    · cases h
    · split at h <;> cases h
  case h_11 hk => exact hk
  all_goals cases h

theorem recordOutcome_eq (r : Request) (x : Status) (s : State) :
    ∃ l, recordOutcome r x s = s.updAgent fun a => { a with replay := l } := by
  unfold recordOutcome
  split
  · exact ⟨_, rfl⟩
  · exact ⟨s.agent.replay, rfl⟩

/-- The state in which the reply is owed, the effects done and the outcome recorded (R172, R174). -/
def resetOwed (d : DescId) (r : Request) (s : State) : State := oweReply d r (recordOutcome r .ok (trafficEnded s))

theorem execute_of_trafficReset {r : Request} (hk : kindOf r.kind = some .trafficReset) (hp : r.preCheck = .ok)
    (d : DescId) (s : State) : execute d r s = beginDrain (resetOwed d r s) := by
  have hr : ¬ ReadsCounters r := fun ⟨hk', _⟩ => by
    rw [hk] at hk'
    cases hk'
  have ho : performCounted r s = .ok (trafficEnded s) := by
    rw [performCounted_of_other hr, perform_of_passed hp hk]
    rfl
  rw [execute, ho]
  exact if_pos ⟨rfl, hk⟩

/-- What the drain's beginning, and the reply built over an empty stack, leave of the blocks. -/
structure BlocksKept (s t : State) : Prop where
  stack : t.il.stack = s.il.stack
  ports : t.ports = s.ports
  rx : t.rx = s.rx
  sched : t.sched = s.sched
  align : t.align = s.align
  classifier : t.classifier = s.classifier
  policy : t.policy = s.policy
  routes : t.routes = s.routes
  inbox : t.agent.inbox = s.agent.inbox
  inHand : t.agent.inHand = s.agent.inHand
  counters : t.agent.counters = s.agent.counters
  notices : t.agent.notices = s.agent.notices
  address : t.agent.address = s.agent.address

theorem beginDrain_of_stack {s : State} (h : s.il.stack ≠ []) :
    beginDrain s = { s with il := { s.il with drain := true } } := by
  rw [beginDrain, if_neg (by simpa using h)]
  rfl

theorem beginDrain_of_empty {s : State} (h : s.il.stack = []) : beginDrain s = endDrain s := by
  rw [beginDrain, if_pos (by simp [h])]

theorem oweReply_kept (d : DescId) (r : Request) (s : State) :
    BlocksKept s (oweReply d r (recordOutcome r .ok s)) := by
  obtain ⟨l, hl⟩ := recordOutcome_eq r .ok s
  rw [hl]
  constructor <;> rfl

theorem oweReply_store (d : DescId) (r : Request) (s : State) :
    (oweReply d r (recordOutcome r .ok s)).store = s.store ∧ (oweReply d r (recordOutcome r .ok s)).il = s.il ∧
      (oweReply d r (recordOutcome r .ok s)).agent.mgmtClass = s.agent.mgmtClass := by
  obtain ⟨l, hl⟩ := recordOutcome_eq r .ok s
  rw [hl]
  exact ⟨rfl, rfl, rfl⟩

theorem resetOwed_owed (d : DescId) (r : Request) (s : State) :
    (resetOwed d r s).agent.owed = some { desc := d, dest := r.src, tag := r.tag, seq := r.seq } := rfl

theorem beginDrain_kept {r : OwedReply} {s : State} (ho : s.agent.owed = some r) : BlocksKept s (beginDrain s) := by
  by_cases h : s.il.stack = []
  · rw [beginDrain_of_empty h, endDrain_of_owed ho]
    constructor <;> rfl
  · rw [beginDrain_of_stack h]
    constructor <;> rfl

theorem BlocksKept.trans {s t u : State} (a : BlocksKept s t) (b : BlocksKept t u) : BlocksKept s u where
  stack := b.stack.trans a.stack
  ports := b.ports.trans a.ports
  rx := b.rx.trans a.rx
  sched := b.sched.trans a.sched
  align := b.align.trans a.align
  classifier := b.classifier.trans a.classifier
  policy := b.policy.trans a.policy
  routes := b.routes.trans a.routes
  inbox := b.inbox.trans a.inbox
  inHand := b.inHand.trans a.inHand
  counters := b.counters.trans a.counters
  notices := b.notices.trans a.notices
  address := b.address.trans a.address

/-- The reply to a TRAFFIC_RESET stands COMPLETE (R116). -/
theorem resetReplyAdmitted_complete (r : OwedReply) (s : State) :
    ((resetReplyAdmitted r s).desc r.desc).state = .complete := by
  obtain ⟨n, h, hd, -⟩ := s.store.build_desc r.desc (resetReply s r)
  rw [resetReplyAdmitted, FrameStore.admitHead_desc, if_pos rfl, hd, FrameStore.admitted]

section
variable {d : DescId} {r : Request} {x : State}

/-- Over entries on the Preemption Stack the drain begins, and the reply is owed (R41, R174). -/
theorem beginDrain_owes (h : QueuesAgree x) (hne : x.il.stack ≠ []) :
    (beginDrain (resetOwed d r x)).il.drain = true ∧
      (beginDrain (resetOwed d r x)).agent.builder = .executing ∧
      (∀ c, (beginDrain (resetOwed d r x)).store.queue c = []) ∧
      (beginDrain (resetOwed d r x)).il.hold = none ∧
      (beginDrain (resetOwed d r x)).agent.owed = some { desc := d, dest := r.src, tag := r.tag, seq := r.seq } := by
  obtain ⟨hqueues, hhold⟩ := trafficEnded_empty h
  obtain ⟨hstore, hil, -⟩ := oweReply_store d r (trafficEnded x)
  have hs : (resetOwed d r x).il.stack ≠ [] := by
    rw [resetOwed, hil, (trafficEnded_stack x).1]
    exact hne
  rw [beginDrain_of_stack hs]
  refine ⟨rfl, rfl, fun c => ?_, ?_, rfl⟩
  · exact (congrArg (fun st => st.queue c) hstore).trans (hqueues c)
  · exact (congrArg Interleaver.hold hil).trans hhold

/-- The reply that the reset owes (R174). -/
def resetAnswer (d : DescId) (r : Request) : OwedReply := { desc := d, dest := r.src, tag := r.tag, seq := r.seq }

theorem beginDrain_resetOwed_of_empty (he : x.il.stack = []) : beginDrain (resetOwed d r x) = { resetOwed d r x with
    store := resetReplyAdmitted (resetAnswer d r) (resetOwed d r x)
    il := { (resetOwed d r x).il with drain := false, hold := some d }
    agent := { (resetOwed d r x).agent with owed := none, builder := .idle, job := none, lastBuilt := .reply } } := by
  have hs : (resetOwed d r x).il.stack = [] := by
    rw [resetOwed, (oweReply_kept d r _).stack, (trafficEnded_stack x).1, he]
  rw [beginDrain_of_empty hs, endDrain_of_owed (resetOwed_owed d r x)]
  rfl

theorem resetOwed_agent : (resetOwed d r x).agent.mgmtClass = x.agent.mgmtClass ∧
    (resetOwed d r x).agent.address = x.agent.address := by
  rw [resetOwed, (oweReply_store d r _).2.2, (oweReply_kept d r _).address, trafficEnded_agent]
  exact ⟨rfl, rfl⟩

/-- Over an empty stack the reply is admitted and held for at once (R43, R174). -/
theorem beginDrain_replies (h : QueuesAgree x) (he : x.il.stack = []) (hi : x.agent.inHand = none) (s : State) :
    (beginDrain (resetOwed d r x)).il.drain = false ∧ (beginDrain (resetOwed d r x)).il.hold = some d ∧
      Replied d [] s (beginDrain (resetOwed d r x)) ∧
      ∀ c, (beginDrain (resetOwed d r x)).store.queue c = if c = x.agent.mgmtClass then [d] else [] := by
  obtain ⟨hqueues, -⟩ := trafficEnded_empty h
  obtain ⟨hstore, -⟩ := oweReply_store d r (trafficEnded x)
  obtain ⟨hmgmt, -⟩ := resetOwed_agent (d := d) (r := r) (x := x)
  have hkept := oweReply_kept d r (trafficEnded x)
  have hagent := trafficEnded_agent x
  have hqueue : ∀ c, (resetReplyAdmitted (resetAnswer d r) (resetOwed d r x)).queue c =
      if c = x.agent.mgmtClass then [d] else [] := fun c => by
    have hq : (resetOwed d r x).store.queue c = [] := by rw [resetOwed, hstore, hqueues]
    rw [queue_resetReplyAdmitted, hq, hmgmt]
    simp only [eq_comm]
    rfl
  rw [beginDrain_resetOwed_of_empty he]
  refine ⟨rfl, rfl, ⟨resetReplyAdmitted_complete (resetAnswer d r) _, ⟨[], ?_⟩, ?_, ?_, rfl, rfl⟩, hqueue⟩
  · exact (hqueue _).trans (if_pos hmgmt)
  · exact hkept.inbox.trans (by rw [hagent])
  · exact hkept.inHand.trans (by rw [hagent, hi])

/-- The reply is the frame of the spec, when its claim has one cell for itself (R163, R164). -/
theorem frameIs_beginDrain (he : x.il.stack = []) (hl : LeavesAlone d x (trafficEnded x)) (ha : Apart d x)
    (hw : Memory.wf x.store.cells = true) (hn : (x.store.desc d).chain.length = 1) :
    FrameIs d (frameOf r.src x.agent.address r.tag [hiByte r.seq, loByte r.seq, 0x8A, 0x00, 0x00])
      (beginDrain (resetOwed d r x)).store := by
  obtain ⟨-, hdesc, hcells⟩ := hl ha
  obtain ⟨hstore, -⟩ := oweReply_store d r (trafficEnded x)
  obtain ⟨-, haddress⟩ := resetOwed_agent (d := d) (r := r) (x := x)
  have hs : (resetOwed d r x).store = (trafficEnded x).store := hstore
  obtain ⟨-, -, hf⟩ := frameIs_resetReplyAdmitted (r := resetAnswer d r) (s := resetOwed d r x)
    (by rw [hs, hcells]; exact hw) (by rw [hs]; exact (congrArg (fun y => y.chain.length) hdesc).trans hn)
  rw [resetReply_eq, haddress] at hf
  rw [beginDrain_resetOwed_of_empty he]
  exact hf

end

/-- The row of a ready TRAFFIC_RESET (R164, R173). -/
theorem exec_trafficReset {q d : DescId} {qs : List DescId} {r : Request} {s : State} {st : FrameStore}
    (h : RequestReady .trafficReset q d qs r s) (hf : Fresh r s) (hp : r.preCheck = .ok)
    (hc : s.store.agentClaim (replyCells r s.agent.replay) = some (d, st)) :
    exec .trafficReset s = .next (beginDrain (resetOwed d r (atExecution q qs st s))) := by
  have he : exec .trafficReset s = .next (builderChooseJob s) :=
    exec_of_taken h.toRequestTaken (.inr ⟨.trafficReset, h.row, rfl⟩)
  rw [he, builderChooseJob_of_fresh h.toRequestTaken hc hf, execute_of_trafficReset (kindOf_of_trafficReset_row h.row) hp]

theorem replyCells_of_trafficReset {r : Request} {l : List ReplayEntry} (h : r.row = some .trafficReset) :
    replyCells r l = 1 := by
  simp [replyCells, Request.dataLength, kindOf_of_trafficReset_row h, cellsFor, Config.cellBytes]

/-- What the effects leave of a port (R135, R137, R138). -/
theorem trafficEnded_port_reset {s : State} {p : PortIx} (h : (s.framer p).receiving = (s.framer p).desc.isSome) :
    ((trafficEnded s).port p).delivery = [] ∧ ((trafficEnded s).port p).sending = none ∧
      ((trafficEnded s).port p).markPending = false ∧ ((trafficEnded s).port p).displaced = none ∧
      ((s.framer p).receiving = true →
        ((trafficEnded s).framer p).state = .discard ∧ ((trafficEnded s).framer p).desc = none) ∧
      ((trafficEnded s).port p).config = (s.port p).config := by
  have hpass := queuesReset_passes s
  have hfreed := fun hr => hpass.freed_of_receiving hr (queuesReset_receiving s h)
  have hframer : (trafficEnded s).framer p = ((queuesReset s).port p).cleared.framer :=
    congrArg Port.framer (trafficEnded_port s p)
  rw [hframer, trafficEnded_port s p]
  generalize queuesReset s = u at hpass hfreed
  refine ⟨rfl, rfl, rfl, rfl, fun hr => ?_, (hpass p).config⟩
  have hf : (u.port p).cleared.framer = (s.framer p).freed .discard := hfreed hr
  rw [hf]
  exact ⟨rfl, rfl⟩

/-- At its execution a TRAFFIC_RESET finds the queues in agreement, and for its reply a claim of one cell that its effects
leave alone. -/
theorem trafficReset_atExecution {q d : DescId} {qs : List DescId} {r : Request} {s : State} {st : FrameStore}
    (hs : StoreOk s) (h : RequestReady .trafficReset q d qs r s)
    (hc : s.store.agentClaim (replyCells r s.agent.replay) = some (d, st)) :
    QueuesAgree (atExecution q qs st s) ∧ Apart d (atExecution q qs st s) ∧
      LeavesAlone d (atExecution q qs st s) (trafficEnded (atExecution q qs st s)) ∧
      ((atExecution q qs st s).store.desc d).chain.length = 1 ∧
      (atExecution q qs st s).store.cells = s.store.cells := by
  have ht := h.toRequestTaken
  obtain ⟨hfree, -⟩ := agentClaim_some hc
  obtain ⟨hunstored, hunasked⟩ := claimed_unheld hs ht hfree
  obtain ⟨hapart, -, hlength, hcells⟩ := atExecution_claimed ht hs hc
  exact ⟨queuesAgree_atExecution hs ht hc, hapart, trafficEnded_leaves hunstored hunasked,
    hlength.trans (replyCells_of_trafficReset h.row), hcells⟩

theorem resetOwed_kept (d : DescId) (r : Request) (s : State) :
    BlocksKept (trafficEnded s) (beginDrain (resetOwed d r s)) :=
  (oweReply_kept d r _).trans (beginDrain_kept (resetOwed_owed d r s))

/-- Settles O52: the effects part by part (`trafficEnded_agent`, `trafficEnded_port_reset`, `trafficEnded_context`,
`trafficEnded_empty`), and the reply written into a claim that they leave alone (`trafficEnded_leaves`). -/
theorem trafficResetEmptiesTheDevice : Obligations.TrafficResetEmptiesTheDevice := by
  intro q d qs r s hs hready hfresh hp
  obtain ⟨st, hc⟩ := hready.toRequestTaken.agentClaim
  obtain ⟨hagree, hapart, hleaves, hlength, hcells⟩ := trafficReset_atExecution hs hready hc
  have hexec := exec_trafficReset hready hfresh hp hc
  have hframer : ∀ p, (s.framer p).receiving = (s.framer p).desc.isSome := hs.framer
  have howes := beginDrain_owes (d := d) (r := r) hagree
  have hreplies := beginDrain_replies (d := d) (r := r) hagree
  have hwritten := frameIs_beginDrain (r := r) (d := d) (x := atExecution q qs st s)
  have hkept := resetOwed_kept d r (atExecution q qs st s)
  have hagent := trafficEnded_agent (atExecution q qs st s)
  obtain ⟨hsched, halign, hclassifier, hpolicy, hroutes⟩ := trafficEnded_frame (atExecution q qs st s)
  obtain ⟨hrxStack, hrxMode, hrxCounters⟩ := trafficEnded_rx (atExecution q qs st s)
  obtain ⟨hstack, -⟩ := trafficEnded_stack (atExecution q qs st s)
  have hports := fun p => trafficEnded_port_reset (s := atExecution q qs st s) (hframer p)
  have hcontexts := fun c => trafficEnded_context (atExecution q qs st s) (c := c)
  generalize trafficEnded (atExecution q qs st s) = u at *
  generalize beginDrain (resetOwed d r (atExecution q qs st s)) = t at *
  have hport : ∀ p, t.port p = u.port p := fun p => by rw [State.port, State.port, hkept.ports]
  have hcontext : ∀ c, t.context c = u.context c := fun c => by rw [State.context, State.context, hkept.rx]
  refine ⟨t, hexec, hkept.stack.trans hstack, hkept.inbox.trans (congrArg Agent.inbox hagent),
    hkept.inHand.trans (congrArg Agent.inHand hagent),
    ⟨_, ctrIncs_toNat qs _, hkept.counters.trans (congrArg Agent.counters hagent)⟩, fun p => ?_,
    hkept.rx ▸ hrxStack, hkept.rx ▸ hrxMode, hkept.rx ▸ hrxCounters, fun c hc => ?_, hkept.sched.trans hsched,
    hkept.align.trans halign, hkept.classifier.trans hclassifier, hkept.policy.trans hpolicy,
    hkept.routes.trans hroutes, by rw [hkept.notices, hagent]; rfl, by rw [hkept.address, hagent]; rfl, fun hne => ?_,
    fun hne => ?_, fun he => ?_⟩
  · have hf : t.framer p = u.framer p := congrArg Port.framer (hport p)
    rw [hf, hport]
    exact hports p
  · rw [hcontext]
    exact hcontexts c hc
  · obtain ⟨hdrain, hbuilder, hqueues, hhold, -⟩ := howes hne
    exact ⟨hdrain, hbuilder, hqueues, hhold⟩
  · obtain ⟨-, -, -, -, howed⟩ := howes hne
    exact howed
  · obtain ⟨hdrain, hhold, hreplied, hqueue⟩ := hreplies he rfl s
    exact ⟨hdrain, hhold, hreplied, hqueue, fun hm => hwritten he hleaves hapart (hcells ▸ hm) hlength⟩

end Sys2Proof.Machine
end

section
/-! Every step keeps the Window Schedule well (R49 to R52, R60, R63): the requests change the standby bank only while no
commit is pending, and a commit becomes pending only over a valid standby bank. -/

namespace Sys2Proof.Machine

/-! ### What a request does to the schedule -/

theorem scheduleOk_blocksReset (held : Bool) (k : BitVec 4) (l : List Instr) (n : Nat) :
    ScheduleOk (State.blocksReset held k l n) :=
  scheduleOk_reset.congr rfl

namespace ScheduleOk
variable {s : State}

theorem performCommit (h : ScheduleOk s) : ScheduleOk (performCommit s).state := by
  unfold Machine.performCommit
  split
  · exact h
  · split
    · next hv =>
      obtain ⟨hactive, hcounter, hwindow, -, hwrap⟩ := h
      exact ⟨hactive, hcounter, hwindow, fun _ => hv, hwrap⟩
    · exact h

theorem performAbandon (h : ScheduleOk s) : ScheduleOk (performAbandon s).state := by
  unfold Machine.performAbandon
  split
  · obtain ⟨hactive, hcounter, hwindow, -, hwrap⟩ := h
    exact ⟨hactive, hcounter, hwindow, nofun, hwrap⟩
  · exact h

/-- A standby bank written while no commit is pending is no part of what is kept (R58, R63). -/
theorem setStandby (h : ScheduleOk s) (hc : s.sched.commit = .idle) (k : Bank) :
    ScheduleOk (s.updSched (Schedule.setStandby k)) := by
  obtain ⟨hactive, hcounter, hwindow, -, hwrap⟩ := h
  unfold ScheduleOk
  simp only [State.updSched_sched, Schedule.setStandby_frame, hc]
  exact ⟨hactive, hcounter, hwindow, nofun, hwrap⟩

theorem performWriteStandby (h : ScheduleOk s) (r : Request) : ScheduleOk (performWriteStandby r s).state := by
  unfold Machine.performWriteStandby
  split
  · exact h
  · next hc =>
    split
    · exact h
    · exact h.setStandby hc _

theorem performWrite (h : ScheduleOk s) (t : TableId) (r : Request) : ScheduleOk (performWrite t r s).state := by
  cases t with
  | scheduleStandby => exact h.performWriteStandby r
  | classify => exact h.congr (by simp [Machine.performWrite])
  | portDefault => exact h.congr (by simp [Machine.performWrite])
  | classPolicy => exact h.congr (by simp [Machine.performWrite])
  | route => exact h.congr (by simp [Machine.performWrite])
  | portConfig => exact h.congr (by simp [Machine.performWrite])
  | scheduleActive => exact h
  | hits => exact h

theorem performReadCounters (h : ScheduleOk s) (r : Request) : ScheduleOk (performReadCounters r s).state := by
  unfold Machine.performReadCounters
  dsimp only
  split
  · exact h.congrClock (Vector.replicate 6 0) s.sched.openBefore s.sched.slotBegun (by simp [clearCounters])
  · exact h

theorem performKind (h : ScheduleOk s) (k : ReqKind) (r : Request) : ScheduleOk (performKind k r s).state := by
  cases k with
  | query => exact h
  | read => unfold Machine.performKind; dsimp only; split <;> exact h
  | write =>
    unfold Machine.performKind
    dsimp only
    split
    · exact h
    · exact h.performWrite _ r
  | commit => exact h.performCommit
  | abandon => exact h.performAbandon
  | setAlign => exact h.congr (by simp [Machine.performKind])
  | setGlobal => exact h.congr (by simp [Machine.performKind])
  | readCounters => exact h.performReadCounters r
  | flush => exact h.congr (by simp [Machine.performKind])
  | trafficReset => exact h.congr (by simp [Machine.performKind])

theorem perform (h : ScheduleOk s) (r : Request) : ScheduleOk (perform r s).state := by
  unfold Machine.perform
  split
  · exact h.performKind _ r
  · exact h
  · exact h

/-! ### The builder's turns -/

theorem serve (h : ScheduleOk s) (d : DescId) (r : Request) : ScheduleOk (serve d r s) :=
  serve_keeps (fun _ h => h.congr (by simp)) (fun _ _ _ _ h => h.congr (by simp)) (fun _ h => h.congr rfl)
    (fun _ h => h.congr (by simp)) (fun r _ h => h.perform r) (fun _ _ _ h => h.congr (by simp))
    (fun _ _ _ h => h.congr (by simp)) (fun _ _ _ _ _ _ _ h => h.congr (by simp)) d r s h

theorem claimReply (h : ScheduleOk s) : ScheduleOk (claimReply s) :=
  claimReply_keeps (fun _ h => h.congr (by simp)) (fun _ _ h => h.congr rfl) (fun d r _ h => h.serve d r) s h

theorem builderChooseJob (h : ScheduleOk s) : ScheduleOk (builderChooseJob s) :=
  builderChooseJob_keeps (fun _ h => h.congr (by simp)) (fun _ h => h.congr (by simp)) (fun _ h => h.congr (by simp))
    (fun _ h => h.claimReply) s h

theorem storeClaimGranted (h : ScheduleOk s) : ScheduleOk (storeClaimGranted s) :=
  storeClaimGranted_keeps (fun _ h => h.congr (by simp)) (fun _ h => h.claimReply) s h

end ScheduleOk

/-! ### Every step keeps the schedule well -/

theorem scheduleOk_kept : Kept ScheduleOk where
  reset := scheduleOk_blocksReset
  raise _ _ h := h.raise
  setDraws _ _ h := h.congr rfl
  beginSlot _ h := h.beginSlot
  missedCheck _ h := h.congr (by simp)
  decideSlot _ h := h.decideSlot
  endDrain _ _ _ h := h.congr (by simp)
  trunkDown _ h := h.congr (by simp)
  trunkUp _ h := h.congr (by simp)
  tributaryDown _ _ h := h.congr (by simp)
  tributaryUp _ _ h := h.congr (by simp)
  symbolReceived _ s h := trunkDecoded_keeps (fun _ _ h => h.congr rfl) (fun _ h => h.congr (by simp))
    (fun _ h => h.congr (by simp)) s h
  undecodable s h := trunkDecoded_keeps (fun _ _ h => h.congr rfl) (fun _ h => h.congr (by simp))
    (fun _ h => h.congr (by simp)) s h
  trunkFailed s h := trunkFailed_keeps (fun _ _ h => h.congr rfl) (fun _ h => h.congr (by simp))
    (fun _ h => h.congr (by simp)) (fun _ _ h => h.raiseAll) s h
  mark s h := trunkDecoded_keeps (fun _ _ h => h.congr rfl) (fun _ h => h.congr (by simp))
    (fun s h => (h.congr (t := rxSymbol .mark s) (by simp)).markArrives) s h
  tribDecoded _ _ _ h := h.congr (by simp)
  tribFailed _ _ h := h.congr (by simp)
  tribTxSlot _ _ h := h.congr (by simp)
  builderChooseJob _ h := h.builderChooseJob
  storeClaimGranted _ h := h.storeClaimGranted

/-- Settles O54: slots, boundaries and restarts keep the schedule well (`ScheduleOk.beginSlot`, `scheduleOk_boundary`), and
so do the requests (`ScheduleOk.perform`); nothing else changes it. -/
theorem scheduleIsKept : Obligations.ScheduleIsKept :=
  fun s t h e => scheduleOk_kept.step (fun _ _ h => h.congr rfl) s t h e

end Sys2Proof.Machine
end

section
/-! Marks (R54 to R56, R74 to R80, R84): the classes of a mark in LOCKED, the accepted mark's restart, and the mark that
begins its slot. -/

namespace Sys2Proof.Machine

/-! ### A MARK reaches the Alignment Unit -/

/-- The Deinterleaver passes a MARK over (R7). -/
theorem rxSymbol_mark (s : State) : rxSymbol .mark s = s := by
  cases hm : s.rx.mode with
  | resync => rw [rxSymbol_resync hm, rxInResync_passed fun c => by simp]
  | normal => exact (rxSymbol_normal hm _).trans (rxInNormal_legal rfl)

theorem exec_rxMark_of_up {s : State} (h : TrunkUp s) : exec .rxMark s = .next (heard (markArrives s)) := by
  obtain ⟨hr, hu⟩ := h
  simp only [exec, execRxMark, whenRunning, hr, trunkDecoded_of_up hu, rxSymbol_mark]
  rfl

theorem markArrives_of_free {s : State} (h : s.align.state = .free) : markArrives s = s := if_pos h

theorem markArrives_of_begun {s : State} (h : s.align.state ≠ .free) (hb : s.sched.slotBegun = true) :
    markArrives s = raiseAll (markRaises s) (takeMark s) := by
  rw [markArrives, if_neg h, beginSlot_of_begun hb, beginRaises_of_begun hb, List.nil_append]

theorem heard_raiseAll (es : List Notice) (s : State) : heard (raiseAll es s) = raiseAll es (heard s) := by
  have each : ∀ (es : List Notice) (s : State), heard (raiseEach es s) = raiseEach es (heard s) := fun es => by
    induction es with
    | nil => exact fun _ => rfl
    | cons e es ih => exact fun s => ih (raise e s)
  exact each _ _

/-! ### The accepted mark (R76 to R79) -/

/-- The mark is accepted and counted by f: LOCKED, no misses, nothing expected. -/
def markTaken (f : AlignCounters → AlignCounters) (s : State) : State :=
  countMark f (s.updAlign Align.accepted)

theorem markTaken_eq (f : AlignCounters → AlignCounters) (s : State) : markTaken f s = { s with align := { s.align with
    state := .locked, miss := 0, expect := false, counters := f s.align.counters } } := rfl

/-- What a restart with a boundary leaves of the state in which a mark has been accepted (R54, R56). -/
theorem restartWithBoundary_markTaken {s : State} (h : s.sched.slotByWrap = false) (f : AlignCounters → AlignCounters) :
    restartWithBoundary (markTaken f s) = { s with
      align := { s.align with state := .locked, miss := 0, expect := false, counters := f s.align.counters }
      sched := { s.sched with
        counter := 0, window := 0, commit := .idle
        active := if s.sched.commit = .pending then s.sched.active.other else s.sched.active }
      ports := mapPorts Port.markBoundary s.ports } := by
  have hw : (markTaken f s).sched.slotByWrap = false := h
  have hs : s.sched = { s.sched with slotByWrap := false } := by rw [← h]
  rw [restartWithBoundary, hw, if_neg (by simp), boundary_eq, boundary_sched]
  conv_rhs => rw [hs]
  rfl

/-- In a slot at 0 by the wrap the restart joins the wrap's boundary (R54). -/
theorem restartWithBoundary_of_wrap {s : State} (h : s.sched.slotByWrap = true) : restartWithBoundary s = s := if_pos h

theorem boundaryRaises_eq (s : State) : boundaryRaises s =
    if s.sched.commit = .pending then [.commitDone s.sched.active.other] else [] := by
  rw [boundaryRaises]
  cases s.sched.commit <;> rfl

theorem restartRaises_of_wrap {s : State} (h : s.sched.slotByWrap = true) : restartRaises s = [] := if_pos h

theorem restartRaises_of_value {s : State} (h : s.sched.slotByWrap = false) : restartRaises s =
    if s.sched.commit = .pending then [.commitDone s.sched.active.other] else [] := by
  rw [restartRaises, h, if_neg (by simp), boundaryRaises_eq]

/-! ### The miss (R80, R84) -/

theorem takeMiss_of_lt {s : State} (h : s.align.miss + 1 < 4) :
    takeMiss s = { s with align := { s.align with miss := s.align.miss + 1 } } :=
  if_neg (Nat.not_le.2 h)

theorem takeMiss_of_fourth {s : State} (h : s.align.miss = 3) :
    takeMiss s = { s with align := { s.align with state := .holdover, miss := 4, expect := false } } := by
  have hm : Config.missLimit ≤ s.align.miss + 1 := by rw [h]; decide
  exact (if_pos hm).trans (by simp [State.updAlign, h])

theorem missRaises_of_lt {s : State} (h : s.align.miss + 1 < 4) : missRaises s = [] := if_neg (Nat.not_le.2 h)

theorem missRaises_of_fourth {s : State} (h : s.align.miss = 3) : missRaises s = [.alignLost] := if_pos (by rw [h]; decide)

/-! ### A mark in LOCKED, by its class (R75) -/

section
variable {s : State}

theorem markClass_onTime (h : s.sched.counter = 0) (hw : s.sched.slotByWrap = true) : markClass s = .onTime :=
  if_pos ⟨h, hw⟩

theorem markClass_early (h : s.sched.activeBank.length - s.align.width ≤ s.sched.counter)
    (hw : s.sched.slotByWrap = false) : markClass s = .early := by
  simp [markClass, hw, h]

theorem markClass_late (h : s.sched.counter < s.sched.activeBank.length - s.align.width) (h1 : 1 ≤ s.sched.counter)
    (h2 : s.sched.counter ≤ s.align.width) (he : s.align.expect = true) : markClass s = .late := by
  have h0 : s.sched.counter ≠ 0 := Nat.one_le_iff_ne_zero.1 h1
  simp [markClass, h0, Nat.not_le.2 h, h1, h2, he]

theorem markClass_misaligned (h : s.sched.counter < s.sched.activeBank.length - s.align.width)
    (hm : (s.sched.counter = 0 ∧ s.sched.slotByWrap = false) ∨ s.align.width < s.sched.counter ∨
      (1 ≤ s.sched.counter ∧ s.align.expect = false)) : markClass s = .misaligned := by
  have htime : ¬ (s.sched.counter = 0 ∧ s.sched.slotByWrap = true) := by
    rintro ⟨h0, hw⟩
    rcases hm with ⟨-, hn⟩ | hn | ⟨hn, -⟩
    · rw [hw] at hn; cases hn
    · omega
    · omega
  have hlate : ¬ (1 ≤ s.sched.counter ∧ s.sched.counter ≤ s.align.width ∧ s.align.expect = true) := by
    rintro ⟨h1, h2, he⟩
    rcases hm with ⟨hn, -⟩ | hn | ⟨-, hn⟩
    · omega
    · omega
    · rw [he] at hn; cases hn
  simp [markClass, htime, Nat.not_le.2 h, hlate]

variable (hl : s.align.state = .locked)
include hl

theorem takeMark_of_locked : takeMark s = markLocked s := by rw [takeMark, hl]

theorem markRaises_of_locked : markRaises s = markLockedRaises s := by rw [markRaises, hl]

/-- A mark of class k in LOCKED, in the slot that has begun. -/
theorem exec_rxMark_of_locked (hu : TrunkUp s) (hb : s.sched.slotBegun = true) :
    exec .rxMark s = .next (raiseAll (markLockedRaises s) (heard (markLocked s))) := by
  rw [exec_rxMark_of_up hu, markArrives_of_begun (by rw [hl]; nofun) hb, heard_raiseAll, takeMark_of_locked hl,
    markRaises_of_locked hl]

end

theorem markLocked_of_onTime {s : State} (h : markClass s = .onTime) :
    markLocked s = markTaken (fun k => { k with onTime := ctrInc k.onTime }) s := by
  rw [markLocked, h]; rfl

theorem markLocked_of_early {s : State} (h : markClass s = .early) :
    markLocked s = restartWithBoundary (markTaken (fun k => { k with early := ctrInc k.early }) s) := by
  rw [markLocked, h]; rfl

theorem markLocked_of_late {s : State} (h : markClass s = .late) :
    markLocked s = restartWithoutBoundary (markTaken (fun k => { k with late := ctrInc k.late }) s) := by
  rw [markLocked, h]; rfl

theorem markLocked_of_misaligned {s : State} (h : markClass s = .misaligned) :
    markLocked s = takeMiss (countMark (fun k => { k with misaligned := ctrInc k.misaligned }) s) := by
  rw [markLocked, h]

/-- Settles O17: the mark's class by the counter value (`markClass_onTime` and its three siblings), and the state of each
class. -/
theorem markInLockIsClassified : Obligations.MarkInLockIsClassified := by
  intro s hu hb hl
  refine ⟨fun h0 hw => ?_, fun hw he => ?_, fun hlt h1 h2 he => ?_, fun hlt hm => ?_⟩
  · have hk := markClass_onTime h0 hw
    rw [exec_rxMark_of_locked hl hu hb, markLocked_of_onTime hk, markLockedRaises, hk, markTaken_eq, ← hl]
    rfl
  · have hk := markClass_early he hw
    rw [exec_rxMark_of_locked hl hu hb, markLocked_of_early hk, markLockedRaises, hk, restartWithBoundary_markTaken hw,
      ← hl]
    dsimp only
    rw [restartRaises_of_value hw]
    split <;> rfl
  · have hk := markClass_late hlt h1 h2 he
    rw [exec_rxMark_of_locked hl hu hb, markLocked_of_late hk, markLockedRaises, hk, markTaken_eq, ← hl]
    rfl
  · have hk := markClass_misaligned hlt hm
    rw [exec_rxMark_of_locked hl hu hb, markLocked_of_misaligned hk, markLockedRaises, hk]
    refine ⟨fun h => ?_, fun h => ?_⟩
    · rw [takeMiss_of_lt (by exact h), missRaises_of_lt h]
      rfl
    · rw [takeMiss_of_fourth (by exact h), missRaises_of_fourth h]
      rfl

/-! ### A mark in SEEKING or HOLDOVER (R76) -/

/-- What the first mark after a loss raises (R84). -/
def regainRaises (s : State) : List Notice := if s.align.state = .holdover then [.alignRegained] else []

theorem takeMark_of_unlocked {s : State} (h : s.align.state = .seeking ∨ s.align.state = .holdover) :
    takeMark s = restartWithBoundary (markTaken (fun k => { k with acquired := ctrInc k.acquired }) s) := by
  rcases h with h | h <;> rw [takeMark, h] <;> rfl

theorem markRaises_of_unlocked {s : State} (h : s.align.state = .seeking ∨ s.align.state = .holdover) :
    markRaises s = regainRaises s ++ restartRaises s := by
  rcases h with h | h <;> rw [markRaises, regainRaises, h] <;> rfl

/-- In a slot at 0 by the wrap no accepted mark raises anything but the regain. -/
theorem markRaises_of_wrap {s : State} (h0 : s.sched.counter = 0) (hw : s.sched.slotByWrap = true) :
    markRaises s = regainRaises s := by
  rw [markRaises, regainRaises]
  cases hs : s.align.state with
  | free => rfl
  | seeking => exact restartRaises_of_wrap hw
  | locked =>
    dsimp only
    rw [markLockedRaises, markClass_onTime h0 hw]
    rfl
  | holdover => exact congrArg (.alignRegained :: ·) (restartRaises_of_wrap hw)

/-! ### The mark that begins its slot -/

theorem beginSlot_align_state (s : State) : (beginSlot s).align.state = s.align.state ∧
    (beginSlot s).align.counters = s.align.counters ∧ (beginSlot s).align.mode = s.align.mode ∧
    (beginSlot s).align.width = s.align.width := by
  rcases hb : s.sched.slotBegun with _ | _
  · rcases hw : wrapsNext s with _ | _
    · rw [beginSlot_of_advance hb hw]
      exact ⟨rfl, rfl, rfl, rfl⟩
    · rw [beginSlot_of_wrap hb hw, boundary_eq]
      exact ⟨rfl, rfl, rfl, rfl⟩
  · rw [beginSlot_of_begun hb]
    exact ⟨rfl, rfl, rfl, rfl⟩

theorem TrunkUp.beginSlot {s : State} (h : TrunkUp s) : TrunkUp (beginSlot s) := by simpa [TrunkUp] using h

/-- A mark in the slot that it begins is a mark in the slot begun, but for the raise of the wrap (R54). -/
theorem markArrives_beginSlot {s : State} (h : s.align.state ≠ .free) (he : beginRaises s = []) :
    markArrives s = markArrives (beginSlot s) := by
  have hs : (beginSlot s).align.state ≠ .free := by rwa [(beginSlot_align_state s).1]
  rw [markArrives_of_begun hs (beginSlot_slotBegun s), markArrives, if_neg h, he, List.nil_append]

theorem beginRaises_eq_nil {s : State} (h : s.sched.slotBegun = true ∨
    s.sched.counter + 1 < s.sched.activeBank.length ∨ s.sched.commit = .idle) : beginRaises s = [] := by
  rcases hb : s.sched.slotBegun with _ | _
  · rcases hw : wrapsNext s with _ | _
    · exact beginRaises_of_advance hb hw
    · rw [beginRaises_of_wrap hb hw, if_neg]
      rcases h with h | h | h
      · rw [hb] at h; cases h
      · rw [wrapsNext_of_lt h] at hw; cases hw
      · rw [h]; nofun
  · exact beginRaises_of_begun hb

/-- The slot that begins by the wrap holds 0 (R49, R54). -/
theorem beginSlot_wrapped {s : State} (hb : s.sched.slotBegun = false) (hw : wrapsNext s = true) :
    (beginSlot s).sched.counter = 0 ∧ (beginSlot s).sched.slotByWrap = true := by
  rw [beginSlot_of_wrap hb hw, boundary_sched]
  exact ⟨rfl, rfl⟩

/-- Settles O18: the mark of the slot that has begun by `takeMark_of_unlocked`, and the mark that begins its slot by
`markArrives_beginSlot`, where a wrap's COMMIT_DONE joins its raises. -/
theorem markOutOfLockIsAccepted : Obligations.MarkOutOfLockIsAccepted := by
  refine ⟨fun s hu hb hs => ?_, fun s hu => ⟨fun hf => ?_, fun hf => ⟨fun hb hw hc => ?_, fun hn => ?_⟩⟩⟩
  · have hf : s.align.state ≠ .free := by rcases hs with hs | hs <;> rw [hs] <;> nofun
    have hexec : exec .rxMark s = .next (heard (raiseAll (regainRaises s ++ restartRaises s) (restartWithBoundary
        (markTaken (fun k => { k with acquired := ctrInc k.acquired }) s)))) := by
      rw [exec_rxMark_of_up hu, markArrives_of_begun hf hb, takeMark_of_unlocked hs, markRaises_of_unlocked hs]
    refine ⟨fun hw => ?_, fun hw => ?_⟩
    · rw [hexec, restartWithBoundary_markTaken hw, restartRaises_of_value hw]
      rfl
    · rw [hexec, restartWithBoundary_of_wrap (s := markTaken _ s) hw, restartRaises_of_wrap hw, List.append_nil]
      rfl
  · rw [exec_rxMark_of_up hu, markArrives_of_free hf]
  · have hw := wrapsNext_iff.2 hw
    obtain ⟨h0, hwrap⟩ := beginSlot_wrapped hb hw
    obtain ⟨hstate, hcounters, -⟩ := beginSlot_align_state s
    have hfb : (beginSlot s).align.state ≠ .free := by rwa [hstate]
    have hexec : exec .rxMark s = .next (heard (raiseAll (.commitDone s.sched.active.other :: regainRaises (beginSlot s))
        (takeMark (beginSlot s)))) := by
      rw [exec_rxMark_of_up hu, markArrives, if_neg hf, beginRaises_of_wrap hb hw, if_pos hc, markRaises_of_wrap h0 hwrap]
      rfl
    refine ⟨fun hh => ⟨heard (takeMark (beginSlot s)), ?_, ?_⟩, fun hh => ?_⟩
    · rw [exec_rxMark_of_up hu.beginSlot, markArrives_of_begun hfb (beginSlot_slotBegun s), markRaises_of_wrap h0 hwrap,
        regainRaises, hstate, if_neg hh, raiseAll_nil]
    · rw [hexec, regainRaises, hstate, if_neg hh]
      rfl
    · rw [hexec, regainRaises, hstate, if_pos hh, takeMark_of_unlocked (.inr (hstate.trans hh)),
        restartWithBoundary_of_wrap (s := markTaken _ _) hwrap, markTaken_eq, hcounters]
  · rw [exec_rxMark_of_up hu, exec_rxMark_of_up hu.beginSlot, markArrives_beginSlot hf (beginRaises_eq_nil hn)]

end Sys2Proof.Machine
end

section
/-! What a request answers (R165, R183, R184): the checks 1 to 5, and for each kind the status of check 6 with its condition;
a refusal leaves the state and carries no data. -/

namespace Sys2Proof.Machine

/-! ### The checks 1 to 5 (R165, R183) -/

section
variable {r : Request} {k : ReqKind} {t : TableId}

theorem preCheck_of_unknown (h : kindOf r.kind = none) : r.preCheck = .badKind := by simp [Request.preCheck, h]

theorem preCheck_of_unknown_table (hk : kindOf r.kind = some k) (hu : k.usesTable = true) (ht : tableOf r.table = none) :
    r.preCheck = .badTable := by
  simp [Request.preCheck, hk, hu, ht]

theorem preCheck_of_table (hk : kindOf r.kind = some k) (hu : k.usesTable = true) (ht : tableOf r.table = some t) :
    r.preCheck = r.laterChecks k t := by
  simp [Request.preCheck, hk, hu, ht]

theorem preCheck_of_no_table (hk : kindOf r.kind = some k) (hu : k.usesTable = false) :
    r.preCheck = if r.len - 6 = r.requiredLength k .classify then .ok else .badLength := by
  have hw : k ≠ .write := by rintro rfl; cases hu
  simp [Request.preCheck, Request.laterChecks, hk, hu, hw]

/-- A READ or a WRITE that passes its checks names a table. -/
theorem table_of_passed (hk : kindOf r.kind = some k) (hu : k.usesTable = true) (hp : r.preCheck = .ok) :
    ∃ t, tableOf r.table = some t := by
  cases ht : tableOf r.table with
  | none =>
    rw [preCheck_of_unknown_table hk hu ht] at hp
    cases hp
  | some t => exact ⟨t, rfl⟩

theorem laterChecks_of_length (h : r.len - 6 ≠ r.requiredLength k t) : r.laterChecks k t = .badLength := if_pos h

theorem laterChecks_of_index (h : r.len - 6 = r.requiredLength k t) (hu : k.usesTable = true)
    (hi : r.count = 0 ∨ t.entries < r.index + r.count) : r.laterChecks k t = .badIndex := by
  have hn : ¬ (1 ≤ r.count ∧ r.index + r.count ≤ t.entries) := by omega
  rw [Request.laterChecks, if_neg (not_not.2 h), if_pos]
  rw [hu, ← Bool.decide_and, decide_eq_false hn]
  rfl

theorem laterChecks_of_range (h : r.len - 6 = r.requiredLength k t) (h1 : 1 ≤ r.count)
    (hi : r.index + r.count ≤ t.entries) :
    r.laterChecks k t = if k = .write ∧ t.readOnly = true then .readOnly else .ok := by
  simp [Request.laterChecks, h, h1, hi]

end

theorem usesTable_of_table {k : ReqKind} (h : k = .read ∨ k = .write) : k.usesTable = true := by
  rcases h with rfl | rfl <;> rfl

theorem requiredLength_of_table {r : Request} {k : ReqKind} (h : k = .read ∨ k = .write) (t : TableId) :
    r.requiredLength k t = if k = .write then r.count * t.entrySize else 0 := by
  rcases h with rfl | rfl <;> rfl

theorem readOnly_iff (t : TableId) : t.readOnly = true ↔ t = .scheduleActive ∨ t = .hits := by
  cases t <;> simp [TableId.readOnly]

/-! ### The WRITEs of whole entries (R146, R153, R166) -/

theorem entriesAre_iff {α : Type} (r : Request) (size : Nat) (f : Nat → List Byte → Option α) (es : List α) :
    EntriesAre r size f es ↔ decodeEntries r size f r.count = some es :=
  (decodeEntries_eq_some r size f r.count es).symm

/-- A WRITE whose entries all decode takes effect by g, and is refused otherwise. -/
def writeAll {α : Type} (r : Request) (size : Nat) (f : Nat → List Byte → Option α) (g : List α → Done) (s : State) :
    Done :=
  match decodeEntries r size f r.count with
  | none => .refuse .badValue s
  | some es => g es

section
variable {α : Type} {r : Request} {size : Nat} {f : Nat → List Byte → Option α} {g : List α → Done} {s : State}
  {es : List α}

theorem writeAll_of_entries (h : EntriesAre r size f es) : writeAll r size f g s = g es := by
  rw [writeAll, (entriesAre_iff ..).1 h]

theorem writeAll_of_none (h : ¬ ∃ es, EntriesAre r size f es) : writeAll r size f g s = .refuse .badValue s := by
  have hn : decodeEntries r size f r.count = none :=
    Option.eq_none_iff_forall_ne_some.2 fun es he => h ⟨es, (entriesAre_iff ..).2 he⟩
  rw [writeAll, hn]

theorem writeAll_status (hg : ∀ es, (g es).status = .ok) : (writeAll r size f g s).status = .ok ↔
    ∃ es, EntriesAre r size f es := by
  by_cases h : ∃ es, EntriesAre r size f es
  · obtain ⟨es, he⟩ := h
    simp only [writeAll_of_entries he, hg, true_iff]
    exact ⟨es, he⟩
  · simp [writeAll_of_none h, Done.refuse, h]

theorem writeAll_status_cases (hg : ∀ es, (g es).status = .ok) :
    (writeAll r size f g s).status = .ok ∨ (writeAll r size f g s).status = .badValue := by
  by_cases h : ∃ es, EntriesAre r size f es
  · exact .inl ((writeAll_status hg).2 h)
  · exact .inr (by rw [writeAll_of_none h]; rfl)

end

section
variable (r : Request) (s : State)

theorem performWriteClassify_eq : performWriteClassify r s = writeAll r 7 (fun _ bs => classEntryOf bs)
    (fun es => .ok (s.updClassifier fun k => { k with entries := writeFrom k.entries r.index es })) s := by
  unfold performWriteClassify writeAll TableId.entrySize
  cases decodeEntries r 7 (fun _ bs => classEntryOf bs) r.count <;> rfl

theorem performWritePortDefault_eq : performWritePortDefault r s = writeAll r 1 (fun _ bs => actionOf (byteAt bs 0))
    (fun es => .ok (s.updClassifier fun k => { k with defaults := writeFrom k.defaults r.index es })) s := by
  unfold performWritePortDefault writeAll TableId.entrySize
  cases decodeEntries r 1 (fun _ bs => actionOf (byteAt bs 0)) r.count <;> rfl

theorem performWriteClassPolicy_eq : performWriteClassPolicy r s = writeAll r 3 (fun _ bs => classPolicyOf bs)
    (fun es => .ok (s.setPolicy (writeFrom s.policy r.index es))) s := by
  unfold performWriteClassPolicy writeAll TableId.entrySize
  cases decodeEntries r 3 (fun _ bs => classPolicyOf bs) r.count <;> rfl

theorem performWritePortConfig_eq : performWritePortConfig r s = writeAll r 3 (fun _ bs => portConfigOf bs)
    (fun es => .ok (applyConfigs r.index es s)) s := by
  unfold performWritePortConfig writeAll TableId.entrySize
  cases decodeEntries r 3 (fun _ bs => portConfigOf bs) r.count <;> rfl

theorem performWriteRoute_eq : performWriteRoute r s = writeAll r 4 (fun _ bs => routeOf s.agent.address bs)
    (fun es => if (routeAddresses (writeFrom s.routes r.index es)).Nodup then
      .ok (s.setRoutes (writeFrom s.routes r.index es)) else .refuse .duplicate s) s := by
  unfold performWriteRoute writeAll TableId.entrySize
  cases decodeEntries r 4 (fun _ bs => routeOf s.agent.address bs) r.count <;> rfl

theorem performWriteStandby_of_pending (h : s.sched.commit = .pending) :
    performWriteStandby r s = .refuse .pending s := by
  rw [performWriteStandby, h]

theorem performWriteStandby_of_idle (h : s.sched.commit = .idle) : performWriteStandby r s =
    writeAll r 4 (fun j bs => scheduleEntryOf (r.index + j) bs)
      (fun es => .ok (s.updSched fun k => k.setStandby (k.standbyBank.writeEntries r.index es))) s := by
  unfold performWriteStandby writeAll TableId.entrySize
  rw [h]
  cases decodeEntries r 4 (fun j bs => scheduleEntryOf (r.index + j) bs) r.count <;> rfl

theorem vget_writeFrom_eq_written {α : Type} {n : Nat} (v : Vector α n) (k : Nat) (es : List α) (i : Fin n) :
    vget (writeFrom v k es) i = written k es i.val (vget v i) := vget_writeFrom v k es i

/-- The uniqueness test of a ROUTE write (R154). -/
theorem routeAddresses_writeFrom_nodup (es : List Route) :
    (routeAddresses (writeFrom s.routes r.index es)).Nodup ↔ ¬ SameAddressTwice (routesAfter r es s) := by
  rw [routeAddresses_nodup]
  simp only [SameAddressTwice, routesAfter, vget_writeFrom_eq_written]
  push Not
  rfl

end

/-! ### A refusal has no effect (R165) -/

/-- An answer that is not OK leaves the state s, and carries no data. -/
def RefusesWhole (s : State) (o : Done) : Prop := o.status ≠ .ok → o.state = s ∧ o.data = []

namespace RefusesWhole
variable {s t : State}

theorem refuse (x : Status) (s : State) : RefusesWhole s (.refuse x s) := fun _ => ⟨rfl, rfl⟩

theorem of_ok {o : Done} (h : o.status = .ok) : RefusesWhole s o := fun hn => absurd h hn

theorem writeAll {α : Type} {r : Request} {size : Nat} {f : Nat → List Byte → Option α} {g : List α → Done}
    (hg : ∀ es, RefusesWhole s (g es)) : RefusesWhole s (writeAll r size f g s) := by
  unfold Machine.writeAll
  split
  · exact refuse _ s
  · exact hg _

theorem performWrite (t : TableId) (r : Request) (s : State) : RefusesWhole s (performWrite t r s) := by
  cases t with
  | classify =>
    rw [Machine.performWrite, performWriteClassify_eq]
    exact writeAll fun _ => of_ok rfl
  | portDefault =>
    rw [Machine.performWrite, performWritePortDefault_eq]
    exact writeAll fun _ => of_ok rfl
  | classPolicy =>
    rw [Machine.performWrite, performWriteClassPolicy_eq]
    exact writeAll fun _ => of_ok rfl
  | portConfig =>
    rw [Machine.performWrite, performWritePortConfig_eq]
    exact writeAll fun _ => of_ok rfl
  | route =>
    rw [Machine.performWrite, performWriteRoute_eq]
    refine writeAll fun es => ?_
    split
    · exact of_ok rfl
    · exact refuse _ s
  | scheduleStandby =>
    rw [Machine.performWrite]
    cases hc : s.sched.commit with
    | pending =>
      rw [performWriteStandby_of_pending r s hc]
      exact refuse _ s
    | idle =>
      rw [performWriteStandby_of_idle r s hc]
      exact writeAll fun _ => of_ok rfl
  | scheduleActive => exact refuse _ s
  | hits => exact refuse _ s

theorem performCommit (s : State) : RefusesWhole s (performCommit s) := by
  unfold Machine.performCommit
  split
  · exact refuse _ s
  · split
    · exact of_ok rfl
    · exact refuse _ s

theorem performAbandon (s : State) : RefusesWhole s (performAbandon s) := by
  unfold Machine.performAbandon
  split
  · exact of_ok rfl
  · exact refuse _ s

theorem performSetAlign (r : Request) (s : State) : RefusesWhole s (performSetAlign r s) := by
  unfold Machine.performSetAlign
  dsimp only
  split
  · exact refuse _ s
  · split
    · split
      · exact refuse _ s
      · exact of_ok rfl
    · exact of_ok rfl

theorem performSetGlobal (r : Request) (s : State) : RefusesWhole s (performSetGlobal r s) := by
  unfold Machine.performSetGlobal
  dsimp only
  split
  · exact of_ok rfl
  · exact refuse _ s

theorem performFlush (r : Request) (s : State) : RefusesWhole s (performFlush r s) := by
  unfold Machine.performFlush
  split
  · split
    · exact refuse _ s
    · exact of_ok rfl
  · split
    · split
      · exact refuse _ s
      · exact of_ok rfl
    · exact refuse _ s

theorem performKind (k : ReqKind) (r : Request) (s : State) : RefusesWhole s (performKind k r s) := by
  cases k with
  | query => exact of_ok rfl
  | read =>
    unfold Machine.performKind
    dsimp only
    split
    · exact refuse _ s
    · exact of_ok rfl
  | write =>
    unfold Machine.performKind
    dsimp only
    split
    · exact refuse _ s
    · exact performWrite _ r s
  | commit => exact performCommit s
  | abandon => exact performAbandon s
  | setAlign => exact performSetAlign r s
  | setGlobal => exact performSetGlobal r s
  | readCounters => exact of_ok rfl
  | flush => exact performFlush r s
  | trafficReset => exact of_ok rfl

theorem perform (r : Request) (s : State) : RefusesWhole s (perform r s) := by
  unfold Machine.perform
  split
  · exact performKind _ r s
  · exact refuse _ s
  · exact refuse _ s

end RefusesWhole

/-! ### The status of check 6, kind by kind (R165, R184) -/

section
variable (r : Request) (s : State)

theorem performCommit_status : (performCommit s).status = if s.sched.commit = .pending then .pending
    else if s.sched.standbyBank.valid = true then .ok else .badSchedule := by
  unfold performCommit
  cases s.sched.commit with
  | pending => rfl
  | idle => dsimp only; split <;> rfl

theorem performAbandon_status :
    (performAbandon s).status = if s.sched.commit = .pending then .ok else .notPending := by
  unfold performAbandon
  cases s.sched.commit <;> rfl

theorem alignModeOf_eq (b : Byte) : alignModeOf b = if b = 0x00 then some .free else if b = 0x01 then some .follow
    else none := rfl

/-- A field of a SET_ALIGN that is present has a bad value (R86, R184). -/
def BadAlign (r : Request) : Prop :=
  ((byteAt r.params 0).getLsbD 1 = true ∧ byteAt r.params 2 = 0) ∨
    ((byteAt r.params 0).getLsbD 0 = true ∧ byteAt r.params 1 ≠ 0x00 ∧ byteAt r.params 1 ≠ 0x01)

/-- W as a SET_ALIGN sets it. -/
def Align.setWidth (r : Request) (a : Align) : Align :=
  if (byteAt r.params 0).getLsbD 1 then { a with width := (byteAt r.params 2).toNat } else a

theorem alignWidth_eq : (if (byteAt r.params 0).getLsbD 1 then
      s.updAlign fun a => { a with width := (byteAt r.params 2).toNat } else s) = s.updAlign (Align.setWidth r) := by
  unfold Align.setWidth
  cases (byteAt r.params 0).getLsbD 1 <;> rfl

theorem width_bad_iff : ((byteAt r.params 0).getLsbD 1 && decide ((byteAt r.params 2).toNat = 0)) = true ↔
    (byteAt r.params 0).getLsbD 1 = true ∧ byteAt r.params 2 = 0 := by
  rw [Bool.and_eq_true, decide_eq_true_iff, BitVec.toNat_eq]
  rfl

theorem performSetAlign_of_bad (h : BadAlign r) : performSetAlign r s = .refuse .badValue s := by
  unfold performSetAlign
  dsimp only
  by_cases hw : (byteAt r.params 0).getLsbD 1 = true ∧ byteAt r.params 2 = 0
  · rw [if_pos ((width_bad_iff r).2 hw)]
  · rw [if_neg (mt (width_bad_iff r).1 hw)]
    obtain ⟨hm, h0, h1⟩ := h.resolve_left hw
    rw [if_pos hm, alignModeOf_eq, if_neg h0, if_neg h1]

theorem performSetAlign_of_width (h : ¬ BadAlign r) (hm : (byteAt r.params 0).getLsbD 0 = false) :
    performSetAlign r s = .ok (s.updAlign (Align.setWidth r)) := by
  unfold performSetAlign
  dsimp only
  rw [if_neg (fun hw => h (.inl ((width_bad_iff r).1 hw))), hm, if_neg (by simp), alignWidth_eq]

theorem performSetAlign_of_mode (h : ¬ BadAlign r) (hm : (byteAt r.params 0).getLsbD 0 = true) {m : AlignMode}
    (hv : alignModeOf (byteAt r.params 1) = some m) :
    performSetAlign r s = .ok (s.updAlign fun a => (a.setWidth r).setMode m) := by
  unfold performSetAlign
  dsimp only
  rw [if_neg (fun hw => h (.inl ((width_bad_iff r).1 hw))), if_pos hm, hv, alignWidth_eq]
  rfl

/-- A mode that is present and not bad is FREE or FOLLOW (12.2). -/
theorem alignMode_of_good (h : ¬ BadAlign r) (hm : (byteAt r.params 0).getLsbD 0 = true) :
    (byteAt r.params 1 = 0x00 ∧ alignModeOf (byteAt r.params 1) = some .free) ∨
      (byteAt r.params 1 = 0x01 ∧ alignModeOf (byteAt r.params 1) = some .follow) := by
  by_cases h0 : byteAt r.params 1 = 0x00
  · exact .inl ⟨h0, by rw [h0]; rfl⟩
  · by_cases h1 : byteAt r.params 1 = 0x01
    · exact .inr ⟨h1, by rw [h1]; rfl⟩
    · exact absurd (.inr ⟨hm, h0, h1⟩) h

theorem performSetAlign_of_good (h : ¬ BadAlign r) : (performSetAlign r s).status = .ok := by
  cases hm : (byteAt r.params 0).getLsbD 0 with
  | false =>
    rw [performSetAlign_of_width r s h hm]
    rfl
  | true =>
    rcases alignMode_of_good r h hm with ⟨-, hv⟩ | ⟨-, hv⟩ <;> rw [performSetAlign_of_mode r s h hm hv] <;> rfl

theorem classOf_isNone (b : Byte) : classOf b = none ↔ ¬ b.toNat ≤ 5 := by
  unfold classOf
  split <;> simp <;> omega

theorem portOf_isNone (b : Byte) : portOf b = none ↔ ¬ b.toNat ≤ 3 := by
  unfold portOf
  split <;> simp <;> omega

theorem performFlush_status : (performFlush r s).status =
    if (byteAt r.params 0 = 0x00 ∧ (byteAt r.params 1).toNat ≤ 5) ∨
      (byteAt r.params 0 = 0x01 ∧ (byteAt r.params 1).toNat ≤ 3) then .ok else .badValue := by
  unfold performFlush
  by_cases h0 : byteAt r.params 0 = 0x00
  · rw [if_pos h0]
    cases hc : classOf (byteAt r.params 1) with
    | none => simp [h0, (classOf_isNone _).1 hc, Done.refuse]
    | some c =>
      have hle : (byteAt r.params 1).toNat ≤ 5 := by
        by_contra hn
        rw [(classOf_isNone _).2 hn] at hc
        cases hc
      simp [h0, hle, performFlushClass, Done.ok]
  · rw [if_neg h0]
    by_cases h1 : byteAt r.params 0 = 0x01
    · rw [if_pos h1]
      cases hp : portOf (byteAt r.params 1) with
      | none => simp [h1, (portOf_isNone _).1 hp, Done.refuse]
      | some p =>
        have hle : (byteAt r.params 1).toNat ≤ 3 := by
          by_contra hn
          rw [(portOf_isNone _).2 hn] at hp
          cases hp
        simp [h1, hle, performFlushDelivery, Done.ok]
    · rw [if_neg h1, if_neg fun h => h.elim (fun h => h0 h.1) fun h => h1 h.1]
      rfl

end

/-! #### SET_GLOBAL (R169) -/

theorem globalField_isSome {α : Type} (b : Byte) (v : Option α) :
    (globalField b v).isSome = true ↔ (b = 0x00 ∨ b = 0x01) ∧ (b = 0x01 → v.isSome = true) := by
  rw [globalField, flagOf_eq]
  by_cases h0 : b = 0x00
  · simp [h0]
  · by_cases h1 : b = 0x01
    · simp [h1]
    · rw [if_neg (not_or.2 ⟨h0, h1⟩)]
      exact ⟨nofun, fun h => absurd h.1 (not_or.2 ⟨h0, h1⟩)⟩

theorem when_isSome {α : Type} (x : α) (b : Bool) : (when x b).isSome = true ↔ b = true := by
  cases b <;> simp [when]

theorem classOf_isSome (b : Byte) : (classOf b).isSome = true ↔ b.toNat ≤ 5 := by
  rw [Option.isSome_iff_ne_none, ne_eq, classOf_isNone, not_not]

/-- A mask of two bytes with no bit above the ninth. -/
theorem mask_low_iff (w : BitVec 16) : w &&& 0xFE00 = 0 ↔ w.toNat < 512 := by
  have hmask : w &&& (0xFE00 : BitVec 16) = (w >>> 9) <<< 9 := by
    ext i hi
    interval_cases i <;> simp
  have hlt := w.isLt
  rw [hmask, BitVec.toNat_eq, BitVec.toNat_shiftLeft, BitVec.toNat_ushiftRight, Nat.shiftRight_eq_div_pow,
    Nat.shiftLeft_eq]
  simp
  omega

/-- What a SET_GLOBAL's fields must be, those that are present (R169, R184). -/
def GlobalsGood (r : Request) (s : State) : Prop :=
  (∀ i ∈ [0, 3, 5, 8, 11], byteAt r.params i = 0x00 ∨ byteAt r.params i = 0x01) ∧
    (byteAt r.params 0 = 0x01 → wordAt r.params 1 ≠ 0x0000 ∧ wordAt r.params 1 ≠ 0xFFFF ∧
      routeLookup (wordAt r.params 1) s.routes = none) ∧
    (byteAt r.params 3 = 0x01 → (byteAt r.params 4).toNat ≤ 5) ∧
    (byteAt r.params 8 = 0x01 → 16 ≤ (wordAt r.params 9).toNat) ∧
    (byteAt r.params 11 = 0x01 → (wordAt r.params 12).toNat < 512)

theorem performSetGlobal_status (r : Request) (s : State) :
    ((performSetGlobal r s).status = .ok ↔ GlobalsGood r s) ∧
      ((performSetGlobal r s).status = .ok ∨ (performSetGlobal r s).status = .badValue) := by
  have hfields : GlobalsGood r s ↔
      (globalField (byteAt r.params 0) (when (wordAt r.params 1) (decide (wordAt r.params 1 ≠ 0x0000) &&
        decide (wordAt r.params 1 ≠ 0xFFFF) && (routeLookup (wordAt r.params 1) s.routes).isNone))).isSome = true ∧
      (globalField (byteAt r.params 3) (classOf (byteAt r.params 4))).isSome = true ∧
      (globalField (byteAt r.params 5) (some (wordAt r.params 6))).isSome = true ∧
      (globalField (byteAt r.params 8) (when (wordAt r.params 9).toNat
        (decide (16 ≤ (wordAt r.params 9).toNat)))).isSome = true ∧
      (globalField (byteAt r.params 11) (when ((wordAt r.params 12).setWidth 9)
        (decide (wordAt r.params 12 &&& 0xFE00 = 0)))).isSome = true := by
    simp only [globalField_isSome, when_isSome, classOf_isSome, mask_low_iff, GlobalsGood, Bool.and_eq_true,
      decide_eq_true_iff, Option.isNone_iff_eq_none, Option.isSome_some, List.forall_mem_cons, List.not_mem_nil,
      false_imp_iff, implies_true, and_true, and_assoc]
    exact ⟨fun ⟨h0, h3, h5, h8, h11, g, c, l, m⟩ => ⟨h0, g, h3, c, h5, h8, l, h11, m⟩,
      fun ⟨h0, g, h3, c, h5, h8, l, h11, m⟩ => ⟨h0, h3, h5, h8, h11, g, c, l, m⟩⟩
  rw [hfields, performSetGlobal]
  generalize globalField (byteAt r.params 0) _ = g
  generalize globalField (byteAt r.params 3) _ = c
  generalize globalField (byteAt r.params 5) _ = d
  generalize globalField (byteAt r.params 8) _ = l
  generalize globalField (byteAt r.params 11) _ = m
  rcases g with _ | g
  · simp [Done.refuse]
  rcases c with _ | c
  · simp [Done.refuse]
  rcases d with _ | d
  · simp [Done.refuse]
  rcases l with _ | l
  · simp [Done.refuse]
  rcases m with _ | m
  · simp [Done.refuse]
  · simp [Done.ok]

/-! #### WRITE (R58, R146, R153, R154) -/

section
variable {r : Request} {t : TableId}

theorem perform_of_write (hp : r.preCheck = .ok) (hk : kindOf r.kind = some .write) (ht : tableOf r.table = some t)
    (s : State) : perform r s = performWrite t r s := by
  rw [perform_of_passed hp hk, performKind, ht]

theorem performWriteRoute_status (r : Request) (s : State) :
    ((¬ ∃ es, EntriesAre r 4 (fun _ bs => routeOf s.agent.address bs) es) →
      (performWriteRoute r s).status = .badValue) ∧
    ∀ es, EntriesAre r 4 (fun _ bs => routeOf s.agent.address bs) es →
      (SameAddressTwice (routesAfter r es s) → (performWriteRoute r s).status = .duplicate) ∧
      (¬ SameAddressTwice (routesAfter r es s) → (performWriteRoute r s).status = .ok) := by
  rw [performWriteRoute_eq]
  refine ⟨fun h => by rw [writeAll_of_none h]; rfl, fun es he => ?_⟩
  rw [writeAll_of_entries he]
  refine ⟨fun h => ?_, fun h => ?_⟩
  · rw [if_neg (by rw [routeAddresses_writeFrom_nodup]; exact fun hn => hn h)]
    rfl
  · rw [if_pos ((routeAddresses_writeFrom_nodup r s es).2 h)]
    rfl

theorem performWriteStandby_status (r : Request) (s : State) :
    (s.sched.commit = .pending → (performWriteStandby r s).status = .pending) ∧
    (s.sched.commit = .idle →
      ((performWriteStandby r s).status = .ok ∨ (performWriteStandby r s).status = .badValue) ∧
      ((performWriteStandby r s).status = .ok ↔
        ∃ es, EntriesAre r 4 (fun j bs => scheduleEntryOf (r.index + j) bs) es)) := by
  refine ⟨fun h => by rw [performWriteStandby_of_pending r s h]; rfl, fun h => ?_⟩
  rw [performWriteStandby_of_idle r s h]
  exact ⟨writeAll_status_cases fun _ => rfl, writeAll_status fun _ => rfl⟩

theorem performWrite_status_cases (h : t ∈ [TableId.classify, .portDefault, .classPolicy, .portConfig])
    (r : Request) (s : State) : (performWrite t r s).status = .ok ∨ (performWrite t r s).status = .badValue := by
  simp only [List.mem_cons, List.not_mem_nil, or_false] at h
  rcases h with rfl | rfl | rfl | rfl
  · rw [performWrite, performWriteClassify_eq]
    exact writeAll_status_cases fun _ => rfl
  · rw [performWrite, performWritePortDefault_eq]
    exact writeAll_status_cases fun _ => rfl
  · rw [performWrite, performWriteClassPolicy_eq]
    exact writeAll_status_cases fun _ => rfl
  · rw [performWrite, performWritePortConfig_eq]
    exact writeAll_status_cases fun _ => rfl

end

/-! ### The code tables (12.1) -/

/-- A code that is looked up in a list of codes. -/
theorem code_iff {α : Type} {f : Byte → Option α} {l : List (Byte × α)}
    (h : ∀ b, (f b).toList = (l.filter fun x => x.1 = b).map Prod.snd) (b : Byte) (k : α) :
    f b = some k ↔ (b, k) ∈ l := by
  rw [← Option.mem_toList, h]
  simp

theorem kindOf_iff (b : Byte) (k : ReqKind) : kindOf b = some k ↔ (b, k) ∈ ([(0x01, .query), (0x02, .read),
    (0x03, .write), (0x04, .commit), (0x05, .abandon), (0x06, .setAlign), (0x07, .setGlobal), (0x08, .readCounters),
    (0x09, .flush), (0x0A, .trafficReset)] : List (Byte × ReqKind)) :=
  code_iff (by decide +kernel) b k

theorem tableOf_iff (b : Byte) (t : TableId) : tableOf b = some t ↔ (b, t) ∈ ([(0x01, .classify), (0x02, .portDefault),
    (0x03, .classPolicy), (0x04, .route), (0x05, .portConfig), (0x06, .scheduleActive), (0x07, .scheduleStandby),
    (0x08, .hits)] : List (Byte × TableId)) :=
  code_iff (by decide +kernel) b t

/-- Settles O45: a refusal by `RefusesWhole.perform`, the checks 1 to 5 in their order, and check 6 kind by kind. -/
theorem refusedRequestHasNoEffect : Obligations.RefusedRequestHasNoEffect := by
  refine ⟨RefusesWhole.perform, kindOf_iff, tableOf_iff, fun t => by cases t <;> decide, fun x => by cases x <;> decide,
    fun r s h => by rw [perform_of_refused h]; rfl, fun r h => preCheck_of_unknown h,
    fun r k hk hu ht => preCheck_of_unknown_table hk (usesTable_of_table hu) ht, fun r k t hk hu ht => ?_,
    fun r k n hk hn => ?_, fun r s hp => ⟨fun hk => ?_, fun hk => ?_, fun hk => ?_, fun hk => ?_, fun hk => ?_,
      fun hk => ?_, fun hk => ⟨fun t ht hm => ?_, fun ht => ?_, fun ht => ?_, fun ht => ?_, fun ht => ?_, fun ht => ?_,
        fun ht => ?_⟩⟩⟩
  · simp only [preCheck_of_table hk (usesTable_of_table hu) ht, ← requiredLength_of_table hu, ← readOnly_iff]
    exact ⟨laterChecks_of_length, fun h hi => laterChecks_of_index h (usesTable_of_table hu) hi, laterChecks_of_range⟩
  · have hlen : k.usesTable = false ∧ r.requiredLength k .classify = n := by
      cases k <;> simp_all [ReqKind.usesTable, Request.requiredLength]
    rw [preCheck_of_no_table hk hlen.1, hlen.2]
  · simp only [List.mem_cons, List.not_mem_nil, or_false] at hk
    rcases hk with hk | hk | hk | hk
    · rw [perform_of_passed hp hk]; rfl
    · obtain ⟨t, ht⟩ := table_of_passed hk rfl hp
      rw [perform_of_passed hp hk, performKind, ht]; rfl
    · rw [perform_of_passed hp hk]; rfl
    · rw [perform_of_passed hp hk]; rfl
  · rw [perform_of_passed hp hk]
    exact performCommit_status s
  · rw [perform_of_passed hp hk]
    exact performAbandon_status s
  · rw [perform_of_passed hp hk]
    split
    · next h => exact congrArg Done.status (performSetAlign_of_bad r s h)
    · next h => exact performSetAlign_of_good r s h
  · rw [perform_of_passed hp hk]
    exact performSetGlobal_status r s
  · rw [perform_of_passed hp hk]
    exact performFlush_status r s
  · rw [perform_of_write hp hk ht]
    exact performWrite_status_cases hm r s
  · rw [perform_of_write hp hk ht, performWrite, performWriteClassify_eq]
    exact writeAll_status fun _ => rfl
  · rw [perform_of_write hp hk ht, performWrite, performWritePortDefault_eq]
    exact writeAll_status fun _ => rfl
  · rw [perform_of_write hp hk ht, performWrite, performWriteClassPolicy_eq]
    exact writeAll_status fun _ => rfl
  · rw [perform_of_write hp hk ht, performWrite, performWritePortConfig_eq]
    exact writeAll_status fun _ => rfl
  · rw [perform_of_write hp hk ht]
    exact performWriteRoute_status r s
  · rw [perform_of_write hp hk ht]
    exact performWriteStandby_status r s

end Sys2Proof.Machine
end

section
/-! A ready request answered (R164, R171): its row's kind, the reply at the tail of the management class queue, the entry in
the Replay Table, and what is left of the blocks; and the requests COMMIT, ABANDON and SET_ALIGN (R60, R61, R86). -/

namespace Sys2Proof.Machine

/-! ### The kind and the table of a row -/

/-- The kind of the requests of a row. -/
def RequestRow.kind : RequestRow → ReqKind
  | .query => .query
  | .read => .read
  | .writeClassify => .write
  | .writePortDefault => .write
  | .writeClassPolicy => .write
  | .writeRoute => .write
  | .writePortConfig => .write
  | .writeScheduleStandby => .write
  | .writeReadOnlyTable => .write
  | .commit => .commit
  | .abandon => .abandon
  | .setAlign => .setAlign
  | .setGlobal => .setGlobal
  | .readCounters => .readCounters
  | .readCountersClear => .readCounters
  | .flushClassQueue => .flush
  | .flushDeliveryQueue => .flush
  | .trafficReset => .trafficReset

theorem kind_writeRow (t : TableId) : t.writeRow.kind = .write := by cases t <;> rfl

theorem RequestRow.eq_of_kind_trafficReset {k : RequestRow} (h : k.kind = .trafficReset) : k = .trafficReset := by
  cases k <;> simp_all [RequestRow.kind]

theorem kindOf_of_row {r : Request} {k : RequestRow} (h : r.row = some k) : kindOf r.kind = some k.kind := by
  unfold Request.row at h
  cases hk : kindOf r.kind with
  | none => simp [hk] at h
  | some x =>
    rw [hk] at h
    cases x with
    | write =>
      obtain ⟨t, -, rfl⟩ := Option.map_eq_some_iff.1 h
      rw [kind_writeRow]
    | readCounters =>
      obtain rfl := Option.some.inj h
      split <;> rfl
    | flush =>
      dsimp only at h
      split at h
      · obtain rfl := Option.some.inj h
        rfl
      · split at h
        · obtain rfl := Option.some.inj h
          rfl
        · cases h
    | _ =>
      obtain rfl := Option.some.inj h
      rfl

theorem table_of_row {r : Request} {k : RequestRow} (h : r.row = some k) (hw : k.kind = .write) :
    ∃ t, tableOf r.table = some t ∧ t.writeRow = k := by
  have hk := kindOf_of_row h
  rw [hw] at hk
  rw [Request.row, hk] at h
  exact Option.map_eq_some_iff.1 h

theorem not_clears_of_row {r : Request} (h : r.row = some .readCounters) : r.clears = false := by
  have hk := kindOf_of_row h
  rw [Request.row, hk] at h
  dsimp only [RequestRow.kind] at h
  cases hc : r.clears with
  | false => rfl
  | true => simp [hc] at h

/-! ### The state that an answer leaves (R164) -/

/-- From s to t a request may have been executed, counted, recorded and answered: nothing else of the device has changed
than the store, the Replay Table, the builder, the Agent's counters and the free draws. -/
structure Served (s t : State) : Prop where
  il : t.il = s.il
  sched : t.sched = s.sched
  align : t.align = s.align
  rx : t.rx = s.rx
  ports : t.ports = s.ports
  classifier : t.classifier = s.classifier
  policy : t.policy = s.policy
  routes : t.routes = s.routes
  address : t.agent.address = s.agent.address
  mgmtClass : t.agent.mgmtClass = s.agent.mgmtClass
  noticeDest : t.agent.noticeDest = s.agent.noticeDest
  noticeMask : t.agent.noticeMask = s.agent.noticeMask
  stallLimit : t.agent.stallLimit = s.agent.stallLimit
  notices : t.agent.notices = s.agent.notices
  inbox : t.agent.inbox = s.agent.inbox
  inHand : t.agent.inHand = s.agent.inHand

namespace Served

theorem refl (s : State) : Served s s := by constructor <;> rfl

theorem trans {s t u : State} (a : Served s t) (b : Served t u) : Served s u where
  il := b.il.trans a.il
  sched := b.sched.trans a.sched
  align := b.align.trans a.align
  rx := b.rx.trans a.rx
  ports := b.ports.trans a.ports
  classifier := b.classifier.trans a.classifier
  policy := b.policy.trans a.policy
  routes := b.routes.trans a.routes
  address := b.address.trans a.address
  mgmtClass := b.mgmtClass.trans a.mgmtClass
  noticeDest := b.noticeDest.trans a.noticeDest
  noticeMask := b.noticeMask.trans a.noticeMask
  stallLimit := b.stallLimit.trans a.stallLimit
  notices := b.notices.trans a.notices
  inbox := b.inbox.trans a.inbox
  inHand := b.inHand.trans a.inHand

theorem countExecuted (s : State) : Served s (countExecuted s) := by constructor <;> rfl

theorem drawFree (s : State) : Served s s.drawFree := by constructor <;> rfl

theorem countRefused (x : Status) (s : State) : Served s (countRefused x s) := by
  unfold Machine.countRefused
  split
  · exact refl s
  · constructor <;> rfl

theorem recordOutcome (r : Request) (x : Status) (s : State) : Served s (recordOutcome r x s) := by
  obtain ⟨l, hl⟩ := recordOutcome_eq r x s
  rw [hl]
  constructor <;> rfl

theorem admitBuilt (k : Job) (b : Bool) (d : DescId) (bs : List Byte) (s : State) :
    Served s (admitBuilt k b d bs s) := by constructor <;> rfl

theorem reply (d : DescId) (r : Request) (x : Status) (a b : Bool) (data : List Byte) (s : State) :
    Served s (reply d r x a b data s) := admitBuilt ..

theorem replayNoted (e : ReplayEntry) (s : State) : Served s (replayNoted e s) := by constructor <;> rfl

end Served

/-- The state in which the execution's outcome o is counted, recorded and answered in d (R164, R172, R175). -/
def answered (d : DescId) (r : Request) (o : Done) : State :=
  reply d r o.status false false o.data (recordOutcome r o.status (countRefused o.status o.state))

theorem answered_served (d : DescId) (r : Request) (o : Done) : Served o.state (answered d r o) :=
  (Served.countRefused _ _).trans ((Served.recordOutcome r _ _).trans (Served.reply ..))

theorem execute_eq_answered {r : Request} (h : NoReset r) (d : DescId) (s : State) :
    execute d r s = answered d r (performCounted r s) := execute_of_noReset h d s

theorem reply_store (d : DescId) (r : Request) (x : Status) (a b : Bool) (data : List Byte) (s : State) :
    ∃ bs, (reply d r x a b data s).store =
      (s.store.build d bs).admitTail s.agent.mgmtClass (vget s.policy s.agent.mgmtClass).cutThrough d := ⟨_, rfl⟩

/-- A reply stands COMPLETE at the tail of the management class queue, and the builder is IDLE (R162, R164). -/
theorem replied_reply {d : DescId} {qs : List DescId} {u : State} (hi : u.agent.inbox = qs) (hh : u.agent.inHand = none)
    (r : Request) (x : Status) (a b : Bool) (data : List Byte) (s : State) :
    Replied d qs s (reply d r x a b data u) := by
  obtain ⟨bs, hs⟩ := reply_store d r x a b data u
  obtain ⟨n, y, hd, -⟩ := u.store.build_desc d bs
  refine ⟨?_, ⟨(u.store.build d bs).queue u.agent.mgmtClass, ?_⟩, hi, hh, rfl, rfl⟩
  · rw [hs, FrameStore.admitTail_desc, if_pos rfl, hd]
    rfl
  · have hm : (reply d r x a b data u).agent.mgmtClass = u.agent.mgmtClass := rfl
    rw [mgmtQueue, hm, hs, FrameStore.admitTail_queue, if_pos rfl]

theorem answered_replied {d : DescId} {qs : List DescId} {o : Done} (hi : o.state.agent.inbox = qs)
    (hh : o.state.agent.inHand = none) (r : Request) (s : State) : Replied d qs s (answered d r o) := by
  have h := (Served.countRefused o.status o.state).trans (Served.recordOutcome r o.status _)
  exact replied_reply (h.inbox.trans hi) (h.inHand.trans hh) ..

/-- The status of a protected request is the one recorded (R172). -/
theorem answered_replay {r : Request} (h : r.isProtected = true) (d : DescId) (o : Done) :
    (answered d r o).agent.replay.head? = some (r.outcome o.status) := by
  have hr : (answered d r o).agent.replay =
      (recordOutcome r o.status (countRefused o.status o.state)).agent.replay := rfl
  rw [hr, recordOutcome, if_pos h]
  rfl

/-! ### The row's command (R164) -/

section
variable {k : RequestRow} {q d : DescId} {qs : List DescId} {r : Request} {s : State}

theorem exec_of_ready (h : RequestReady k q d qs r s) : exec k.command s = .next (builderChooseJob s) :=
  exec_of_taken h.toRequestTaken (.inr ⟨k, h.row, rfl⟩)

theorem NoReset.of_kind {x : ReqKind} (h : kindOf r.kind = some x) (hx : x ≠ .trafficReset) : NoReset r :=
  fun _ hk => hx (Option.some.inj (h.symm.trans hk))

theorem builderChooseJob_answers (h : RequestReady k q d qs r s) (hk : k ≠ .trafficReset) {st : FrameStore}
    (hc : s.store.agentClaim (replyCells r s.agent.replay) = some (d, st)) (hf : Fresh r s) :
    builderChooseJob s = answered d r (performCounted r (atExecution q qs st s)) := by
  have hn : NoReset r := NoReset.of_kind (kindOf_of_row h.row) (fun hx => hk (RequestRow.eq_of_kind_trafficReset hx))
  rw [builderChooseJob_of_fresh h.toRequestTaken hc hf, execute_eq_answered hn]

/-- The state in which a request that is no READ_COUNTERS is performed: at its execution, and counted. -/
def performedIn (q : DescId) (qs : List DescId) (st : FrameStore) (s : State) : State :=
  countExecuted (atExecution q qs st s)

theorem performedIn_replied {o : Done} {st : FrameStore} (h : o.state.agent = (performedIn q qs st s).agent) :
    Replied d qs s (answered d r o) := answered_replied (congrArg Agent.inbox h) (congrArg Agent.inHand h) r s

/-- A fresh request that passes the checks 1 to 5 is answered with what its kind performs (R164). -/
theorem exec_of_passed (h : RequestReady k q d qs r s) (hf : Fresh r s) (hp : r.preCheck = .ok) (hk : k ≠ .trafficReset)
    (hr : k.kind ≠ .readCounters) : ∃ st, s.store.agentClaim (replyCells r s.agent.replay) = some (d, st) ∧
      exec k.command s = .next (answered d r (performKind k.kind r (performedIn q qs st s))) := by
  obtain ⟨st, hc⟩ := h.toRequestTaken.agentClaim
  have hkind := kindOf_of_row h.row
  have hn : ¬ ReadsCounters r := fun ⟨hk', _⟩ => hr (Option.some.inj (hkind.symm.trans hk'))
  refine ⟨st, hc, ?_⟩
  rw [exec_of_ready h, builderChooseJob_answers h hk hc hf, performCounted_of_other hn, perform_of_passed hp hkind]
  rfl

end

/-! ### COMMIT, ABANDON and SET_ALIGN -/

theorem performCommit_sched (s : State) : (performCommit s).state.sched = { s.sched with commit :=
    if s.sched.commit = .pending ∨ s.sched.standbyBank.valid = true then .pending else .idle } := by
  have hkept : s.sched = { s.sched with commit := s.sched.commit } := rfl
  cases hc : s.sched.commit with
  | pending => simpa [performCommit, hc, Done.refuse] using hc ▸ hkept
  | idle =>
    cases hv : s.sched.standbyBank.valid with
    | true => simp [performCommit, hc, hv, Done.ok, State.updSched]
    | false => simpa [performCommit, hc, hv, Done.refuse] using hc ▸ hkept

theorem performAbandon_sched (s : State) : (performAbandon s).state.sched = { s.sched with commit := .idle } := by
  have hkept : s.sched = { s.sched with commit := s.sched.commit } := rfl
  cases hc : s.sched.commit with
  | pending => simp [performAbandon, hc, Done.ok, State.updSched]
  | idle => simpa [performAbandon, hc, Done.refuse] using hc ▸ hkept

theorem isProtected_of_kind {r : Request} {k : ReqKind} (hk : kindOf r.kind = some k)
    (h : k ≠ .query ∧ k ≠ .read ∧ k ≠ .readCounters) : r.isProtected = true := by
  obtain ⟨hq, hr, hc⟩ := h
  rw [Request.isProtected, hk]
  cases k with
  | query => exact absurd rfl hq
  | read => exact absurd rfl hr
  | readCounters => exact absurd rfl hc
  | _ => rfl

theorem setWidth_frame (r : Request) (a : Align) : (a.setWidth r).mode = a.mode ∧ (a.setWidth r).state = a.state ∧
    (a.setWidth r).miss = a.miss ∧ (a.setWidth r).expect = a.expect ∧ (a.setWidth r).counters = a.counters ∧
    (a.setWidth r).width = if (byteAt r.params 0).getLsbD 1 then (byteAt r.params 2).toNat else a.width := by
  unfold Align.setWidth
  split <;> exact ⟨rfl, rfl, rfl, rfl, rfl, rfl⟩

/-- Settles O48: the row's command answers what its kind performs (`exec_of_passed`), and the outcome is recorded
(`answered_replay`). -/
theorem scheduleAndAlignmentRequests : Obligations.ScheduleAndAlignmentRequests := by
  intro k q d qs r s h hf hp
  have hkind := kindOf_of_row h.row
  refine ⟨?_, ?_, ?_⟩
  · rintro rfl
    obtain ⟨st, -, hexec⟩ := exec_of_passed h hf hp nofun nofun
    have hexec : exec .commit s = .next (answered d r (performCommit (performedIn q qs st s))) := hexec
    have hserved := answered_served d r (performCommit (performedIn q qs st s))
    have hagent : (performCommit (performedIn q qs st s)).state.agent = (performedIn q qs st s).agent := by simp
    refine ⟨_, hexec, performedIn_replied hagent, ?_, ?_, ?_⟩
    · exact hserved.align.trans (by simp; rfl)
    · exact hserved.sched.trans (performCommit_sched _)
    · rw [answered_replay (isProtected_of_kind hkind ⟨nofun, nofun, nofun⟩), Request.outcome,
        performCommit_status]
      rfl
  · rintro rfl
    obtain ⟨st, -, hexec⟩ := exec_of_passed h hf hp nofun nofun
    have hexec : exec .abandon s = .next (answered d r (performAbandon (performedIn q qs st s))) := hexec
    have hserved := answered_served d r (performAbandon (performedIn q qs st s))
    have hagent : (performAbandon (performedIn q qs st s)).state.agent = (performedIn q qs st s).agent := by simp
    refine ⟨_, hexec, performedIn_replied hagent, ?_, ?_, ?_⟩
    · exact hserved.align.trans (by simp; rfl)
    · exact hserved.sched.trans (performAbandon_sched _)
    · rw [answered_replay (isProtected_of_kind hkind ⟨nofun, nofun, nofun⟩), Request.outcome,
        performAbandon_status]
      rfl
  · rintro rfl
    obtain ⟨st, -, hexec⟩ := exec_of_passed h hf hp nofun nofun
    have hexec : exec .setAlign s = .next (answered d r (performSetAlign r (performedIn q qs st s))) := hexec
    have hserved := answered_served d r (performSetAlign r (performedIn q qs st s))
    have hagent : (performSetAlign r (performedIn q qs st s)).state.agent = (performedIn q qs st s).agent := by simp
    have hsched : (performSetAlign r (performedIn q qs st s)).state.sched = s.sched := by simp; rfl
    have hrecorded := answered_replay (isProtected_of_kind hkind ⟨nofun, nofun, nofun⟩) d
      (performSetAlign r (performedIn q qs st s))
    refine ⟨_, hexec, performedIn_replied hagent,
      hserved.sched.trans hsched, fun hbad => ?_, fun hgood => ?_⟩
    · have hbad : BadAlign r := hbad
      rw [performSetAlign_of_bad r _ hbad] at hserved hrecorded
      rw [performSetAlign_of_bad r _ hbad]
      exact ⟨hserved.align, hrecorded⟩
    · have hgood : ¬ BadAlign r := hgood
      rw [performSetAlign_of_good r _ hgood] at hrecorded
      refine ⟨hrecorded, ?_⟩
      rw [hserved.align]
      obtain ⟨hmode, hstate, hmiss, hexpect, hcounters, hwidth⟩ := setWidth_frame r s.align
      cases hm : (byteAt r.params 0).getLsbD 0 with
      | false =>
        rw [performSetAlign_of_width r _ hgood hm]
        exact ⟨hwidth, hcounters, fun _ => ⟨hmode, hstate, hmiss, hexpect⟩, nofun⟩
      | true =>
        rcases alignMode_of_good r hgood hm with ⟨hb, hv⟩ | ⟨hb, hv⟩ <;> rw [performSetAlign_of_mode r _ hgood hm hv]
        · exact ⟨hwidth, hcounters, nofun, fun _ => ⟨rfl, rfl, fun _ => ⟨rfl, rfl⟩,
            fun h1 => absurd (hb.symm.trans h1) (by decide)⟩⟩
        · exact ⟨hwidth, hcounters, nofun, fun _ => ⟨rfl, rfl,
            fun h0 => absurd (hb.symm.trans h0) (by decide), fun _ => ⟨rfl, rfl⟩⟩⟩

end Sys2Proof.Machine
end

section
/-! The bytes that a reading request returns (12.2, 12.3), and that it changes nothing but the Agent and the store (R164,
R166, R167, R170, R180). -/

namespace Sys2Proof.Machine

/-! ### Fields and entries as bytes (R3, 12.2) -/

theorem natBytes_eq_bytesOf (k n : Nat) : natBytes k n = bytesOf k n := by
  induction k generalizing n with
  | zero => rfl
  | succ k ih =>
    have hlow : n / 256 ^ (k + 1 - 1 - k) = n := by simp
    rw [natBytes, ih, bytesOf, bytesOf, List.range_succ, List.map_append, List.map_singleton, hlow]
    congr 1
    apply List.map_congr_left
    intro i hi
    have hi : i < k := List.mem_range.1 hi
    rw [Nat.div_div_eq_div_mul, ← Nat.pow_succ', show k + 1 - 1 - i = (k - 1 - i).succ by omega]

theorem bytesOf_one (n : Nat) : bytesOf 1 n = [BitVec.ofNat 8 n] := by
  simp [bytesOf, List.range_succ]

theorem flagByte_eq_layoutFlag (b : Bool) : flagByte b = layoutFlag b := rfl

theorem code_eq_layoutAction (a : Action) : a.code = layoutAction a := by cases a <;> rfl

/-- The valid flag in bit 7 stands above the port set. -/
theorem validByte_eq (v : Bool) (ports : PortSet) :
    (if v then (0x80 : Byte) else 0x00) ||| ports.setWidth 8 = BitVec.ofNat 8 ((if v then 128 else 0) + ports.toNat) := by
  revert v ports
  decide

theorem flagsByte_eq (e m : Bool) : (if e then (0x01 : Byte) else 0x00) ||| (if m then 0x02 else 0x00) =
    BitVec.ofNat 8 ((if e then 1 else 0) + (if m then 2 else 0)) := by
  revert e m
  decide

theorem ClassEntry.bytes_eq (e : ClassEntry) : e.bytes = layoutClassEntry e := by
  rw [ClassEntry.bytes, layoutClassEntry, validByte_eq, bytesOf_word, code_eq_layoutAction, flagByte_eq_layoutFlag]
  rfl

theorem ClassPolicy.bytes_eq (e : ClassPolicy) :
    e.bytes = [layoutFlag e.preemptible, layoutFlag e.cutThrough] ++ bytesOf 1 e.queueLimit := by
  rw [bytesOf_one]
  rfl

theorem Route.bytes_eq (e : Route) :
    e.bytes = [layoutFlag e.valid] ++ bytesOf 2 e.address.toNat ++ bytesOf 1 e.port.val := by
  rw [bytesOf_word, bytesOf_one]
  rfl

theorem PortConfig.bytes_eq (x : PortConfig) : x.bytes = layoutPortConfig x := by
  rw [PortConfig.bytes, layoutPortConfig, flagsByte_eq, natBytes_eq_bytesOf]

theorem openSetByte_eq (w : ClassSet) : w.setWidth 8 = BitVec.ofNat 8 w.toNat := by
  simp

theorem Bank.entryBytes_eq (k : Bank) (i : Nat) : k.entryBytes i = layoutSchedule k i := by
  cases i with
  | zero => rw [Bank.entryBytes, layoutSchedule, if_pos rfl, natBytes_eq_bytesOf, bytesOf_one]
  | succ j =>
    rw [Bank.entryBytes, layoutSchedule, if_neg (Nat.succ_ne_zero j), Window.bytes, natBytes_eq_bytesOf, bytesOf_one,
      openSetByte_eq]
    rfl

theorem tableEntry_congr {α : Type} {n : Nat} {f g : α → List Byte} (h : ∀ x, f x = g x) (v : Vector α n) (i : Nat) :
    tableEntry v f i = tableEntry v g i := by rw [funext h]

/-- A table is read in the bytes of its layout (12.2). -/
theorem readEntry_eq_layoutEntry (s : State) (t : TableId) (i : Nat) : readEntry s t i = layoutEntry s t i := by
  cases t with
  | classify => exact tableEntry_congr ClassEntry.bytes_eq _ i
  | portDefault => exact tableEntry_congr (fun a : Action => congrArg ([·]) (code_eq_layoutAction a)) _ i
  | classPolicy => exact tableEntry_congr ClassPolicy.bytes_eq _ i
  | route => exact tableEntry_congr Route.bytes_eq _ i
  | portConfig => exact tableEntry_congr (fun q : Port => q.config.bytes_eq) _ i
  | scheduleActive => exact Bank.entryBytes_eq _ i
  | scheduleStandby => exact Bank.entryBytes_eq _ i
  | hits => exact tableEntry_congr (fun e : ClassEntry => natBytes_eq_bytesOf 4 e.hits.toNat) _ i

theorem queryData_eq (s : State) : queryData s = ([0x4E, 0x4C, 0x01] : List Byte) ++ bytesOf 2 s.agent.address.toNat ++
    [layoutFlag s.trunkRx.up, s.align.state.code, s.sched.active.code, s.sched.commit.code] ++
    bytesOf 2 s.store.freeCells.length ++ bytesOf 1 s.store.freeDescs.length := by
  rw [queryData, natBytes_eq_bytesOf, natBytes_eq_bytesOf, bytesOf_word]
  rfl

theorem commitCode_eq (c : CommitState) : c.code = layoutFlag (decide (c = .pending)) := by cases c <;> rfl

theorem classCounters_eq (v : Vector Ctr 6) : classCounters v = (List.finRange 6).map (vget v) := by
  have h : List.finRange 6 = [0, 1, 2, 3, 4, 5] := by decide
  rw [h]
  rfl

theorem counterSet_eq_counterOrder (s : State) : counterSet s = counterOrder s := by
  have h : List.finRange 4 = [0, 1, 2, 3] := by decide
  simp only [counterSet, counterOrder, classCounters_eq, h, List.flatMap_cons, List.flatMap_nil, List.append_assoc,
    List.append_nil, PortCounters.list]

theorem length_counterBytes_eq (s : State) : (counterBytes s).length = 360 := by
  simp [counterBytes, List.length_flatMap, length_natBytes, length_counterSet]

/-! ### A reading request (R164, R166, R167, R170) -/

/-- The rows of the requests that read: the four of O46. -/
def RequestRow.Reads (k : RequestRow) : Prop := k = .query ∨ k = .read ∨ k = .readCounters ∨ k = .writeReadOnlyTable

section
variable {k : RequestRow} {q d : DescId} {qs : List DescId} {r : Request} {s : State}

theorem performReadCounters_state (h : r.clears = false) (s : State) : (performReadCounters r s).state = s := by
  simp [performReadCounters, h]

theorem readOnly_of_writeRow {t : TableId} (h : t.writeRow = .writeReadOnlyTable) : t.readOnly = true := by
  cases t <;> simp_all [TableId.writeRow, TableId.readOnly]

theorem performWrite_of_readOnly {t : TableId} (h : t.readOnly = true) (r : Request) (s : State) :
    performWrite t r s = .refuse .readOnly s := by
  cases t <;> simp_all [TableId.readOnly, performWrite]

/-- A reading request performed leaves the state as it is. -/
theorem perform_state_of_reads (h : r.row = some k) (hk : k.Reads) (s : State) : (perform r s).state = s := by
  by_cases hp : r.preCheck = .ok
  · rw [perform_of_passed hp (kindOf_of_row h)]
    rcases hk with rfl | rfl | rfl | rfl
    · rfl
    · dsimp only [RequestRow.kind, performKind]
      split <;> rfl
    · exact performReadCounters_state (not_clears_of_row h) s
    · obtain ⟨t, ht, hrow⟩ := table_of_row h rfl
      simp only [RequestRow.kind, performKind, ht, performWrite_of_readOnly (readOnly_of_writeRow hrow), Done.refuse]
  · rw [perform_of_refused hp]
    rfl

theorem performCounted_served (h : r.row = some k) (hk : k.Reads) (s : State) : Served s (performCounted r s).state := by
  by_cases hc : ReadsCounters r
  · have hst : ∀ u, (performReadCounters r u).state = u := fun u => by
      rw [← hc.perform, perform_state_of_reads h hk]
    rcases performCounted_of_readsCounters hc s with he | he <;> rw [he]
    · exact (hst s.drawFree).symm ▸ (Served.drawFree s).trans (Served.countExecuted _)
    · rw [hst]
      exact (Served.drawFree s).trans (Served.countExecuted _)
  · rw [performCounted_of_other hc, perform_state_of_reads h hk]
    exact Served.countExecuted s

/-- Whether it is a replay or is executed, a reading request is answered, and nothing but the Agent and the store
changes. -/
theorem builderChooseJob_reads (h : RequestReady k q d qs r s) (hk : k.Reads) {st : FrameStore}
    (hc : s.store.agentClaim (replyCells r s.agent.replay) = some (d, st)) :
    Replied d qs s (builderChooseJob s) ∧ Served (atExecution q qs st s) (builderChooseJob s) := by
  have hreset : k ≠ .trafficReset := by rcases hk with rfl | rfl | rfl | rfl <;> nofun
  cases he : replayEntry r s.agent.replay with
  | some e =>
    rw [builderChooseJob_of_replay h.toRequestTaken hc he, answerReplay_eq]
    exact ⟨replied_reply (u := replayNoted e (atExecution q qs st s)) rfl rfl ..,
      (Served.replayNoted e _).trans (Served.reply ..)⟩
  | none =>
    have hserved := performCounted_served h.row hk (atExecution q qs st s)
    rw [builderChooseJob_answers h hreset hc he]
    exact ⟨answered_replied hserved.inbox hserved.inHand r s, hserved.trans (answered_served d r _)⟩

end

/-- Settles O46: the answer keeps the device (`builderChooseJob_reads`), QUERY and READ return the layouts of 12.2
(`queryData_eq`, `readEntry_eq_layoutEntry`), and READ_COUNTERS the 90 counters of 12.3 (`counterSet_eq_counterOrder`). -/
theorem readingRequests : Obligations.ReadingRequests := by
  refine ⟨fun k q d qs r s h hk => ?_, fun r s hp => ⟨fun hkind => ?_, fun t hkind ht => ?_, fun hkind => ?_⟩,
    fun s => ⟨?_, ?_⟩⟩
  · obtain ⟨st, hc⟩ := h.toRequestTaken.agentClaim
    obtain ⟨hreplied, hs⟩ := builderChooseJob_reads h hk hc
    exact ⟨_, exec_of_ready h, hreplied, hs.il, hs.sched, hs.align, hs.rx, hs.ports, hs.classifier, hs.policy, hs.routes,
      hs.address, hs.mgmtClass, hs.noticeDest, hs.noticeMask, hs.stallLimit, hs.notices⟩
  · rw [perform_of_passed hp hkind]
    refine (queryData_eq s).trans ?_
    rw [commitCode_eq]
    cases s.align.state <;> cases s.sched.active <;> rfl
  · rw [perform_of_passed hp hkind]
    simp only [performKind, ht, performRead, readEntries, readEntry_eq_layoutEntry]
  · rw [perform_of_passed hp hkind]
    rfl
  · simp only [counterBytes, counterSet_eq_counterOrder, natBytes_eq_bytesOf]
  · exact length_counterBytes_eq s

end Sys2Proof.Machine
end

section
/-! Which bytes are an entry of a table, and the entry that they are (12.2, R57, R126, R144, R146, R147, R153, R184). -/

namespace Sys2Proof.Machine

/-! ### Fields -/

theorem ite_some_none_iff {α : Type} {p : Prop} [Decidable p] (a x : α) :
    (if p then some a else none) = some x ↔ p ∧ x = a := by
  rw [Option.ite_none_right_eq_some, Option.some.injEq, eq_comm]

theorem flagOf_eq_some_iff (b : Byte) (v : Bool) :
    flagOf b = some v ↔ (b = 0x00 ∨ b = 0x01) ∧ v = decide (b = 0x01) := by
  rw [flagOf_eq, ite_some_none_iff]

theorem portOf_eq_some_iff (b : Byte) (p : PortIx) : portOf b = some p ↔ b.toNat ≤ 3 ∧ p = Fin.ofNat 4 b.toNat := by
  rw [portOf_eq, ite_some_none_iff]

theorem actionOf_eq_some_iff (b : Byte) (a : Action) : actionOf b = some a ↔
    (b.toNat ≤ 5 ∨ b = 0x80) ∧ a = if b = 0x80 then .drop else .forward (Fin.ofNat 6 b.toNat) := by
  rw [actionOf_eq, ite_some_none_iff]

/-- The byte of DROP is no class. -/
theorem actionOf_iff (b : Byte) (a : Action) : actionOf b = some a ↔
    (b.toNat ≤ 5 ∧ a = .forward (Fin.ofNat 6 b.toNat)) ∨ (b = 0x80 ∧ a = .drop) := by
  rw [actionOf_eq_some_iff]
  by_cases h : b = 0x80
  · subst h
    rw [if_pos rfl]
    exact ⟨fun ⟨_, ha⟩ => .inr ⟨rfl, ha⟩, fun h => h.elim (fun h => absurd h.1 (by decide)) fun h => ⟨.inr rfl, h.2⟩⟩
  · rw [if_neg h, or_iff_left h, or_iff_left fun hb => h hb.1]

theorem tripleAt_eq (b0 b1 b2 : Byte) (bs : List Byte) :
    tripleAt (b0 :: b1 :: b2 :: bs) 0 = b0.toNat * 65536 + b1.toNat * 256 + b2.toNat := by
  simp only [tripleAt, byteAt, bytesNat, List.getD_cons_zero, List.getD_cons_succ, List.foldl_cons, List.foldl_nil]
  omega

theorem bits456_clear_iff (b : Byte) :
    b &&& 0x70 = 0 ↔ b.getLsbD 4 = false ∧ b.getLsbD 5 = false ∧ b.getLsbD 6 = false := by
  revert b; decide +kernel

theorem bits67_clear_iff (b : Byte) : b &&& 0xC0 = 0 ↔ b.getLsbD 6 = false ∧ b.getLsbD 7 = false := by
  revert b; decide +kernel

/-! ### Entries -/

theorem classEntryOf_iff (b0 b1 b2 b3 b4 b5 b6 : Byte) (e : ClassEntry) :
    classEntryOf [b0, b1, b2, b3, b4, b5, b6] = some e ↔
      b0.getLsbD 4 = false ∧ b0.getLsbD 5 = false ∧ b0.getLsbD 6 = false ∧ (b3 = 0x00 ∨ b3 = 0x01) ∧
        (b6.toNat ≤ 5 ∨ b6 = 0x80) ∧
        e = { valid := b0.getLsbD 7, ports := b0.setWidth 4, tagValue := b1, tagMask := b2,
              srcMatch := decide (b3 = 0x01), srcValue := b4 ++ b5,
              action := if b6 = 0x80 then .drop else .forward (Fin.ofNat 6 b6.toNat), hits := 0 } := by
  have hunfold : classEntryOf [b0, b1, b2, b3, b4, b5, b6] = if b0 &&& 0x70 ≠ 0 then none else
      (flagOf b3).bind fun m => (actionOf b6).map fun act =>
        { valid := b0.getLsbD 7, ports := b0.setWidth 4, tagValue := b1, tagMask := b2, srcMatch := m,
          srcValue := b4 ++ b5, action := act, hits := 0 } := by
    unfold classEntryOf
    cases hm : flagOf b3 <;> cases ha : actionOf b6 <;> simp [byteAt, wordAt, word16, hm, ha]
  rw [hunfold]
  by_cases h : b0 &&& 0x70 = 0
  · obtain ⟨h4, h5, h6⟩ := (bits456_clear_iff b0).1 h
    simp only [h, ne_eq, not_true_eq_false, if_false, Option.bind_eq_some_iff, Option.map_eq_some_iff,
      flagOf_eq_some_iff, actionOf_eq_some_iff, h4, h5, h6, true_and]
    constructor
    · rintro ⟨-, ⟨h3, rfl⟩, -, ⟨ha, rfl⟩, rfl⟩
      exact ⟨h3, ha, rfl⟩
    · rintro ⟨h3, ha, rfl⟩
      exact ⟨_, ⟨h3, rfl⟩, _, ⟨ha, rfl⟩, rfl⟩
  · rw [if_pos h]
    exact ⟨nofun, fun ⟨h4, h5, h6, _⟩ => absurd ((bits456_clear_iff b0).2 ⟨h4, h5, h6⟩) h⟩

theorem classPolicyOf_iff (b0 b1 b2 : Byte) (e : ClassPolicy) : classPolicyOf [b0, b1, b2] = some e ↔
    (b0 = 0x00 ∨ b0 = 0x01) ∧ (b1 = 0x00 ∨ b1 = 0x01) ∧ 1 ≤ b2.toNat ∧ b2.toNat ≤ 128 ∧
      e = { preemptible := decide (b0 = 0x01), cutThrough := decide (b1 = 0x01), queueLimit := b2.toNat } := by
  have hunfold : classPolicyOf [b0, b1, b2] = (flagOf b0).bind fun p => (flagOf b1).bind fun k =>
      if 1 ≤ b2.toNat ∧ b2.toNat ≤ 128 then some { preemptible := p, cutThrough := k, queueLimit := b2.toNat }
      else none := by
    unfold classPolicyOf
    cases hp : flagOf b0 <;> cases hk : flagOf b1 <;> simp [byteAt, hp, hk]
  rw [hunfold]
  simp only [Option.bind_eq_some_iff, flagOf_eq_some_iff, ite_some_none_iff]
  constructor
  · rintro ⟨-, ⟨h0, rfl⟩, -, ⟨h1, rfl⟩, ⟨hlow, hhigh⟩, rfl⟩
    exact ⟨h0, h1, hlow, hhigh, rfl⟩
  · rintro ⟨h0, h1, hlow, hhigh, rfl⟩
    exact ⟨_, ⟨h0, rfl⟩, _, ⟨h1, rfl⟩, ⟨hlow, hhigh⟩, rfl⟩

theorem routeOf_iff (g : Addr) (b0 b1 b2 b3 : Byte) (e : Route) : routeOf g [b0, b1, b2, b3] = some e ↔
    (b0 = 0x00 ∨ b0 = 0x01) ∧ b3.toNat ≤ 3 ∧
      (b0 = 0x01 → e.address ≠ 0x0000 ∧ e.address ≠ 0xFFFF ∧ e.address ≠ g) ∧
      e = { valid := decide (b0 = 0x01), address := b1 ++ b2, port := Fin.ofNat 4 b3.toNat } := by
  have hunfold : routeOf g [b0, b1, b2, b3] = (flagOf b0).bind fun v => (portOf b3).bind fun p =>
      if v = true ∧ (b1 ++ b2 = (0x0000 : Addr) ∨ b1 ++ b2 = (0xFFFF : Addr) ∨ b1 ++ b2 = g) then none
      else some { valid := v, address := b1 ++ b2, port := p } := by
    unfold routeOf
    cases hv : flagOf b0 <;> cases hp : portOf b3 <;> simp [byteAt, wordAt, word16, hv, hp]
  rw [hunfold]
  simp only [Option.bind_eq_some_iff, flagOf_eq_some_iff, portOf_eq_some_iff, Option.ite_none_left_eq_some,
    Option.some.injEq]
  constructor
  · rintro ⟨-, ⟨h0, rfl⟩, -, ⟨h3, rfl⟩, hvalid, rfl⟩
    refine ⟨h0, h3, fun h1 => ?_, rfl⟩
    simpa [h1] using hvalid
  · rintro ⟨h0, h3, hvalid, rfl⟩
    refine ⟨_, ⟨h0, rfl⟩, _, ⟨h3, rfl⟩, fun ⟨h1, hbad⟩ => ?_, rfl⟩
    obtain ⟨hzero, hones, hagent⟩ := hvalid (of_decide_eq_true h1)
    exact hbad.elim hzero fun hbad => hbad.elim hones hagent

theorem portConfigOf_iff (b0 b1 b2 : Byte) (x : PortConfig) : portConfigOf [b0, b1, b2] = some x ↔
    16 ≤ x.stallLimit ∧
      x = { enabled := b0.getLsbD 0, markForwarding := b0.getLsbD 1, stallLimit := b1.toNat * 256 + b2.toNat } := by
  have hunfold : portConfigOf [b0, b1, b2] = if 16 ≤ b1.toNat * 256 + b2.toNat then
      some { enabled := b0.getLsbD 0, markForwarding := b0.getLsbD 1, stallLimit := b1.toNat * 256 + b2.toNat }
      else none := by
    rw [← word16_toNat]
    rfl
  rw [hunfold, ite_some_none_iff]
  exact ⟨fun ⟨h, hx⟩ => ⟨hx ▸ h, hx⟩, fun ⟨h, hx⟩ => ⟨by rwa [hx] at h, hx⟩⟩

theorem scheduleHeaderOf_iff (b0 b1 b2 b3 : Byte) (x : ScheduleEntry) :
    scheduleEntryOf 0 [b0, b1, b2, b3] = some x ↔
      2048 ≤ b0.toNat * 65536 + b1.toNat * 256 + b2.toNat ∧ b0.toNat * 65536 + b1.toNat * 256 + b2.toNat ≤ 1048576 ∧
        1 ≤ b3.toNat ∧ b3.toNat ≤ 16 ∧ x = .header (b0.toNat * 65536 + b1.toNat * 256 + b2.toNat) b3.toNat := by
  have h3 : byteAt [b0, b1, b2, b3] 3 = b3 := rfl
  rw [scheduleEntryOf, scheduleHeaderOf, tripleAt_eq, h3, ite_some_none_iff]
  simp only [and_assoc]

theorem windowOf_iff (i : Nat) (b0 b1 b2 b3 : Byte) (x : ScheduleEntry) :
    scheduleEntryOf (i + 1) [b0, b1, b2, b3] = some x ↔ b0.toNat * 65536 + b1.toNat * 256 + b2.toNat ≤ 1048575 ∧
      b3.getLsbD 6 = false ∧ b3.getLsbD 7 = false ∧
      x = .window { offset := b0.toNat * 65536 + b1.toNat * 256 + b2.toNat, openSet := b3.setWidth 6 } := by
  have h3 : byteAt [b0, b1, b2, b3] 3 = b3 := rfl
  rw [scheduleEntryOf, windowOf, tripleAt_eq, h3, ite_some_none_iff, bits67_clear_iff]
  simp only [and_assoc]

/-! ### The bytes of an entry decode to it -/

theorem flagOf_layoutFlag (b : Bool) : (layoutFlag b = 0x00 ∨ layoutFlag b = 0x01) ∧ decide (layoutFlag b = 0x01) = b := by
  cases b <;> decide

theorem layoutFlag_eq_one (b : Bool) : layoutFlag b = 0x01 ↔ b = true := by cases b <;> decide

theorem actionOf_layoutAction (a : Action) : actionOf (layoutAction a) = some a := by
  rw [actionOf_iff]
  cases a with
  | drop => exact .inr ⟨rfl, rfl⟩
  | forward c =>
    left
    revert c
    decide

theorem hiByte_append_loByte (w : BitVec 16) : hiByte w ++ loByte w = w := by
  apply BitVec.eq_of_toNat_eq
  have h := word16_bytes w.toNat w.isLt
  rwa [← hiByte_eq, ← loByte_eq] at h

/-- The first byte of a CLASSIFY entry's layout: the valid flag and the port set, and no port flag beyond port 3. -/
theorem validByte_bits (v : Bool) (ports : PortSet) :
    let b := BitVec.ofNat 8 ((if v then 128 else 0) + ports.toNat)
    b.getLsbD 4 = false ∧ b.getLsbD 5 = false ∧ b.getLsbD 6 = false ∧ b.getLsbD 7 = v ∧ b.setWidth 4 = ports := by
  revert v ports
  decide

theorem flagsByte_bits (e m : Bool) :
    let b := BitVec.ofNat 8 ((if e then 1 else 0) + (if m then 2 else 0))
    b.getLsbD 0 = e ∧ b.getLsbD 1 = m := by
  revert e m
  decide

theorem classEntryOf_layoutClassEntry (e : ClassEntry) :
    classEntryOf (layoutClassEntry e) = some { e with hits := 0 } := by
  obtain ⟨h4, h5, h6, h7, hports⟩ := validByte_bits e.valid e.ports
  obtain ⟨hflag, hsrc⟩ := flagOf_layoutFlag e.srcMatch
  obtain ⟨hact, haction⟩ := (actionOf_eq_some_iff _ _).1 (actionOf_layoutAction e.action)
  have hlayout : layoutClassEntry e = [BitVec.ofNat 8 ((if e.valid then 128 else 0) + e.ports.toNat), e.tagValue,
      e.tagMask, layoutFlag e.srcMatch, hiByte e.srcValue, loByte e.srcValue, layoutAction e.action] := by
    rw [layoutClassEntry, bytesOf_word]
    rfl
  rw [hlayout, classEntryOf_iff, h7, hports, hsrc, ← haction, hiByte_append_loByte]
  exact ⟨h4, h5, h6, hflag, hact, rfl⟩

theorem classPolicyOf_layout (e : ClassPolicy) (h1 : 1 ≤ e.queueLimit) (h128 : e.queueLimit ≤ 128) :
    classPolicyOf ([layoutFlag e.preemptible, layoutFlag e.cutThrough] ++ bytesOf 1 e.queueLimit) = some e := by
  obtain ⟨hp, hpre⟩ := flagOf_layoutFlag e.preemptible
  obtain ⟨hk, hcut⟩ := flagOf_layoutFlag e.cutThrough
  have hn : (BitVec.ofNat 8 e.queueLimit).toNat = e.queueLimit := by simp; omega
  rw [bytesOf_one, List.cons_append, List.cons_append, List.nil_append, classPolicyOf_iff, hn, hpre, hcut]
  exact ⟨hp, hk, h1, h128, rfl⟩

theorem routeOf_layout (g : Addr) (e : Route)
    (h : e.valid = true → e.address ≠ 0x0000 ∧ e.address ≠ 0xFFFF ∧ e.address ≠ g) :
    routeOf g ([layoutFlag e.valid] ++ bytesOf 2 e.address.toNat ++ bytesOf 1 e.port.val) = some e := by
  obtain ⟨hflag, hvalid⟩ := flagOf_layoutFlag e.valid
  have hp : (BitVec.ofNat 8 e.port.val).toNat ≤ 3 ∧ Fin.ofNat 4 (BitVec.ofNat 8 e.port.val).toNat = e.port := by
    generalize e.port = p
    revert p
    decide
  obtain ⟨hle, hport⟩ := hp
  rw [bytesOf_word, bytesOf_one, List.singleton_append, List.cons_append, List.cons_append, List.cons_append,
    List.nil_append, routeOf_iff, hvalid, hport, hiByte_append_loByte]
  exact ⟨hflag, hle, fun hone => h ((layoutFlag_eq_one _).1 hone), rfl⟩

theorem portConfigOf_layoutPortConfig (x : PortConfig) (h16 : 16 ≤ x.stallLimit) (hmax : x.stallLimit ≤ 65535) :
    portConfigOf (layoutPortConfig x) = some x := by
  obtain ⟨henabled, hmark⟩ := flagsByte_bits x.enabled x.markForwarding
  have hn : (BitVec.ofNat 8 (x.stallLimit / 256)).toNat * 256 + (BitVec.ofNat 8 x.stallLimit).toNat = x.stallLimit := by
    simp
    omega
  rw [layoutPortConfig, bytesOf_two, portConfigOf_iff, henabled, hmark, hn]
  exact ⟨h16, rfl⟩

theorem bytesOf_three (n : Nat) :
    bytesOf 3 n = [BitVec.ofNat 8 (n / 65536), BitVec.ofNat 8 (n / 256), BitVec.ofNat 8 n] := by
  simp [bytesOf, List.range_succ]

theorem triple_bytes {n : Nat} (h : n < 16777216) : (BitVec.ofNat 8 (n / 65536)).toNat * 65536 +
    (BitVec.ofNat 8 (n / 256)).toNat * 256 + (BitVec.ofNat 8 n).toNat = n := by
  simp
  omega

theorem scheduleEntryOf_header (k : Bank) (hlow : 2048 ≤ k.length) (hhigh : k.length ≤ 1048576) (h1 : 1 ≤ k.count)
    (h16 : k.count ≤ 16) : scheduleEntryOf 0 (layoutSchedule k 0) = some (.header k.length k.count) := by
  have hn : (BitVec.ofNat 8 k.count).toNat = k.count := by simp; omega
  rw [layoutSchedule, if_pos rfl, bytesOf_three, bytesOf_one, List.cons_append, List.cons_append, List.singleton_append,
    scheduleHeaderOf_iff, triple_bytes (by omega), hn]
  exact ⟨hlow, hhigh, h1, h16, rfl⟩

theorem openSetByte_bits (w : ClassSet) :
    let b := BitVec.ofNat 8 w.toNat
    b.getLsbD 6 = false ∧ b.getLsbD 7 = false ∧ b.setWidth 6 = w := by
  revert w
  decide

theorem scheduleEntryOf_window (k : Bank) (i : Nat) (h : (k.window i).offset ≤ 1048575) :
    scheduleEntryOf (i + 1) (layoutSchedule k (i + 1)) = some (.window (k.window i)) := by
  obtain ⟨h6, h7, hset⟩ := openSetByte_bits (k.window i).openSet
  rw [layoutSchedule, if_neg (Nat.succ_ne_zero i), Nat.add_sub_cancel, bytesOf_three, bytesOf_one, List.cons_append,
    List.cons_append, List.singleton_append, windowOf_iff, triple_bytes (by omega), hset]
  exact ⟨h, h6, h7, rfl⟩

end Sys2Proof.Machine
end

section
/-! A WRITE to PORT_CONFIG (R126, R127): a port by its configuration before and after, and the frame in reception at a port
that stops (R117, R135). -/

namespace Sys2Proof.Machine

/-! ### Entries written one after another (R166) -/

theorem written_cons {α : Type} (k : Nat) (x : α) (es : List α) (i : Nat) (y : α) :
    written k (x :: es) i y = if i = k then x else written (k + 1) es i y := by
  unfold written
  rw [List.length_cons]
  split
  · next h =>
    split
    · next hi => simp [hi]
    · next hi =>
      obtain ⟨m, hm⟩ : ∃ m, i - k = m + 1 := ⟨i - k - 1, by omega⟩
      rw [if_pos (by omega), hm, show i - (k + 1) = m by omega, List.getD_cons_succ]
  · next h => rw [if_neg (by omega), if_neg (by omega)]

theorem written_of_lt {α : Type} {k i : Nat} (h : i < k) (es : List α) (y : α) : written k es i y = y :=
  if_neg (by omega)

/-! ### FILLING frames (R117, R119) -/

/-- The frame in x is FILLING in both stores, and has one origin, or is FILLING in neither. -/
def SameFilling (x : DescId) (st st' : FrameStore) : Prop :=
  ((st'.desc x).state = .filling ↔ (st.desc x).state = .filling) ∧
    ((st.desc x).state = .filling → (st'.desc x).origin = (st.desc x).origin)

namespace SameFilling
variable {x : DescId} {st st' st'' : FrameStore}

theorem of_desc (h : st'.desc x = st.desc x) : SameFilling x st st' := by
  rw [SameFilling, h]
  exact ⟨Iff.rfl, fun _ => rfl⟩

theorem trans (h : SameFilling x st st') (h' : SameFilling x st' st'') : SameFilling x st st'' :=
  ⟨h'.1.trans h.1, fun hf => (h'.2 (h.1.2 hf)).trans (h.2 hf)⟩

theorem updRefs (d : DescId) (f : Descriptor → Nat) (st : FrameStore) :
    SameFilling x st (st.updDesc d fun y => { y with refs := f y }) := by
  rw [SameFilling, FrameStore.desc_updDesc]
  split <;> exact ⟨Iff.rfl, fun _ => rfl⟩

/-- Only a frame whose filling has ended is released. -/
theorem settle (d : DescId) (st : FrameStore) : SameFilling x st (st.settle d) := by
  by_cases hx : d = x
  · subst hx
    cases he : FrameStore.ended (st.desc d).state with
    | false => exact of_desc (by rw [FrameStore.settle_of_filling _ _ he])
    | true =>
      have hn : (st.desc d).state ≠ .filling := fun hf => by rw [hf] at he; cases he
      unfold FrameStore.settle
      split
      · rw [SameFilling, FrameStore.release_desc, if_pos rfl]
        exact ⟨⟨nofun, fun hf => absurd hf hn⟩, fun hf => absurd hf hn⟩
      · exact of_desc rfl
  · exact of_desc (FrameStore.settle_desc_of_ne _ _ _ hx)

theorem dropRef (d : DescId) (st : FrameStore) : SameFilling x st (st.dropRef d) :=
  (updRefs d (·.refs - 1) st).trans (settle d _)

theorem dropRefs (ds : List DescId) (s : State) : SameFilling x s.store (dropRefs ds s).store := by
  rw [Machine.dropRefs, State.updStore_store]
  generalize s.store = st
  induction ds generalizing st with
  | nil => exact of_desc rfl
  | cons d ds ih => exact (dropRef d st).trans (ih _)

theorem leaveQueue (d : DescId) (st : FrameStore) : SameFilling x st (st.leaveQueue d) := by
  unfold FrameStore.leaveQueue
  split
  · exact of_desc rfl
  · next c _ =>
    split
    · exact (of_desc (st' := st.unqueue c d) rfl).trans (updRefs d (·.refs - 1) _)
    · exact of_desc rfl

theorem failFrame {d : DescId} (h : d ≠ x) (r : FailReason) (s : State) :
    SameFilling x s.store (failFrame d r s).store := by
  unfold Machine.failFrame
  split
  · refine of_desc ?_
    simpa using (FrameStore.othersAlone_fail h s.store r).1
  · exact of_desc rfl

theorem emptyDelivery (p : PortIx) (s : State) : SameFilling x s.store (emptyDelivery p s).store :=
  dropRefs _ (s.updPort p _)

theorem abandonSending (p : PortIx) (s : State) : SameFilling x s.store (abandonSending p s).store := by
  unfold Machine.abandonSending
  split
  · exact of_desc rfl
  · exact dropRefs _ (s.updPort p _)

end SameFilling

/-- A frame that fails is FILLING no longer (R117). -/
theorem failFrame_ends (d : DescId) (r : FailReason) (s : State) :
    ((failFrame d r s).store.desc d).state ≠ .filling := by
  unfold failFrame
  split
  · have hfail : ((s.store.fail d r).desc d).state ≠ .filling := by
      intro hf
      have hsame := (SameFilling.leaveQueue (x := d) d (s.store.updDesc d fun x => { x with state := .failed r })).trans
        (SameFilling.settle d _)
      rw [FrameStore.fail, hsame.1, FrameStore.desc_updDesc_self] at hf
      cases hf
    simpa using hfail
  · assumption

/-! ### Framers and the frames that they receive (R113, R128) -/

/-- A framer has a frame just while it is receiving, FILLING and of its port: what a sound store says of framers. -/
def FramersSound (s : State) : Prop :=
  ∀ p, (s.framer p).receiving = (s.framer p).desc.isSome ∧
    ∀ d, (s.framer p).desc = some d → (s.store.desc d).state = .filling ∧ (s.store.desc d).origin = some (.tributary p)

namespace FramersSound
variable {s t : State}

theorem of_storeOk (h : StoreOk s) : FramersSound s := fun p => ⟨h.framer p, fun d hd =>
  have ⟨hfilling, horigin, _⟩ := h.framed p d hd
  ⟨hfilling, horigin⟩⟩

/-- A framer is kept or let go, and the frames of those kept stay as they are. -/
theorem mono (h : FramersSound s)
    (ht : ∀ p, t.framer p = s.framer p ∧ (∀ d, (s.framer p).desc = some d → SameFilling d s.store t.store) ∨
      t.framer p = (s.framer p).freed .idle) : FramersSound t := by
  intro p
  rcases ht p with ⟨hkept, hsame⟩ | hfreed
  · rw [hkept]
    obtain ⟨hreceiving, hframed⟩ := h p
    refine ⟨hreceiving, fun d hd => ?_⟩
    obtain ⟨hfilling, horigin⟩ := hframed d hd
    obtain ⟨hstate, hkept⟩ := hsame d hd
    exact ⟨hstate.2 hfilling, (hkept hfilling).trans horigin⟩
  · rw [hfreed]
    exact ⟨rfl, nofun⟩

/-- Two framers never have one frame. -/
theorem desc_ne (h : FramersSound s) {p k : PortIx} {x : DescId} (hx : (s.framer k).desc = some x) (hp : p ≠ k) :
    (s.framer p).desc ≠ some x := by
  intro hd
  obtain ⟨-, hp'⟩ := (h p).2 x hd
  obtain ⟨-, hk⟩ := (h k).2 x hx
  rw [hp'] at hk
  exact hp (Origin.tributary.inj (Option.some.inj hk))

end FramersSound

section
variable {p : PortIx} {s : State} (h : FramersSound s)
include h

theorem desc_of_receiving (hr : (s.framer p).receiving = true) : ∃ x, (s.framer p).desc = some x :=
  Option.isSome_iff_exists.1 ((h p).1 ▸ hr)

/-- A port whose frame in reception fails counts it, and its framer lets it go; the other ports are kept. -/
theorem port_receptionEnded (k : PortIx) : (receptionEnded p s).port k =
    if p = k ∧ (s.framer k).receiving = true then
      { s.port k with framer := (s.framer k).freed .idle, counters := failGroup .lineDown (s.port k).counters }
    else s.port k := by
  unfold receptionEnded
  split
  · next hr =>
    obtain ⟨x, hx⟩ := desc_of_receiving h hr
    obtain ⟨hfilling, horigin⟩ := (h p).2 x hx
    rw [framerFails_of_desc hx]
    simp only [updFramer, failFrame, hfilling, if_true, horigin, failAtPort, framerLoses, countPort, port_updPort]
    by_cases hk : p = k
    · subst hk
      simp only [if_true, true_and, hr]
      have hu : ∀ f, (s.updStore f).port p = s.port p := fun _ => rfl
      rw [hu]
      have hx' : (s.port p).framer.desc = some x := hx
      simp only [hx', if_true]
      rfl
    · simp only [hk, if_false, false_and]
      rfl
  · next hr => rw [if_neg fun ⟨hk, hr'⟩ => hr (hk ▸ hr')]

theorem sameFilling_receptionEnded {x : DescId} (hx : (s.framer p).desc ≠ some x) :
    SameFilling x s.store (receptionEnded p s).store := by
  unfold receptionEnded
  split
  · next hr =>
    obtain ⟨d, hd⟩ := desc_of_receiving h hr
    rw [framerFails_of_desc hd]
    exact SameFilling.failFrame (fun hdx => hx (by rw [hd, hdx])) _ s
  · exact SameFilling.of_desc rfl

end

/-! ### A port that stops serving (R127, R135, R137 to R139) -/

theorem port_emptyDelivery_of_ne {p k : PortIx} (h : p ≠ k) (s : State) : (emptyDelivery p s).port k = s.port k := by
  rw [emptyDelivery, port_dropRefs, port_updPort, if_neg h]

theorem port_abandonSending_of_ne {p k : PortIx} (h : p ≠ k) (s : State) : (abandonSending p s).port k = s.port k := by
  unfold abandonSending
  split <;> simp [port_updPort, h]

/-- What follows the end of the reception touches no other frame than by dropping references. -/
theorem sameFilling_stopServing_of_receptionEnded (x : DescId) (p : PortIx) (s : State) :
    SameFilling x (receptionEnded p s).store (stopServing p s).store := by
  rw [stopServing_eq]
  exact (SameFilling.emptyDelivery p (updFramer p (Framer.freed .idle) (receptionEnded p s))).trans
    (SameFilling.abandonSending p _)

/-- A frame that is not FILLING is not FILLING when a port has stopped. -/
theorem stopServing_keeps_ended {x : DescId} {s : State} (hx : (s.store.desc x).state ≠ .filling) (p : PortIx) :
    ((stopServing p s).store.desc x).state ≠ .filling := by
  rw [ne_eq, (sameFilling_stopServing_of_receptionEnded x p s).1]
  unfold receptionEnded
  split
  · unfold framerFails
    split
    · exact hx
    · next d _ =>
      by_cases hd : d = x
      · exact hd ▸ failFrame_ends d _ s
      · exact fun hf => hx ((SameFilling.failFrame hd _ s).1.1 hf)
  · exact hx

/-- A port that has stopped serving: its frame in reception is counted failed: other. -/
def Port.stopped (q : Port) : Port :=
  { q with
    framer := q.framer.freed .idle, delivery := [], sending := none, markPending := false, displaced := none
    counters := if q.framer.receiving then failGroup .lineDown q.counters else q.counters }

section
variable {p : PortIx} {s : State} (h : FramersSound s)
include h

theorem port_stopServing_self : (stopServing p s).port p = (s.port p).stopped := by
  have hended := port_receptionEnded h (p := p) p
  rw [port_stopServing, State.framer, hended]
  cases hr : (s.framer p).receiving with
  | true =>
    have hr' : (s.port p).framer.receiving = true := hr
    simp only [true_and, if_true, Port.stopped, hr']
    rfl
  | false =>
    have hr' : (s.port p).framer.receiving = false := hr
    simp only [true_and, Bool.false_eq_true, if_false, Port.stopped, hr']

theorem port_stopServing_of_ne {k : PortIx} (hk : p ≠ k) : (stopServing p s).port k = s.port k := by
  rw [stopServing_eq, port_abandonSending_of_ne hk, port_emptyDelivery_of_ne hk, updFramer, port_updPort, if_neg hk,
    port_receptionEnded h, if_neg fun hp => hk hp.1]

theorem sameFilling_stopServing {x : DescId} (hx : (s.framer p).desc ≠ some x) :
    SameFilling x s.store (stopServing p s).store :=
  (sameFilling_receptionEnded h hx).trans (sameFilling_stopServing_of_receptionEnded x p s)

/-- The frame in reception at a port that stops is FILLING no longer (R135). -/
theorem stopServing_ends {x : DescId} (hx : (s.framer p).desc = some x) :
    ((stopServing p s).store.desc x).state ≠ .filling := by
  rw [ne_eq, (sameFilling_stopServing_of_receptionEnded x p s).1, receptionEnded,
    if_pos ((h p).1.trans (by rw [hx]; rfl)), framerFails_of_desc hx]
  exact failFrame_ends x _ s

theorem FramersSound.stopServing : FramersSound (stopServing p s) := by
  refine h.mono fun k => ?_
  by_cases hk : p = k
  · subst hk
    right
    rw [State.framer, port_stopServing_self h]
    rfl
  · exact .inl ⟨congrArg Port.framer (port_stopServing_of_ne h hk),
      fun d hd => sameFilling_stopServing h (h.desc_ne hd hk)⟩

end

/-! ### A port's configuration changes (R126, R127) -/

/-- A port under a new configuration: it stops, it starts, or it changes in its configuration alone. -/
def Port.configured (c : PortConfig) (q : Port) : Port :=
  match q.serving, ({ q with config := c } : Port).serving with
  | true, false => { q with config := c }.stopped
  | false, true => { q with config := c, framer := q.framer.freed .idle }
  | true, true => { q with config := c }
  | false, false => { q with config := c }

/-- Port p takes the configuration c. -/
def configurePort (p : PortIx) (c : PortConfig) (s : State) : State := changePort p (fun q => { q with config := c }) s

namespace Port

theorem configured_config (c : PortConfig) (q : Port) : (q.configured c).config = c := by
  unfold configured
  split <;> rfl

theorem configured_rx (c : PortConfig) (q : Port) : (q.configured c).rx = q.rx := by
  unfold configured
  split <;> rfl

theorem configured_serving (c : PortConfig) (q : Port) :
    (q.configured c).serving = ({ q with config := c } : Port).serving := by
  rw [serving, configured_config, configured_rx]
  rfl

theorem configured_of_same {c : PortConfig} {q : Port} (h : ({ q with config := c } : Port).serving = q.serving) :
    q.configured c = { q with config := c } := by
  unfold configured
  rw [h]
  cases q.serving <;> rfl

theorem configured_of_stops {c : PortConfig} {q : Port} (h : q.serving = true) (hc : (q.configured c).serving = false) :
    q.configured c = { q with config := c }.stopped := by
  rw [configured_serving] at hc
  rw [configured, h, hc]

theorem configured_of_starts {c : PortConfig} {q : Port} (h : q.serving = false) (hc : (q.configured c).serving = true) :
    q.configured c = { q with config := c, framer := q.framer.freed .idle } := by
  rw [configured_serving] at hc
  rw [configured, h, hc]

theorem configured_self (q : Port) : q.configured q.config = q := configured_of_same rfl

end Port

theorem config_stopServing (p k : PortIx) (s : State) : ((stopServing p s).port k).config = (s.port k).config := by
  by_cases hk : p = k
  · subst hk
    rw [port_stopServing]
    exact (LinesKept.receptionEnded p s p).1
  · rw [stopServing_eq, port_abandonSending_of_ne hk, port_emptyDelivery_of_ne hk, updFramer, port_updPort, if_neg hk]
    exact (LinesKept.receptionEnded p s k).1

theorem config_configurePort (p k : PortIx) (c : PortConfig) (s : State) :
    ((configurePort p c s).port k).config = if p = k then c else (s.port k).config := by
  have hu : ((s.updPort p fun q => { q with config := c }).port k).config = if p = k then c else (s.port k).config := by
    rw [port_updPort]
    split <;> rfl
  rw [← hu]
  unfold configurePort changePort
  dsimp only
  split
  · exact config_stopServing p k _
  · exact (LinesKept.updFramer p (Framer.freed .idle) _ k).1
  · rfl
  · rfl

theorem configurePort_keeps_ended {x : DescId} {s : State} (hx : (s.store.desc x).state ≠ .filling) (p : PortIx)
    (c : PortConfig) : ((configurePort p c s).store.desc x).state ≠ .filling := by
  unfold configurePort changePort
  dsimp only
  split
  · exact stopServing_keeps_ended (s := s.updPort p fun q => { q with config := c }) hx p
  all_goals exact hx

section
variable {p : PortIx} {s : State}

theorem framer_updConfig (c : PortConfig) (k : PortIx) :
    (s.updPort p fun q => { q with config := c }).framer k = s.framer k := by
  rw [State.framer, port_updPort]
  split <;> rfl

theorem FramersSound.updConfig (h : FramersSound s) (p : PortIx) (c : PortConfig) :
    FramersSound (s.updPort p fun q => { q with config := c }) :=
  h.mono fun k => .inl ⟨framer_updConfig c k, fun _ _ => SameFilling.of_desc rfl⟩

theorem FramersSound.configurePort (h : FramersSound s) (p : PortIx) (c : PortConfig) :
    FramersSound (configurePort p c s) := by
  have hu := h.updConfig p c
  unfold Machine.configurePort changePort
  dsimp only
  split
  · exact hu.stopServing
  · refine hu.mono fun k => ?_
    rw [startServing, State.framer, updFramer, port_updPort]
    split
    · exact .inr rfl
    · exact .inl ⟨rfl, fun _ _ => SameFilling.of_desc rfl⟩
  · exact hu
  · exact hu

theorem port_configurePort (h : FramersSound s) (c : PortConfig) (k : PortIx) :
    (configurePort p c s).port k = if p = k then (s.port k).configured c else s.port k := by
  have hu := h.updConfig p c
  have hself : (s.updPort p fun q => { q with config := c }).port p = { s.port p with config := c } :=
    port_updPort_self ..
  by_cases hk : p = k
  · subst hk
    rw [if_pos rfl, configurePort, changePort, hself, Port.configured]
    dsimp only
    cases hb : (s.port p).serving <;> cases ha : ({ s.port p with config := c } : Port).serving
    · exact hself
    · rw [startServing, updFramer, port_updPort_self, hself]
    · rw [port_stopServing_self hu, hself]
    · exact hself
  · have hother : (s.updPort p fun q => { q with config := c }).port k = s.port k := by rw [port_updPort, if_neg hk]
    rw [if_neg hk, ← hother, configurePort, changePort]
    split
    · exact port_stopServing_of_ne hu hk
    · rw [startServing, updFramer, port_updPort, if_neg hk]
    · rfl
    · rfl

/-- A port that stops ends its frame in reception (R127, R135). -/
theorem configurePort_ends (h : FramersSound s) {x : DescId} (hx : (s.framer p).desc = some x) {c : PortConfig}
    (hbefore : (s.port p).serving = true) (hafter : ((s.port p).configured c).serving = false) :
    ((configurePort p c s).store.desc x).state ≠ .filling := by
  rw [Port.configured_serving] at hafter
  rw [configurePort, changePort_stops hbefore hafter]
  exact stopServing_ends (h.updConfig p c) ((congrArg Framer.desc (framer_updConfig c p)).trans hx)

end

/-! ### The configurations of a WRITE take effect in turn (R126) -/

theorem applyConfigs_cons (i : Nat) (x : PortConfig) (xs : List PortConfig) (s : State) :
    applyConfigs i (x :: xs) s =
      applyConfigs (i + 1) xs (if h : i < 4 then configurePort ⟨i, h⟩ x s else s) := rfl

theorem config_applyConfigs (es : List PortConfig) (i : Nat) (s : State) (p : PortIx) :
    ((applyConfigs i es s).port p).config = written i es p.val (s.port p).config := by
  induction es generalizing i s with
  | nil => simp [applyConfigs, written]
  | cons x xs ih =>
    rw [applyConfigs_cons, ih, written_cons]
    split
    · next hi =>
      rw [config_configurePort]
      by_cases hp : p.val = i
      · rw [if_pos (Fin.ext hp.symm), if_pos hp, written_of_lt (by omega)]
      · rw [if_neg fun he => hp (congrArg Fin.val he).symm, if_neg hp]
    · next hi => rw [if_neg (by omega)]

theorem applyConfigs_keeps_ended {x : DescId} (es : List PortConfig) (i : Nat) (s : State)
    (hx : (s.store.desc x).state ≠ .filling) : ((applyConfigs i es s).store.desc x).state ≠ .filling := by
  induction es generalizing i s with
  | nil => exact hx
  | cons c es ih =>
    rw [applyConfigs_cons]
    split
    · exact ih _ _ (configurePort_keeps_ended hx _ c)
    · exact ih _ _ hx

theorem port_applyConfigs (es : List PortConfig) (i : Nat) {s : State} (h : FramersSound s) (p : PortIx) :
    (applyConfigs i es s).port p = (s.port p).configured (written i es p.val (s.port p).config) := by
  induction es generalizing i s with
  | nil => simpa [applyConfigs, written] using (s.port p).configured_self.symm
  | cons x xs ih =>
    rw [applyConfigs_cons, written_cons]
    split
    · next hi =>
      rw [ih (i + 1) (h.configurePort _ x), port_configurePort h]
      by_cases hp : p.val = i
      · rw [if_pos (Fin.ext hp.symm), if_pos hp, written_of_lt (by omega)]
        exact Port.configured_self _
      · rw [if_neg fun he => hp (congrArg Fin.val he).symm, if_neg hp]
    · next hi => rw [ih (i + 1) h, if_neg (by omega)]

/-- The frame in reception at a port that a WRITE stops is FILLING no longer (R127, R135). -/
theorem applyConfigs_ends (es : List PortConfig) (i : Nat) {s : State} (h : FramersSound s) {p : PortIx} {x : DescId}
    (hx : (s.framer p).desc = some x) (hbefore : (s.port p).serving = true)
    (hafter : ((applyConfigs i es s).port p).serving = false) :
    ((applyConfigs i es s).store.desc x).state ≠ .filling := by
  induction es generalizing i s with
  | nil =>
    rw [applyConfigs, hbefore] at hafter
    cases hafter
  | cons c es ih =>
    rw [applyConfigs_cons] at hafter ⊢
    split at hafter
    · next hi =>
      rw [dif_pos hi]
      by_cases hp : p.val = i
      · have hpi : (⟨i, hi⟩ : PortIx) = p := Fin.ext hp.symm
        rw [hpi] at hafter ⊢
        rw [port_applyConfigs es _ (h.configurePort p c), written_of_lt (by omega), Port.configured_self,
          port_configurePort h, if_pos rfl] at hafter
        exact applyConfigs_keeps_ended es _ _ (configurePort_ends h hx hbefore hafter)
      · have hport : (configurePort ⟨i, hi⟩ c s).port p = s.port p := by
          rw [port_configurePort h, if_neg fun he => hp (congrArg Fin.val he).symm]
        exact ih _ (h.configurePort _ c) ((congrArg (·.framer.desc) hport).trans hx)
          ((congrArg Port.serving hport).trans hbefore) hafter
    · next hi =>
      rw [dif_neg hi]
      exact ih _ h hx hbefore hafter

end Sys2Proof.Machine
end

section
/-! A WRITE of valid entries reaches its table (R58, R126, R146, R147, R153, R154, R166). -/

namespace Sys2Proof.Machine

/-! ### The answer to a WRITE (R164) -/

/-- The frames but for the reply's own are as the execution left them. -/
theorem answered_desc {d x : DescId} (h : x ≠ d) (r : Request) (o : Done) :
    (answered d r o).store.desc x = o.state.store.desc x := by
  have hrecorded : (recordOutcome r o.status (countRefused o.status o.state)).store = o.state.store := by
    obtain ⟨l, hl⟩ := recordOutcome_eq r o.status (countRefused o.status o.state)
    rw [hl]
    unfold countRefused
    split <;> rfl
  obtain ⟨bs, hs⟩ := reply_store d r o.status false false o.data
    (recordOutcome r o.status (countRefused o.status o.state))
  rw [hrecorded] at hs
  obtain ⟨-, -, -, hbuilt⟩ := o.state.store.build_desc d bs
  rw [answered, hs, FrameStore.admitTail_desc, if_neg h.symm, hbuilt x h]

theorem writeRow_injective {t t' : TableId} (ht : t.readOnly = false) (h : t'.writeRow = t.writeRow) : t' = t := by
  cases t <;> cases t' <;> simp_all [TableId.writeRow, TableId.readOnly]

section
variable {t : TableId} {q d : DescId} {qs : List DescId} {r : Request} {s : State}

/-- A WRITE that passes the checks 1 to 5 is answered, and what it performs on its table is what the device keeps. -/
theorem exec_write (h : RequestReady t.writeRow q d qs r s) (hf : Fresh r s) (hp : r.preCheck = .ok)
    (ht : t.readOnly = false) : ∃ st v, s.store.agentClaim (replyCells r s.agent.replay) = some (d, st) ∧
      exec t.writeRow.command s = .next v ∧ Replied d qs s v ∧
      Served (performWrite t r (performedIn q qs st s)).state v ∧
      ∀ x, x ≠ d → v.store.desc x = (performWrite t r (performedIn q qs st s)).state.store.desc x := by
  have hkind := kind_writeRow t
  have hrow : t.writeRow ≠ .trafficReset := fun he => by
    rw [he] at hkind
    cases hkind
  obtain ⟨st, hc, hexec⟩ := exec_of_passed h hf hp hrow (by rw [hkind]; nofun)
  obtain ⟨t', ht', hrow'⟩ := table_of_row h.row hkind
  obtain rfl := writeRow_injective ht hrow'
  have hwrite : ∀ u, performKind t'.writeRow.kind r u = performWrite t' r u := fun u => by rw [hkind, performKind, ht']
  rw [hwrite] at hexec
  have hagent : (performWrite t' r (performedIn q qs st s)).state.agent = (performedIn q qs st s).agent := by simp
  exact ⟨st, _, hc, hexec, performedIn_replied hagent, answered_served d r _, fun x hx => answered_desc hx r _⟩

/-- A WRITE that passes its checks writes one entry at least (R165, check 4). -/
theorem count_pos_of_passed (hk : kindOf r.kind = some .write) (hp : r.preCheck = .ok) : 0 < r.count := by
  obtain ⟨t, ht⟩ := table_of_passed hk rfl hp
  rw [preCheck_of_table hk rfl ht] at hp
  rw [Nat.pos_iff_ne_zero]
  intro h0
  by_cases hl : r.len - 6 = r.requiredLength .write t
  · rw [laterChecks_of_index hl rfl (.inl h0)] at hp
    cases hp
  · rw [laterChecks_of_length hl] at hp
    cases hp

end

/-! ### CLASSIFY, PORT_DEFAULT, CLASS_POLICY and ROUTE (R146, R147, R153, R154) -/

section
variable {q d : DescId} {qs : List DescId} {r : Request} {s : State}

theorem writeClassify_reaches (h : RequestReady .writeClassify q d qs r s) (hf : Fresh r s) (hp : r.preCheck = .ok)
    {es : List ClassEntry} (he : EntriesAre r 7 (fun _ bs => classEntryOf bs) es) :
    ∃ t, exec .writeClassify s = .next t ∧ Replied d qs s t ∧ t.routes = s.routes ∧ t.policy = s.policy ∧
      t.classifier.defaults = s.classifier.defaults ∧
      ∀ i, vget t.classifier.entries i = written r.index es i.val (vget s.classifier.entries i) := by
  obtain ⟨st, v, -, hexec, hreplied, hs, -⟩ := exec_write (t := .classify) h hf hp rfl
  rw [performWrite, performWriteClassify_eq, writeAll_of_entries he] at hs
  refine ⟨v, hexec, hreplied, hs.routes, hs.policy, by rw [hs.classifier]; rfl, fun i => ?_⟩
  rw [hs.classifier]
  exact vget_writeFrom_eq_written _ _ es i

theorem writePortDefault_reaches (h : RequestReady .writePortDefault q d qs r s) (hf : Fresh r s) (hp : r.preCheck = .ok)
    {es : List Action} (he : EntriesAre r 1 (fun _ bs => actionOf (byteAt bs 0)) es) :
    ∃ t, exec .writePortDefault s = .next t ∧ Replied d qs s t ∧ t.routes = s.routes ∧ t.policy = s.policy ∧
      t.classifier.entries = s.classifier.entries ∧
      ∀ i, vget t.classifier.defaults i = written r.index es i.val (vget s.classifier.defaults i) := by
  obtain ⟨st, v, -, hexec, hreplied, hs, -⟩ := exec_write (t := .portDefault) h hf hp rfl
  rw [performWrite, performWritePortDefault_eq, writeAll_of_entries he] at hs
  refine ⟨v, hexec, hreplied, hs.routes, hs.policy, by rw [hs.classifier]; rfl, fun i => ?_⟩
  rw [hs.classifier]
  exact vget_writeFrom_eq_written _ _ es i

theorem writeClassPolicy_reaches (h : RequestReady .writeClassPolicy q d qs r s) (hf : Fresh r s) (hp : r.preCheck = .ok)
    {es : List ClassPolicy} (he : EntriesAre r 3 (fun _ bs => classPolicyOf bs) es) :
    ∃ t, exec .writeClassPolicy s = .next t ∧ Replied d qs s t ∧ t.routes = s.routes ∧
      t.classifier = s.classifier ∧ ∀ i, vget t.policy i = written r.index es i.val (vget s.policy i) := by
  obtain ⟨st, v, -, hexec, hreplied, hs, -⟩ := exec_write (t := .classPolicy) h hf hp rfl
  rw [performWrite, performWriteClassPolicy_eq, writeAll_of_entries he] at hs
  refine ⟨v, hexec, hreplied, hs.routes, hs.classifier, fun i => ?_⟩
  rw [hs.policy]
  exact vget_writeFrom_eq_written _ _ es i

theorem writeRoute_reaches (h : RequestReady .writeRoute q d qs r s) (hf : Fresh r s) (hp : r.preCheck = .ok)
    {es : List Route} (he : EntriesAre r 4 (fun _ bs => routeOf s.agent.address bs) es) :
    ∃ t, exec .writeRoute s = .next t ∧ Replied d qs s t ∧ t.classifier = s.classifier ∧ t.policy = s.policy ∧
      (SameAddressTwice (routesAfter r es s) → t.routes = s.routes) ∧
      (¬ SameAddressTwice (routesAfter r es s) → ∀ i, vget t.routes i = routesAfter r es s i) := by
  obtain ⟨st, v, -, hexec, hreplied, hs, -⟩ := exec_write (t := .route) h hf hp rfl
  have he' : EntriesAre r 4 (fun _ bs => routeOf (performedIn q qs st s).agent.address bs) es := he
  have hunique := routeAddresses_writeFrom_nodup r (performedIn q qs st s) es
  have hafter : routesAfter r es (performedIn q qs st s) = routesAfter r es s := rfl
  rw [performWrite, performWriteRoute_eq, writeAll_of_entries he'] at hs
  rw [hafter] at hunique
  by_cases htwice : SameAddressTwice (routesAfter r es s)
  · rw [if_neg fun hn => hunique.1 hn htwice] at hs
    exact ⟨v, hexec, hreplied, hs.classifier, hs.policy, fun _ => hs.routes, fun hn => absurd htwice hn⟩
  · rw [if_pos (hunique.2 htwice)] at hs
    refine ⟨v, hexec, hreplied, hs.classifier, hs.policy, fun hn => absurd hn htwice, fun _ i => ?_⟩
    rw [hs.routes]
    exact vget_writeFrom_eq_written _ _ es i

end

/-! ### PORT_CONFIG (R126, R127, R135, R137 to R139) -/

section
variable {q d : DescId} {qs : List DescId} {r : Request} {s : State} {st : FrameStore}

/-- The claim and the request's own reference touch no frame in reception. -/
theorem framersSound_performedIn (hs : StoreOk s)
    (hc : s.store.agentClaim (replyCells r s.agent.replay) = some (d, st)) : FramersSound (performedIn q qs st s) := by
  obtain ⟨hfree, -⟩ := agentClaim_some hc
  refine (FramersSound.of_storeOk hs).mono fun p => .inl ⟨rfl, fun x hx => ?_⟩
  have hxd : x ≠ d := fun hxd => (apart_of_free hs hfree).framer p (hxd ▸ hx)
  exact (SameFilling.of_desc (agentClaim_others hc hxd)).trans (SameFilling.dropRef q st)

theorem writePortConfig_reaches (h : RequestReady .writePortConfig q d qs r s) (hf : Fresh r s) (hp : r.preCheck = .ok)
    {es : List PortConfig} (he : EntriesAre r 3 (fun _ bs => portConfigOf bs) es) :
    ∃ t, exec .writePortConfig s = .next t ∧ Replied d qs s t ∧ t.classifier = s.classifier ∧ t.policy = s.policy ∧
      t.routes = s.routes ∧ ∀ p : PortIx, (t.port p).config = written r.index es p.val (s.port p).config ∧
        (StoreOk s → t.port p = (s.port p).configured (t.port p).config ∧
          ((s.port p).serving = true → (t.port p).serving = false →
            ∀ x, (s.framer p).desc = some x → (t.store.desc x).state ≠ .filling)) := by
  obtain ⟨st, v, hc, hexec, hreplied, hs, hdesc⟩ := exec_write (t := .portConfig) h hf hp rfl
  rw [performWrite, performWritePortConfig_eq, writeAll_of_entries he] at hs hdesc
  have hport : ∀ p, v.port p = (applyConfigs r.index es (performedIn q qs st s)).port p :=
    fun p => congrArg (vget · p) hs.ports
  have hconfig : ∀ p, (v.port p).config = written r.index es p.val (s.port p).config := fun p => by
    rw [hport, config_applyConfigs]
    rfl
  have hkept : (applyConfigs r.index es (performedIn q qs st s)).classifier = s.classifier ∧
      (applyConfigs r.index es (performedIn q qs st s)).policy = s.policy ∧
      (applyConfigs r.index es (performedIn q qs st s)).routes = s.routes := by
    simp only [applyConfigs_frame]
    exact ⟨rfl, rfl, rfl⟩
  obtain ⟨hclassifier, hpolicy, hroutes⟩ := hkept
  refine ⟨v, hexec, hreplied, hs.classifier.trans hclassifier, hs.policy.trans hpolicy, hs.routes.trans hroutes,
    fun p => ⟨hconfig p, fun hok => ?_⟩⟩
  have hsound := framersSound_performedIn (q := q) (qs := qs) hok hc
  refine ⟨?_, fun hbefore hafter x hx => ?_⟩
  · rw [hconfig, hport, port_applyConfigs es _ hsound]
    rfl
  · obtain ⟨hfree, -⟩ := agentClaim_some hc
    rw [hdesc x fun hxd => (apart_of_free hok hfree).framer p (hxd ▸ hx)]
    exact applyConfigs_ends es _ hsound hx hbefore (hport p ▸ hafter)

end

/-! ### SCHEDULE_STANDBY (R57, R58) -/

theorem scheduleEntryOf_zero {bs : List Byte} {e : ScheduleEntry} (h : scheduleEntryOf 0 bs = some e) :
    ∃ l n, e = .header l n := ⟨_, _, ((ite_some_none_iff _ _).1 h).2⟩

theorem scheduleEntryOf_succ {i : Nat} {bs : List Byte} {e : ScheduleEntry} (h : scheduleEntryOf (i + 1) bs = some e) :
    ∃ w, e = .window w := ⟨_, ((ite_some_none_iff _ _).1 h).2⟩

/-- The entries written are windows. -/
def AllWindows (es : List ScheduleEntry) : Prop := ∀ e ∈ es, ∃ w, e = .window w

theorem Bank.window_val (k : Bank) (m : Fin 16) : k.window m.val = vget k.windows m := dif_pos m.isLt

theorem Bank.window_writeEntry (i : Nat) (w : Window) (k : Bank) (m : Fin 16) :
    (k.writeEntry (i + 1) (.window w)).window m.val = if m.val = i then w else k.window m.val := by
  rw [Bank.window_val, Bank.window_val, Bank.writeEntry]
  split
  · next hi =>
    rw [vget_vset]
    by_cases hm : m.val = i
    · rw [if_pos hm, if_pos (Fin.ext hm.symm)]
    · rw [if_neg hm, if_neg fun he => hm (congrArg Fin.val he).symm]
  · next hi => rw [if_neg (by omega)]

theorem Bank.writeEntry_window_frame (i : Nat) (w : Window) (k : Bank) :
    (k.writeEntry i (.window w)).length = k.length ∧ (k.writeEntry i (.window w)).count = k.count := by
  unfold Bank.writeEntry
  dsimp only
  split <;> exact ⟨rfl, rfl⟩

/-- Windows written keep the header. -/
theorem Bank.header_writeEntries {es : List ScheduleEntry} (h : AllWindows es) (i : Nat) (k : Bank) :
    (k.writeEntries i es).length = k.length ∧ (k.writeEntries i es).count = k.count := by
  induction es generalizing i k with
  | nil => exact ⟨rfl, rfl⟩
  | cons e es ih =>
    obtain ⟨w, rfl⟩ := h e List.mem_cons_self
    obtain ⟨hlength, hcount⟩ := ih (fun e he => h e (List.mem_cons_of_mem _ he)) (i + 1) (k.writeEntry i (.window w))
    obtain ⟨hl, hn⟩ := k.writeEntry_window_frame i w
    exact ⟨hlength.trans hl, hcount.trans hn⟩

/-- Windows written from entry i + 1 upward stand in their places, and the others are kept. -/
theorem Bank.windows_writeEntries {es : List ScheduleEntry} (h : AllWindows es) (i : Nat) (k : Bank) (m : Fin 16) :
    if i ≤ m.val ∧ m.val < i + es.length then
      es[m.val - i]? = some (.window ((k.writeEntries (i + 1) es).window m.val))
    else (k.writeEntries (i + 1) es).window m.val = k.window m.val := by
  induction es generalizing i k with
  | nil =>
    rw [if_neg (by simp)]
    rfl
  | cons e es ih =>
    obtain ⟨w, rfl⟩ := h e List.mem_cons_self
    have ih := ih (fun e he => h e (List.mem_cons_of_mem _ he)) (i + 1) (k.writeEntry (i + 1) (.window w))
    rw [Bank.window_writeEntry] at ih
    have hstep : k.writeEntries (i + 1) (.window w :: es) =
        (k.writeEntry (i + 1) (.window w)).writeEntries (i + 1 + 1) es := rfl
    rw [hstep, List.length_cons]
    rcases Nat.lt_trichotomy m.val i with hm | hm | hm
    · rw [if_neg (by omega), if_neg (by omega)] at ih
      rw [if_neg (by omega), ih]
    · rw [if_neg (by omega), if_pos hm] at ih
      rw [if_pos (by omega), ih, hm, Nat.sub_self]
      rfl
    · obtain ⟨j, hj⟩ : ∃ j, m.val - i = j + 1 := ⟨m.val - i - 1, by omega⟩
      rw [if_neg (by omega : ¬ m.val = i), show m.val - (i + 1) = j by omega] at ih
      rw [hj, List.getElem?_cons_succ]
      by_cases hlast : m.val < i + 1 + es.length
      · rw [if_pos (by omega)] at ih ⊢
        exact ih
      · rw [if_neg (by omega)] at ih ⊢
        exact ih

/-- What a WRITE of es from entry i upward makes of a bank (R57, R58). -/
def StandbyWritten (i n : Nat) (es : List ScheduleEntry) (old new : Bank) : Prop :=
  (i = 0 → es[0]? = some (.header new.length new.count)) ∧
    (i ≠ 0 → new.length = old.length ∧ new.count = old.count) ∧
    ∀ m : Fin 16, if i ≤ m.val + 1 ∧ m.val + 1 < i + n then es[m.val + 1 - i]? = some (.window (new.window m.val))
      else new.window m.val = old.window m.val

theorem standbyWritten {r : Request} {es : List ScheduleEntry}
    (he : EntriesAre r 4 (fun j bs => scheduleEntryOf (r.index + j) bs) es) (hn : 0 < r.count) (k : Bank) :
    StandbyWritten r.index r.count es k (k.writeEntries r.index es) := by
  obtain ⟨hlength, hentries⟩ := he
  have hwindow : ∀ j e, es[j]? = some e → r.index + j ≠ 0 → ∃ w, e = .window w := fun j e hj hne => by
    obtain ⟨m, hm⟩ := Nat.exists_eq_succ_of_ne_zero hne
    have h : scheduleEntryOf (r.index + j) _ = some e := hentries j e hj
    rw [hm] at h
    exact scheduleEntryOf_succ h
  rw [StandbyWritten, ← hlength]
  cases hi : r.index with
  | succ i =>
    have hall : AllWindows es := fun e he => by
      obtain ⟨j, hj⟩ := List.mem_iff_getElem?.1 he
      exact hwindow j e hj (by omega)
    refine ⟨nofun, fun _ => Bank.header_writeEntries hall _ k, fun m => ?_⟩
    have h := Bank.windows_writeEntries hall i k m
    rw [show m.val + 1 - (i + 1) = m.val - i by omega]
    split
    · rwa [if_pos (by omega)] at h
    · rwa [if_neg (by omega)] at h
  | zero =>
    cases es with
    | nil => exact absurd hlength (by simp; omega)
    | cons e es =>
      have hzero := hentries 0 e rfl
      rw [hi] at hzero
      obtain ⟨l, n, rfl⟩ := scheduleEntryOf_zero hzero
      have hall : AllWindows es := fun e he => by
        obtain ⟨j, hj⟩ := List.mem_iff_getElem?.1 he
        exact hwindow (j + 1) e (by simpa using hj) (by omega)
      have hstep : k.writeEntries 0 (.header l n :: es) =
          Bank.writeEntries (0 + 1) es { k with length := l, count := n } := rfl
      obtain ⟨hl, hc⟩ := Bank.header_writeEntries hall (0 + 1) { k with length := l, count := n }
      rw [hstep]
      refine ⟨fun _ => by rw [hl, hc]; rfl, fun h => absurd rfl h, fun m => ?_⟩
      have h := Bank.windows_writeEntries hall 0 { k with length := l, count := n } m
      rw [Nat.sub_zero, List.getElem?_cons_succ, List.length_cons]
      split
      · rwa [if_pos (by omega)] at h
      · rwa [if_neg (by omega)] at h

theorem writeStandby_reaches {q d : DescId} {qs : List DescId} {r : Request} {s : State}
    (h : RequestReady .writeScheduleStandby q d qs r s) (hf : Fresh r s) (hp : r.preCheck = .ok)
    {es : List ScheduleEntry} (he : EntriesAre r 4 (fun j bs => scheduleEntryOf (r.index + j) bs) es) :
    ∃ t, exec .writeScheduleStandby s = .next t ∧ Replied d qs s t ∧ t.sched.activeBank = s.sched.activeBank ∧
      t.sched.commit = s.sched.commit ∧ t.sched.counter = s.sched.counter ∧
      (s.sched.commit = .pending → t.sched.standbyBank = s.sched.standbyBank) ∧
      (s.sched.commit = .idle →
        StandbyWritten r.index r.count es s.sched.standbyBank t.sched.standbyBank) := by
  have hn := count_pos_of_passed (kindOf_of_row h.row) hp
  obtain ⟨st, v, -, hexec, hreplied, hs, -⟩ := exec_write (t := .scheduleStandby) h hf hp rfl
  have hsched : (performedIn q qs st s).sched = s.sched := rfl
  rw [performWrite] at hs
  cases hcommit : s.sched.commit with
  | pending =>
    rw [performWriteStandby_of_pending _ _ (by rw [hsched, hcommit])] at hs
    have hkept : v.sched = s.sched := hs.sched
    refine ⟨v, hexec, hreplied, ?_⟩
    rw [hkept, hcommit]
    exact ⟨rfl, rfl, rfl, fun _ => rfl, nofun⟩
  | idle =>
    rw [performWriteStandby_of_idle _ _ (by rw [hsched, hcommit]), writeAll_of_entries he] at hs
    have hset : v.sched = s.sched.setStandby (s.sched.standbyBank.writeEntries r.index es) := hs.sched
    refine ⟨v, hexec, hreplied, ?_⟩
    simp only [hset, Schedule.setStandby_frame]
    exact ⟨trivial, hcommit, trivial, nofun, fun _ => standbyWritten he hn _⟩

/-- Settles O47: one lemma for each table written (`writeClassify_reaches` to `writeStandby_reaches`), one for what is an
entry of each (`classEntryOf_iff` to `windowOf_iff`), and one for the decoding of each layout. -/
theorem writeReachesItsTable : Obligations.WriteReachesItsTable := by
  refine ⟨fun k q d qs r s h hf hp => ⟨?_, ?_, ?_, ?_, ?_, ?_⟩, classEntryOf_iff, actionOf_iff, classPolicyOf_iff,
    routeOf_iff, portConfigOf_iff, fun b0 b1 b2 b3 x => ⟨scheduleHeaderOf_iff b0 b1 b2 b3 x,
      fun i => windowOf_iff i b0 b1 b2 b3 x⟩, classEntryOf_layoutClassEntry, actionOf_layoutAction, classPolicyOf_layout,
    routeOf_layout, portConfigOf_layoutPortConfig, scheduleEntryOf_header, scheduleEntryOf_window⟩
  · rintro rfl es he
    exact writeClassify_reaches h hf hp he
  · rintro rfl es he
    exact writePortDefault_reaches h hf hp he
  · rintro rfl es he
    exact writeClassPolicy_reaches h hf hp he
  · rintro rfl es he
    exact writeRoute_reaches h hf hp he
  · rintro rfl es he
    obtain ⟨t, hexec, hreplied, hclassifier, hpolicy, hroutes, hports⟩ := writePortConfig_reaches h hf hp he
    refine ⟨t, hexec, hreplied, hclassifier, hpolicy, hroutes, fun p => ?_⟩
    obtain ⟨hconfig, hsound⟩ := hports p
    refine ⟨hconfig, fun hok hsame => ?_, fun hok hbefore hafter => ?_, fun hok hbefore hafter => ?_⟩
    · obtain ⟨hport, -⟩ := hsound hok
      rw [Port.configured_of_same (by rw [← Port.configured_serving, ← hport, hsame])] at hport
      exact hport
    · obtain ⟨hport, hends⟩ := hsound hok
      have hends := hends hbefore hafter
      rw [hport] at hafter
      rw [Port.configured_of_stops hbefore hafter] at hport
      rw [hport]
      exact ⟨rfl, rfl, rfl, rfl, rfl, rfl, rfl, rfl, hends⟩
    · obtain ⟨hport, -⟩ := hsound hok
      rw [hport] at hafter
      rw [Port.configured_of_starts hbefore hafter] at hport
      exact hport
  · rintro rfl es he
    exact writeStandby_reaches h hf hp he

end Sys2Proof.Machine
end

section
/-! Missed-mark checks (R82, R84): the check that is due, the one that is not, and the one that begins its slot. -/

namespace Sys2Proof.Machine

/-! ### The missed-mark check of a slot (R82, R84) -/

theorem missedDue_iff {s : State} : missedDue s = true ↔ s.align.state = .locked ∧ s.align.expect = true ∧
    s.align.width < s.sched.counter ∧ s.sched.slotWidth < s.sched.counter := by
  simp only [missedDue, Bool.and_eq_true, decide_eq_true_eq, and_assoc]

/-- The expected mark is given up and counted as missed (R82). -/
def markMissed (s : State) : State := { s with align := { s.align with
  expect := false
  counters := { s.align.counters with missed := ctrInc s.align.counters.missed } } }

theorem missedCheck_of_due {s : State} (hd : missedDue s = true) : missedCheck s = takeMiss (markMissed s) := if_pos hd

theorem missedCheck_of_not_due {s : State} (hd : missedDue s = false) : missedCheck s = s := if_neg (by rw [hd]; nofun)

/-- The check that is due in the slot that has begun (R82). -/
theorem missedMarkCheck_of_due {s : State} (hb : s.sched.slotBegun = true) (hd : missedDue s = true) :
    missedMarkCheck s = raiseAll (missRaises s) (takeMiss (markMissed s)) := by
  rw [missedMarkCheck, beginSlot_of_begun hb, if_pos hd, beginRaises_of_begun hb, List.nil_append, missedRaises, if_pos hd,
    missedCheck_of_due hd]

theorem missedMarkCheck_of_not_due {s : State} (hd : missedDue (beginSlot s) = false) : missedMarkCheck s = s :=
  if_neg (by rw [hd]; nofun)

/-- A check in the slot that it begins is a check in the slot begun, but for the raise of the wrap (R54). -/
theorem missedMarkCheck_beginSlot {s : State} (he : beginRaises s = []) (hd : missedDue (beginSlot s) = true) :
    missedMarkCheck s = missedMarkCheck (beginSlot s) := by
  have hb := beginSlot_slotBegun s
  rw [missedMarkCheck, missedMarkCheck, beginSlot_of_begun hb, if_pos hd, if_pos hd, he, beginRaises_of_begun hb]

theorem exec_missedMarkCheck {s : State} (h : s.resetHeld = false) :
    exec .missedMarkCheck s = .next (missedMarkCheck s) := by
  simp [exec, execMissedMarkCheck, whenRunning, h]

/-- Settles O16: the miss of a due check by `missedMarkCheck_of_due`, the check that is not due by
`missedMarkCheck_of_not_due`, and the check that begins its slot by `missedMarkCheck_beginSlot`. -/
theorem missedMarkIsAMiss : Obligations.MissedMarkIsAMiss := by
  refine ⟨fun s h hb hl he hw hs => ?_, fun s h => ⟨fun hb hn => ?_, fun hb hl he ha hw => ?_⟩⟩
  · rw [exec_missedMarkCheck h, missedMarkCheck_of_due hb (missedDue_iff.2 ⟨hl, he, hw, hs⟩)]
    refine ⟨fun hm => ?_, fun hm => ?_⟩
    · rw [missRaises_of_lt hm, raiseAll_nil, takeMiss_of_lt (s := markMissed s) hm]
      rfl
    · rw [missRaises_of_fourth hm, raiseAll_singleton, takeMiss_of_fourth (s := markMissed s) hm]
      rfl
  · have hd : missedDue s = false := by
      rw [← Bool.not_eq_true, missedDue_iff]
      rintro ⟨hl, he, hw, hs⟩
      rcases hn with hn | hn | hn | hn
      · exact hn hl
      · rw [hn] at he; cases he
      · exact hw.not_ge hn
      · exact hs.not_ge hn
    rw [exec_missedMarkCheck h, missedMarkCheck_of_not_due (by rwa [beginSlot_of_begun hb])]
  · have hadvance := wrapsNext_of_lt ha
    have hbegin := beginSlot_of_advance hb hadvance
    have hd : missedDue (beginSlot s) = true := by
      rw [missedDue_iff, hbegin]
      exact ⟨hl, he, hw, hw⟩
    have hreset : (beginSlot s).resetHeld = false := by rw [hbegin, h]
    rw [exec_missedMarkCheck h, exec_missedMarkCheck hreset,
      missedMarkCheck_beginSlot (beginRaises_of_advance hb hadvance) hd]

end Sys2Proof.Machine
end

section
/-! Every step keeps the Alignment Unit well (R73, R81, R83, R86): marks, misses, boundaries and trunk DOWN events change its
state, and of the requests SET_ALIGN alone its mode and W. -/

namespace Sys2Proof.Machine

/-! ### What AlignOk reads -/

/-- In mode FOLLOW the miss count goes with the state as R83 gives it. -/
theorem alignOk_of_follow {s : State} (hm : s.align.mode = .follow)
    (he : s.align.expect = true → s.align.state = .locked)
    (hn : s.align.state = .seeking ∧ s.align.miss = 0 ∨ s.align.state = .locked ∧ s.align.miss < Config.missLimit ∨
      s.align.state = .holdover ∧ s.align.miss = Config.missLimit)
    (hw : 1 ≤ s.align.width ∧ s.align.width ≤ 255) : AlignOk s := by
  unfold AlignOk
  rcases hn with ⟨hs, hn⟩ | ⟨hs, hn⟩ | ⟨hs, hn⟩ <;> rw [hm, hs] <;> exact ⟨⟨nofun, nofun⟩, fun h => hs ▸ he h, hn, hw⟩

theorem alignOk_blocksReset (held : Bool) (k : BitVec 4) (l : List Instr) (n : Nat) :
    AlignOk (State.blocksReset held k l n) :=
  ⟨⟨fun _ => rfl, fun _ => rfl⟩, nofun, rfl, show 1 ≤ 16 by decide, show 16 ≤ 255 by decide⟩

namespace AlignOk
variable {s t : State}

theorem congr (h : AlignOk s) (e : t.align = s.align) : AlignOk t := by
  unfold AlignOk at *
  rwa [e]

theorem countMark (h : AlignOk s) (f : AlignCounters → AlignCounters) : AlignOk (countMark f s) := h

theorem follow (h : AlignOk s) (hs : s.align.state ≠ .free) : s.align.mode = .follow := by
  obtain ⟨hmode, -⟩ := h
  cases hm : s.align.mode with
  | free => exact absurd (hmode.1 hm) hs
  | follow => rfl

theorem expects (h : AlignOk s) : s.align.expect = true → s.align.state = .locked := by
  obtain ⟨-, he, -⟩ := h
  exact he

theorem miss_lt (h : AlignOk s) (hl : s.align.state = .locked) : s.align.miss < Config.missLimit := by
  obtain ⟨-, -, hmiss, -⟩ := h
  rwa [hl] at hmiss

theorem width (h : AlignOk s) : 1 ≤ s.align.width ∧ s.align.width ≤ 255 := by
  obtain ⟨-, -, -, hw⟩ := h
  exact hw

/-! ### The unit's own changes -/

theorem setExpect (h : AlignOk s) {b : Bool} (hb : b = true → s.align.state = .locked) :
    AlignOk (s.updAlign fun a => { a with expect := b }) := by
  obtain ⟨hmode, -, hmiss, hw⟩ := h
  exact ⟨hmode, hb, hmiss, hw⟩

/-- A boundary touches the expect flag alone (R81). -/
theorem boundary (h : AlignOk s) (b : Bool) : AlignOk (boundary b s) := by
  have hb : (b && decide (s.align.state = .locked)) = true → s.align.state = .locked := by simp
  exact (h.setExpect hb).congr (by rw [boundary_eq]; rfl)

theorem beginSlot (h : AlignOk s) : AlignOk (beginSlot s) := by
  cases hb : s.sched.slotBegun with
  | true => rwa [beginSlot_of_begun hb]
  | false =>
    cases hw : wrapsNext s with
    | true =>
      have hnext : AlignOk (s.updSched (Schedule.nextSlot s.align.width)) := h.congr rfl
      rw [beginSlot_of_wrap hb hw]
      exact hnext.boundary true
    | false => exact h.congr (by rw [beginSlot_of_advance hb hw])

theorem restartWithBoundary (h : AlignOk s) : AlignOk (restartWithBoundary s) := by
  unfold Machine.restartWithBoundary
  split
  · exact h
  · exact h.boundary false

/-- A mark is accepted in mode FOLLOW alone (R74). -/
theorem markTaken (h : AlignOk s) (hs : s.align.state ≠ .free) (f : AlignCounters → AlignCounters) :
    AlignOk (markTaken f s) :=
  alignOk_of_follow (h.follow hs) nofun (.inr (.inl ⟨rfl, Nat.zero_lt_succ 3⟩)) h.width

/-- A miss below the limit leaves LOCKED, and the one that reaches it HOLDOVER (R83, R84). -/
theorem takeMiss (h : AlignOk s) (hl : s.align.state = .locked) : AlignOk (takeMiss s) := by
  have hfollow := h.follow (by rw [hl]; nofun)
  rcases Nat.lt_or_ge (s.align.miss + 1) 4 with hm | hm
  · rw [takeMiss_of_lt hm]
    exact alignOk_of_follow hfollow h.expects (.inr (.inl ⟨hl, hm⟩)) h.width
  · have hfourth : s.align.miss = 3 := Nat.le_antisymm (Nat.le_of_lt_succ (h.miss_lt hl)) (Nat.le_of_succ_le_succ hm)
    rw [takeMiss_of_fourth hfourth]
    exact alignOk_of_follow hfollow nofun (.inr (.inr ⟨rfl, rfl⟩)) h.width

theorem missedCheck (h : AlignOk s) : AlignOk (missedCheck s) := by
  cases hd : missedDue s with
  | true =>
    obtain ⟨hl, -⟩ := missedDue_iff.1 hd
    have hmissed : AlignOk (markMissed s) := h.setExpect (b := false) nofun
    rw [missedCheck_of_due hd]
    exact hmissed.takeMiss hl
  | false => rwa [missedCheck_of_not_due hd]

theorem markLocked (h : AlignOk s) (hl : s.align.state = .locked) : AlignOk (markLocked s) := by
  have hs : s.align.state ≠ .free := by rw [hl]; nofun
  unfold Machine.markLocked
  split
  · exact h.markTaken hs _
  · exact (h.markTaken hs _).restartWithBoundary
  · exact (h.markTaken hs fun k => { k with late := ctrInc k.late }).congr rfl
  · exact (h.countMark _).takeMiss hl

theorem takeMark (h : AlignOk s) : AlignOk (takeMark s) := by
  cases hs : s.align.state with
  | free => rwa [Machine.takeMark, hs]
  | seeking =>
    rw [takeMark_of_unlocked (.inl hs)]
    exact (h.markTaken (by rw [hs]; nofun) _).restartWithBoundary
  | locked => rw [Machine.takeMark, hs]; exact h.markLocked hs
  | holdover =>
    rw [takeMark_of_unlocked (.inr hs)]
    exact (h.markTaken (by rw [hs]; nofun) _).restartWithBoundary

theorem markArrives (h : AlignOk s) : AlignOk (markArrives s) := by
  unfold Machine.markArrives
  split
  · exact h
  · exact h.beginSlot.takeMark.congr (by simp)

theorem trunkFalls (h : AlignOk s) : AlignOk (trunkFalls s) := by
  obtain ⟨-, -, -, -, halign⟩ := trunkFalls_parts s
  rw [align_trunkDown] at halign
  cases hm : s.align.mode with
  | free => exact h.congr (by rw [halign, hm, if_neg nofun])
  | follow =>
    have hseeks : AlignOk (s.updAlign fun a => { a with state := .seeking, miss := 0, expect := false }) :=
      alignOk_of_follow hm nofun (.inl ⟨rfl, rfl⟩) h.width
    exact hseeks.congr (by rw [halign, hm, if_pos rfl, State.updAlign_align, hm])

/-! ### Requests -/

/-- A mode set begins in FREE or in SEEKING (R86). -/
theorem setMode (h : AlignOk s) (m : AlignMode) : AlignOk (s.updAlign (Align.setMode m)) := by
  cases m with
  | free => exact ⟨⟨fun _ => rfl, fun _ => rfl⟩, nofun, rfl, h.width⟩
  | follow => exact alignOk_of_follow rfl nofun (.inl ⟨rfl, rfl⟩) h.width

/-- A SET_ALIGN that is not refused gives W a byte that is not 0 (R86, R184). -/
theorem setWidth (h : AlignOk s) {r : Request} (hr : ¬ BadAlign r) : AlignOk (s.updAlign (Align.setWidth r)) := by
  obtain ⟨hmode, hexpect, hmiss, hw⟩ := h
  by_cases hp : (byteAt r.params 0).getLsbD 1 = true
  · have hne : (byteAt r.params 2).toNat ≠ 0 := fun h0 => hr (.inl ⟨hp, BitVec.eq_of_toNat_eq h0⟩)
    have hset : AlignOk (s.updAlign fun a => { a with width := (byteAt r.params 2).toNat }) :=
      ⟨hmode, hexpect, hmiss, Nat.one_le_iff_ne_zero.2 hne, Nat.le_of_lt_succ (byteAt r.params 2).isLt⟩
    rwa [← alignWidth_eq, if_pos hp]
  · rw [← alignWidth_eq, if_neg hp]
    exact ⟨hmode, hexpect, hmiss, hw⟩

theorem performSetAlign (h : AlignOk s) (r : Request) : AlignOk (performSetAlign r s).state := by
  by_cases hr : BadAlign r
  · rw [performSetAlign_of_bad r s hr]
    exact h
  · cases hm : (byteAt r.params 0).getLsbD 0 with
    | false =>
      rw [performSetAlign_of_width r s hr hm]
      exact h.setWidth hr
    | true =>
      rcases alignMode_of_good r hr hm with ⟨-, hv⟩ | ⟨-, hv⟩ <;> rw [performSetAlign_of_mode r s hr hm hv] <;>
        exact (h.setWidth hr).setMode _

/-- A READ_COUNTERS clears the mark counters at most (R170). -/
theorem performReadCounters (h : AlignOk s) (r : Request) : AlignOk (performReadCounters r s).state := by
  unfold Machine.performReadCounters
  dsimp only
  split
  · exact (h.countMark fun _ => AlignCounters.zero).congr (by simp [clearCounters, Machine.countMark])
  · exact h

theorem performKind (h : AlignOk s) (k : ReqKind) (r : Request) : AlignOk (performKind k r s).state := by
  cases k with
  | setAlign => exact h.performSetAlign r
  | readCounters => exact h.performReadCounters r
  | query => exact h
  | read => unfold Machine.performKind; dsimp only; split <;> exact h
  | write =>
    unfold Machine.performKind
    dsimp only
    split
    · exact h
    · exact h.congr (by simp)
  | commit => exact h.congr (by simp [Machine.performKind])
  | abandon => exact h.congr (by simp [Machine.performKind])
  | setGlobal => exact h.congr (by simp [Machine.performKind])
  | flush => exact h.congr (by simp [Machine.performKind])
  | trafficReset => exact h.congr (by simp [Machine.performKind])

theorem perform (h : AlignOk s) (r : Request) : AlignOk (perform r s).state := by
  unfold Machine.perform
  split
  · exact h.performKind _ r
  · exact h
  · exact h

theorem serve (h : AlignOk s) (d : DescId) (r : Request) : AlignOk (serve d r s) :=
  serve_keeps (fun _ h => h.congr (by simp)) (fun _ _ _ _ h => h.congr (by simp)) (fun _ h => h.congr rfl)
    (fun _ h => h.congr (by simp)) (fun r _ h => h.perform r) (fun _ _ _ h => h.congr (by simp))
    (fun _ _ _ h => h.congr (by simp)) (fun _ _ _ _ _ _ _ h => h.congr (by simp)) d r s h

theorem claimReply (h : AlignOk s) : AlignOk (claimReply s) :=
  claimReply_keeps (fun _ h => h.congr (by simp)) (fun _ _ h => h.congr rfl) (fun d r _ h => h.serve d r) s h

end AlignOk

/-! ### Every step keeps the agreement -/

theorem alignOk_kept : Kept AlignOk where
  reset := alignOk_blocksReset
  raise _ _ h := h.congr (by simp)
  setDraws _ _ h := h.congr rfl
  beginSlot _ h := h.beginSlot
  missedCheck _ h := h.missedCheck
  decideSlot _ h := h.congr (by simp)
  endDrain _ _ _ h := h.congr (by simp)
  trunkDown s h := by
    unfold trunkDown
    split
    · exact h.trunkFalls.congr (by simp)
    · exact h
  trunkUp _ h := h.congr (by simp)
  tributaryDown _ _ h := h.congr (by simp)
  tributaryUp _ _ h := h.congr (by simp)
  symbolReceived _ s h := trunkDecoded_keeps (fun _ _ h => h.congr rfl) (fun _ h => h.congr (by simp))
    (fun _ h => h.congr (by simp)) s h
  undecodable s h := trunkDecoded_keeps (fun _ _ h => h.congr rfl) (fun _ h => h.congr (by simp))
    (fun _ h => h.congr (by simp)) s h
  trunkFailed s h := trunkFailed_keeps (fun _ _ h => h.congr rfl) (fun _ h => h.trunkFalls)
    (fun _ h => h.congr (by simp)) (fun _ _ h => h.congr (by simp)) s h
  mark s h := trunkDecoded_keeps (fun _ _ h => h.congr rfl) (fun _ h => h.congr (by simp))
    (fun s h => (h.congr (t := rxSymbol .mark s) (by simp)).markArrives) s h
  tribDecoded _ _ _ h := h.congr (by simp)
  tribFailed _ _ h := h.congr (by simp)
  tribTxSlot _ _ h := h.congr (by simp)
  builderChooseJob s h := builderChooseJob_keeps (fun _ h => h.congr (by simp)) (fun _ h => h.congr (by simp))
    (fun _ h => h.congr (by simp)) (fun _ h => h.claimReply) s h
  storeClaimGranted s h := storeClaimGranted_keeps (fun _ h => h.congr (by simp)) (fun _ h => h.claimReply) s h

/-- Settles O55: boundaries, marks, misses and a trunk DOWN event keep the agreement (`AlignOk.boundary`, `AlignOk.takeMark`,
`AlignOk.takeMiss`, `AlignOk.trunkFalls`), and so does a SET_ALIGN (`AlignOk.performSetAlign`); nothing else changes it. -/
theorem alignmentIsKept : Obligations.AlignmentIsKept :=
  fun s t h e => alignOk_kept.step (fun _ _ h => h.congr rfl) s t h e

end Sys2Proof.Machine
end

section
/-! The bytes of the Frame Store: the byte that a line receiver stores and the frame that the Agent builds, each read back,
with every other byte kept (R94, R108, R113, R130, R164). -/

namespace Sys2Proof.Machine

/-- One cell for each 64 bytes begun (R108). -/
theorem cellsFor_succ (n : Nat) : cellsFor (n + 1) = cellsFor n + if n % Config.cellBytes = 0 then 1 else 0 := by
  unfold cellsFor
  split
  · next h => simp only [Config.cellBytes] at h ⊢; omega
  · next h => simp only [Config.cellBytes] at h ⊢; omega

namespace FrameStore

variable {st st' : FrameStore} {d : DescId} {b : Byte}

/-! ### Bytes at other addresses -/

theorem cell_of_byteAddr {k a : Nat} (h : st.byteAddr d k = some a) : a / 64 ∈ (st.desc d).chain.map Fin.val := by
  simp only [byteAddr, Option.map_eq_some_iff, Config.cellBytes] at h
  obtain ⟨c, hc, rfl⟩ := h
  have hq : (c.val * 64 + (k - 1) % 64) / 64 = c.val := by omega
  rw [hq]
  exact List.mem_map_of_mem (List.mem_of_getElem? hc)

theorem read_writeByte_of_ne (hw : Memory.wf st.cells = true) {k a : Nat} (h : st.byteAddr d k ≠ some a) (b : Byte) :
    Memory.read (st.writeByte d k b).cells a = Memory.read st.cells a := by
  have hp := ((Memory.wf_iff _).1 hw).1
  unfold writeByte
  split
  · next x hx => exact (Memory.read_write hp x b a).trans (if_neg fun e : a = x => h (e ▸ hx))
  · rfl

theorem read_writeBytes_of_other_cell {a : Nat} (bs : List Byte) (k : Nat) {st : FrameStore}
    (hw : Memory.wf st.cells = true) (ha : a / 64 ∉ (st.desc d).chain.map Fin.val) :
    Memory.read (st.writeBytes d k bs).cells a = Memory.read st.cells a := by
  induction bs generalizing k st with
  | nil => rfl
  | cons b bs ih =>
    rw [writeBytes, ih (k + 1) (writeByte_wf hw d k b) (by rwa [writeByte_chain])]
    exact read_writeByte_of_ne hw (fun h => ha (cell_of_byteAddr h)) b

/-! ### The byte of a line receiver (R94, R113) -/

/-- u is st with room in d for the byte that follows its bytes stored: a cell more where they fill the chain (R113). -/
structure RoomMade (d : DescId) (st u : FrameStore) : Prop where
  cells : u.cells = st.cells
  queues : u.queues = st.queues
  freeDescs : u.freeDescs = st.freeDescs
  others : ∀ e, e ≠ d → u.desc e = st.desc e
  length : (u.desc d).chain.length =
    (st.desc d).chain.length + if (st.desc d).stored % Config.cellBytes = 0 then 1 else 0

theorem roomMade_takeCell {u : FrameStore} (h : st.takeCell d = some u) (hs : (st.desc d).stored % Config.cellBytes = 0) :
    RoomMade d st u := by
  unfold takeCell at h
  split at h
  · cases h
  · cases h
    refine ⟨rfl, rfl, rfl, fun e he => ?_, ?_⟩
    · rw [desc_updDesc, if_neg he.symm]
      rfl
    · rw [desc_updDesc_self, if_pos hs]
      exact List.length_append

/-- A byte taken is written after a cell has been taken for it, where one is needed (R94, R113, R130). -/
theorem lineByte_eq_some (h : st.lineByte d b = some st') :
    ∃ u, RoomMade d st u ∧ st' = u.writeByte d ((st.desc d).stored + 1) b := by
  unfold lineByte at h
  split at h
  · next hs =>
    split at h
    · cases h
    · next u hu =>
      cases h
      unfold lineTakeCell at hu
      split at hu
      · exact ⟨u, roomMade_takeCell hu hs, rfl⟩
      · cases hu
  · next hs =>
    cases h
    exact ⟨st, ⟨rfl, rfl, rfl, fun _ _ => rfl, by rw [if_neg hs]; rfl⟩, rfl⟩

theorem stored_writeByte {k a : Nat} (h : st.byteAddr d k = some a) (b : Byte) :
    ((st.writeByte d k b).desc d).stored = k := by
  simp only [writeByte, h, desc_updDesc_self]

theorem readByte_writeByte_self (hw : Memory.wf st.cells = true) {k a : Nat} (h : st.byteAddr d k = some a) (b : Byte) :
    (st.writeByte d k b).readByte d k = b := by
  have hp := ((Memory.wf_iff _).1 hw).1
  have hc : (st.writeByte d k b).cells = Memory.write st.cells a b := by simp [writeByte, h]
  simp [readByte, byteAddr_congr (st.writeByte_chain d k b), h, hc, Memory.read_write hp]

end FrameStore

open FrameStore in
/-- Settles O32: a byte taken is written where there is room for it (`lineByte_eq_some`), and a frame built is written byte
after byte into its own cells (`readByte_build`, `read_writeBytes_of_other_cell`). -/
theorem storedBytesReadBack : Obligations.StoredBytesReadBack := by
  refine ⟨fun d b st st' hw hl h => ?_, fun d bs st hw hn hk => ⟨fun i hi => ?_, ?_, fun a ha => ?_⟩⟩
  · obtain ⟨u, hu, rfl⟩ := lineByte_eq_some h
    have hlen : (u.desc d).chain.length = cellsFor ((st.desc d).stored + 1) := by
      rw [hu.length, hl, cellsFor_succ]
    obtain ⟨a, ha⟩ : ∃ a, u.byteAddr d ((st.desc d).stored + 1) = some a :=
      byteAddr_of_lt (by rw [hlen, Nat.add_sub_cancel]; simp only [cellsFor, Config.cellBytes]; omega)
    have hwu : Memory.wf u.cells = true := hu.cells ▸ hw
    have hs := stored_writeByte ha b
    obtain ⟨hq, hf, -⟩ := u.writeByte_frame d ((st.desc d).stored + 1) b
    obtain ⟨-, -, ho⟩ := u.writeByte_desc d ((st.desc d).stored + 1) b
    refine ⟨hs, readByte_writeByte_self hwu ha b, ?_, hq.trans hu.queues, hf.trans hu.freeDescs,
      fun e he => (ho e he).trans (hu.others e he), fun x hx => ?_⟩
    · rw [hs, writeByte_chain, hlen]
    · rw [byteAddr_congr (writeByte_chain u d _ b)] at hx
      rw [read_writeByte_of_ne hwu hx, hu.cells]
  · have hc : ((st.build d bs).desc d).chain = ((st.writeBytes d 1 bs).desc d).chain := by
      rw [build, complete, desc_updDesc_self, desc_updDesc_self]
    exact (readByte_congr hc rfl _).trans (readByte_build hw hn (by omega) hi)
  · obtain ⟨n, h, hd, -⟩ := st.build_desc d bs
    rw [hd]
  · exact read_writeBytes_of_other_cell bs 1 hw ha

end Sys2Proof.Machine
end

section
/-! Frames on the trunk's receiver: OPEN (R93), the data bytes (R94, R95), and the ends: what a CLOSE hands on (R99 to R101)
and what a CLOSE or an ABORT releases (R102, R103). -/

namespace Sys2Proof.Machine

/-! ### OPEN (R93, R114) -/

namespace FrameStore

theorem lineTakeDesc_of_reserve {st : FrameStore} {d : DescId} {ds : List DescId} (o : Origin)
    (hd : st.freeDescs = d :: ds) (h3 : 3 ≤ st.freeDescs.length) (h34 : 34 ≤ st.freeCells.length) :
    st.lineTakeDesc o = some (d, { st with freeDescs := ds, descs := vset st.descs d (freshDescriptor o []) }) := by
  have ha : st.descTakeAllowed = true := by simp [descTakeAllowed, Config.reserveDescs, Config.reserveCells, h3, h34]
  rw [lineTakeDesc, if_pos ha, takeDesc, hd]
  rfl

theorem lineTakeDesc_refused {st : FrameStore} (o : Origin) (h : st.freeDescs.length < 3 ∨ st.freeCells.length < 34) :
    st.lineTakeDesc o = none := by
  refine if_neg fun ha => ?_
  simp only [descTakeAllowed, Bool.and_eq_true, decide_eq_true_eq] at ha
  simp only [Config.reserveDescs, Config.reserveCells] at ha
  omega

end FrameStore

/-- An OPEN that RESYNC waits for or that the grammar accepts opens its context in mode NORMAL (R90, R91). -/
theorem exec_rxOpen_of_accepted {c : Cls} {l : List OpenFrame} {s : State} (hu : TrunkUp s)
    (h : (s.rx.mode = .resync ∧ l = [⟨c, .active⟩]) ∨
      (s.rx.mode = .normal ∧ grammarStep (.opened c) s.rx.stack = some l)) :
    exec (.rxOpen c) s = .next (heard (openContext c (s.updRx fun r => { r with mode := .normal, stack := l }))) := by
  have he := exec_rxCommand_of_up (y := .opened c) (by simp) hu
  rcases h with ⟨hm, rfl⟩ | ⟨hm, hg⟩
  · rwa [rxSymbol_resync hm] at he
  · rw [rxSymbol_normal hm, rxInNormal_legal hg, restack] at he
    rw [← hm]
    exact he

theorem openContext_of_taken {c : Cls} {d : DescId} {st : FrameStore} {s : State}
    (h : s.store.lineTakeDesc .trunk = some (d, st)) :
    openContext c s = setContext c { Context.closed with storage := some d } (s.updStore fun _ => st) := by
  simp only [openContext, h]

theorem openContext_of_refused {c : Cls} {s : State} (h : s.store.lineTakeDesc .trunk = none) :
    openContext c s = raise .storeExhausted (countRx (fun k => { k with noStore := ctrInc k.noStore })
      (setContext c { Context.closed with disposition := .discard .noStore } s)) := by
  simp only [openContext, h]

/-- Settles O23: an accepted OPEN opens its context (`exec_rxOpen_of_accepted`), with a descriptor where the reserve grants
one, and storage-less where it does not. -/
theorem openTakesADescriptor : Obligations.OpenTakesADescriptor := by
  intro c l s hu h
  refine ⟨fun d ds hd h3 h34 => ?_, fun hr => ?_⟩
  · rw [exec_rxOpen_of_accepted hu h,
      openContext_of_taken (s := s.updRx _) (FrameStore.lineTakeDesc_of_reserve .trunk hd h3 h34)]
    rfl
  · rw [exec_rxOpen_of_accepted hu h, openContext_of_refused (s := s.updRx _)
      (FrameStore.lineTakeDesc_refused .trunk hr), heard_raise]
    rfl

/-! ### Data bytes (R94, R95, R98) -/

theorem rxByte_of_discard {c : Cls} {b : Byte} {s : State} (h : (s.context c).disposition.isDiscard = true) :
    rxByte c b s = s := by
  simp only [rxByte, h, if_true]

theorem rxByte_of_full {c : Cls} {b : Byte} {s : State} (h : (s.context c).disposition.isDiscard = false)
    (hf : (s.context c).isFull = true) : rxByte c b s = countDiscard .overlong (discardContext c .overlong s) := by
  simp only [rxByte, h, hf, Bool.false_eq_true, if_false, if_true]

theorem rxByte_of_refused {c : Cls} {b : Byte} {d : DescId} {s : State}
    (h : (s.context c).disposition.isDiscard = false) (hf : (s.context c).isFull = false)
    (hd : (s.context c).storage = some d) (hst : s.store.lineByte d b = none) :
    rxByte c b s = raise .storeExhausted (countDiscard .noStore (discardContext c .noStore s)) := by
  simp only [rxByte, h, hf, hd, hst, Bool.false_eq_true, if_false]

/-- From s to t the frame of context c is discarded for reason r, and counted (R98, R107). -/
structure FrameDiscarded (c : Cls) (r : DiscardReason) (s t : State) : Prop where
  disposition : (t.context c).disposition = .discard r
  storage : (t.context c).storage = none
  stack : t.rx.stack = s.rx.stack
  counters : t.rx.counters = (countDiscard r s).rx.counters
  ports : t.ports = s.ports
  only : RxOnly s t

/-- Neither a raise nor the end of a run of failures undoes a discard. -/
theorem FrameDiscarded.congr {c : Cls} {r : DiscardReason} {s t u : State} (h : FrameDiscarded c r s t)
    (hx : u.rx = t.rx) (hp : u.ports = t.ports) (ho : RxOnly t u) : FrameDiscarded c r s u := by
  obtain ⟨hd, hs, hl, hc, hp', h1, h2, h3, h4, h5, h6, h7, h8⟩ := h
  obtain ⟨o1, o2, o3, o4, o5, o6, o7, o8⟩ := ho
  exact ⟨context_congr hx c ▸ hd, context_congr hx c ▸ hs, hx ▸ hl, hx ▸ hc, hp.trans hp', o1.trans h1, o2.trans h2,
    o3.trans h3, o4.trans h4, o5.trans h5, o6.trans h6, o7.trans h7, o8.trans h8⟩

theorem frameDiscarded_heard (c : Cls) (r : DiscardReason) (s : State) :
    FrameDiscarded c r s (heard (countDiscard r (discardContext c r s))) := by
  obtain ⟨-, hl, hc⟩ := setsContext_discarded c r r s
  have hx := (hc c).trans (if_pos rfl)
  exact FrameDiscarded.congr
    ⟨by rw [hx]; rfl, by rw [hx]; rfl, hl, countDiscard_counters_congr r (by simp), by simp, by simp [RxOnly]⟩
    rfl rfl ⟨rfl, rfl, rfl, rfl, rfl, rfl, rfl, rfl⟩

theorem FrameDiscarded.raise {c : Cls} {r : DiscardReason} {s t : State} (h : FrameDiscarded c r s t) (e : Notice) :
    FrameDiscarded c r s (raise e t) :=
  h.congr (by simp) (by simp) (by simp [RxOnly])

/-- Settles O26: the byte goes to the top's context (`exec_rxData_of_active`), which passes it over, is discarded
(`frameDiscarded_heard`), or takes it (`rxByte_of_taken`). -/
theorem dataByteIsTakenOrPassedOver : Obligations.DataByteIsTakenOrPassedOver := by
  intro c b fs s hu hm hs
  rw [exec_rxData_of_active hu hm hs]
  refine ⟨fun hx => ?_, fun hx hf => ?_, fun d st hx hf hd hst hn => ?_, fun d hx hf hd hst => ?_⟩
  · rw [rxByte_of_discard hx]
  · rw [rxByte_of_full hx hf]
    obtain ⟨h1, h2, h3, h4, h5, h6⟩ := frameDiscarded_heard c .overlong s
    exact ⟨_, rfl, h1, h2, h3, h4, by simp [heard], h5, h6⟩
  · rw [rxByte_of_taken hx hf hd hst, if_neg (by omega)]
    rfl
  · rw [rxByte_of_refused hx hf hd hst, heard_raise]
    obtain ⟨h1, h2, h3, h4, h5, h6⟩ := (frameDiscarded_heard c .noStore s).raise .storeExhausted
    exact ⟨_, rfl, h1, h2, h3, h4, raise_agent_congr _ (by simp [heard]) (by simp [heard]), h5, h6⟩

/-! ### The end of a frame whose storage is released (R99, R102, R103) -/

theorem vset_vset {α : Type} {n : Nat} (v : Vector α n) (i : Fin n) (x y : α) : vset (vset v i x) i y = vset v i y :=
  vector_ext fun j => by by_cases h : i = j <;> simp [vget_vset, h]

theorem closeContext_eq (c : Cls) (s : State) : closeContext c s = { s with
    rx := { s.rx with contexts := vset s.rx.contexts c Context.closed }
    store := (s.context c).storage.elim s.store fun d => s.store.release d } := by
  unfold closeContext releaseStorage
  split
  · next h => rw [h]; rfl
  · next d h =>
    rw [h]
    simp only [setContext, State.updRx, State.updStore, vset_vset]
    rfl

/-- A CLOSE or an ABORT of the ACTIVE top takes it off, and acts on its context (R11, R91). -/
theorem exec_end_of_active {y : TrunkSymbol} (hy : y = .close ∨ y = .abort) {c : Cls} {fs : List OpenFrame} {s : State}
    (hu : TrunkUp s) (hm : s.rx.mode = .normal) (hs : s.rx.stack = ⟨c, .active⟩ :: fs) :
    exec (rxCommand y) s = .next (heard (actOn y (some ⟨c, .active⟩) (restack fs s))) := by
  have hne : y ≠ .mark := by rcases hy with rfl | rfl <;> simp
  have hg : grammarStep y s.rx.stack = some fs := by rcases hy with rfl | rfl <;> simp [hs, grammarStep]
  rw [exec_rxCommand_of_up hne hu, rxSymbol_normal hm, rxInNormal_legal hg, hs]
  rfl

theorem exec_rxClose_of_active {c : Cls} {fs : List OpenFrame} {s : State} (hu : TrunkUp s)
    (hm : s.rx.mode = .normal) (hs : s.rx.stack = ⟨c, .active⟩ :: fs) :
    exec .rxClose s = .next (heard (rxCloseFrame c (restack fs s))) :=
  exec_end_of_active (.inl rfl) hu hm hs

theorem exec_rxAbort_of_active {c : Cls} {fs : List OpenFrame} {s : State} (hu : TrunkUp s)
    (hm : s.rx.mode = .normal) (hs : s.rx.stack = ⟨c, .active⟩ :: fs) :
    exec .rxAbort s = .next (heard (closeContext c (restack fs s))) :=
  exec_end_of_active (.inr rfl) hu hm hs

theorem rxCloseFrame_of_discard {c : Cls} {s : State} (h : (s.context c).disposition.isDiscard = true) :
    rxCloseFrame c s = closeContext c s := by
  unfold rxCloseFrame
  split <;> simp_all [Disposition.isDiscard]

theorem rxCloseFrame_of_awaitHeader {c : Cls} {s : State} (h : (s.context c).disposition = .awaitHeader) :
    rxCloseFrame c s = closeContext c (countRx (fun k => { k with lengthErrors := ctrInc k.lengthErrors }) s) := by
  simp only [rxCloseFrame, h]

/-- A frame with a destination is judged, whatever the destination (R99). -/
theorem rxCloseFrame_of_destination {c : Cls} {s : State}
    (h : (s.context c).disposition = .toAgent ∨ ∃ m, (s.context c).disposition = .toPorts m) :
    ∃ handOn, rxCloseFrame c s = judgeFrame c handOn s := by
  rcases h with h | ⟨m, h⟩
  · exact ⟨inboxOffer, by simp only [rxCloseFrame, h]⟩
  · exact ⟨fun d s => offerAll d m s, by simp only [rxCloseFrame, h]⟩

theorem judgeFrame_of_short {c : Cls} {s : State} (f : DescId → State → State) (h : (s.context c).isFull = false) :
    judgeFrame c f s = closeContext c (countRx (fun k => { k with lengthErrors := ctrInc k.lengthErrors }) s) := by
  simp [judgeFrame, h]

theorem judgeFrame_of_badCheck {c : Cls} {s : State} (f : DescId → State → State) (h : (s.context c).isFull = true)
    (hc : (s.context c).check ≠ 0) :
    judgeFrame c f s = closeContext c (countRx (fun k => { k with crcErrors := ctrInc k.crcErrors }) s) := by
  simp only [judgeFrame, h, Bool.not_true, Bool.false_eq_true, if_false, if_pos hc]

/-- Settles O30: whatever is counted before it, the closing of the context (`closeContext_eq`) is all that such an end
does. -/
theorem rejectedFrameIsReleased : Obligations.RejectedFrameIsReleased := by
  intro c fs s hu hm hs
  rw [exec_rxAbort_of_active hu hm hs, exec_rxClose_of_active hu hm hs]
  refine ⟨?_, fun h => ?_, fun h => ?_, fun h => ⟨fun hf => ?_, fun hf hc => ?_⟩⟩
  · rw [closeContext_eq]; rfl
  · rw [rxCloseFrame_of_discard (s := restack fs s) h, closeContext_eq]; rfl
  · rw [rxCloseFrame_of_awaitHeader (s := restack fs s) h, closeContext_eq]; rfl
  · obtain ⟨f, hj⟩ := rxCloseFrame_of_destination (s := restack fs s) h
    rw [hj, judgeFrame_of_short (s := restack fs s) f hf, closeContext_eq]; rfl
  · obtain ⟨f, hj⟩ := rxCloseFrame_of_destination (s := restack fs s) h
    rw [hj, judgeFrame_of_badCheck (s := restack fs s) f hf hc, closeContext_eq]; rfl

/-! ### The end of a good frame (R99 to R101, R136, R160) -/

/-- The state in which the good frame in d of context c is accepted and not yet handed on (R99). -/
def frameAccepted (c : Cls) (d : DescId) (s : State) : State :=
  { s with
    rx := { s.rx with
      contexts := vset s.rx.contexts c Context.closed
      counters := { s.rx.counters with accepted := ctrInc s.rx.counters.accepted } }
    store := s.store.complete d }

theorem judgeFrame_of_good {c : Cls} {d : DescId} {s : State} (f : DescId → State → State)
    (hf : (s.context c).isFull = true) (hc : (s.context c).check = 0) (hd : (s.context c).storage = some d) :
    judgeFrame c f s = f d (frameAccepted c d s) := by
  simp only [judgeFrame, acceptFrame, hf, hc, hd, Bool.not_true, Bool.false_eq_true, if_false, ne_eq, not_true_eq_false]
  rfl

theorem inboxOffer_of_room {d : DescId} {s : State} (h : s.agent.inbox.length < 4) : inboxOffer d s =
    { s with store := s.store.addRef d, agent := { s.agent with inbox := s.agent.inbox ++ [d] } } :=
  if_pos h

theorem inboxOffer_of_full {d : DescId} {s : State} (h : 4 ≤ s.agent.inbox.length) : inboxOffer d s =
    { s with store := s.store.settle d, agent := { s.agent with
      counters := { s.agent.counters with overflows := ctrInc s.agent.counters.overflows } } } :=
  if_neg (Nat.not_lt.2 h)

theorem offer_of_room {d : DescId} {p : PortIx} {s : State} (hs : (s.port p).serving = true)
    (h : (s.port p).delivery.length < 32) : offer d p s =
      (s.updPort p fun q => { q with delivery := q.delivery ++ [d] }).updStore (FrameStore.addRef d) := by
  simp [offer, hs, Config.deliveryLimit, h]

theorem offer_of_refused {d : DescId} {p : PortIx} {s : State}
    (h : (s.port p).serving = false ∨ 32 ≤ (s.port p).delivery.length) : offer d p s =
      countPort p (fun k => { k with refused := ctrInc k.refused }) s := by
  refine if_neg fun hr => ?_
  simp only [Bool.and_eq_true, decide_eq_true_eq] at hr
  obtain ⟨hs, hl⟩ := hr
  rcases h with h | h
  · rw [hs] at h; cases h
  · exact absurd hl (Nat.not_lt.2 h)

theorem ports_portSingle (p : PortIx) : ([0, 1, 2, 3].filter fun q => portIn q (portSingle p)) = [p] := by
  revert p; decide

theorem offerAll_portSingle (d : DescId) (p : PortIx) (s : State) :
    offerAll d (portSingle p) s = (offer d p s).updStore (FrameStore.settle d) := by
  rw [offerAll, ports_portSingle]
  rfl

theorem offerAll_portSingle_of_room {d : DescId} {p : PortIx} {s : State} (hs : (s.port p).serving = true)
    (h : (s.port p).delivery.length < 32) : offerAll d (portSingle p) s =
      { s with store := (s.store.addRef d).settle d }.updPort p fun q => { q with delivery := q.delivery ++ [d] } := by
  rw [offerAll_portSingle, offer_of_room hs h]
  rfl

theorem offerAll_portSingle_of_refused {d : DescId} {p : PortIx} {s : State}
    (h : (s.port p).serving = false ∨ 32 ≤ (s.port p).delivery.length) : offerAll d (portSingle p) s =
      { s with store := s.store.settle d }.updPort p fun q =>
        { q with counters := { q.counters with refused := ctrInc q.counters.refused } } := by
  rw [offerAll_portSingle, offer_of_refused h]
  rfl

namespace FrameStore

theorem updDesc_congr {st : FrameStore} {d : DescId} {f g : Descriptor → Descriptor} (h : f (st.desc d) = g (st.desc d)) :
    st.updDesc d f = st.updDesc d g :=
  congrArg (fun x => { st with descs := vset st.descs d x }) h

/-- A COMPLETE frame that its only holder takes has one reference (R100, R101). -/
theorem addRef_complete {d : DescId} {st : FrameStore} (h : (st.desc d).refs = 0) :
    (st.complete d).addRef d = st.updDesc d fun x => { x with state := .complete, refs := 1 } := by
  have h2 : (st.complete d).addRef d = st.updDesc d fun x => { x with state := .complete, refs := x.refs + 1 } := by
    simp [addRef, complete, updDesc]
  rw [h2]
  exact updDesc_congr (by simp [h])

theorem settle_held {d : DescId} (st : FrameStore) :
    (st.updDesc d fun x => { x with state := .complete, refs := 1 }).settle d =
      st.updDesc d fun x => { x with state := .complete, refs := 1 } :=
  settle_of_refs _ _ (by simp)

end FrameStore

/-! #### A set of ports (R100, R136) -/

theorem port_offer_of_ne {p q : PortIx} (h : q ≠ p) (d : DescId) (s : State) : (offer d q s).port p = s.port p := by
  unfold offer
  split
  · exact (port_updPort s p q _).trans (if_neg h)
  · exact (port_updPort s p q _).trans (if_neg h)

/-- The delivery queue of a port that d is offered to. -/
def Port.offered (d : DescId) (q : Port) : List DescId :=
  q.delivery ++ if q.serving = true ∧ q.delivery.length < 32 then [d] else []

theorem delivery_offer (d : DescId) (p : PortIx) (s : State) :
    ((offer d p s).port p).delivery = (s.port p).offered d := by
  unfold Port.offered
  split
  · next h =>
    obtain ⟨hs, hl⟩ := h
    rw [offer_of_room hs hl]
    exact congrArg Port.delivery (port_updPort_self s p _)
  · next h =>
    have hr : (s.port p).serving = false ∨ 32 ≤ (s.port p).delivery.length := by
      by_cases hs : (s.port p).serving = true
      · exact .inr (Nat.not_lt.1 fun hl => h ⟨hs, hl⟩)
      · exact .inl (Bool.eq_false_iff.2 hs)
    rw [offer_of_refused hr, countPort, port_updPort_self, List.append_nil]

/-- Each port of a list without repetitions is offered the frame once. -/
theorem delivery_offers (d : DescId) (p : PortIx) {l : List PortIx} (hl : l.Nodup) (s : State) :
    ((l.foldl (fun s p => offer d p s) s).port p).delivery =
      if p ∈ l then (s.port p).offered d else (s.port p).delivery := by
  induction l generalizing s with
  | nil => rfl
  | cons q l ih =>
    obtain ⟨hq, hl⟩ := List.nodup_cons.1 hl
    rw [List.foldl_cons, ih hl]
    by_cases h : q = p
    · subst h
      rw [if_neg hq, if_pos List.mem_cons_self, delivery_offer]
    · simp [port_offer_of_ne h, Ne.symm h]

theorem delivery_offerAll (d : DescId) (m : PortSet) (p : PortIx) (s : State) :
    ((offerAll d m s).port p).delivery = if portIn p m = true then (s.port p).offered d else (s.port p).delivery := by
  have hn : ([0, 1, 2, 3].filter fun p => portIn p m).Nodup := List.Nodup.filter _ (by decide)
  have hp : p ∈ ([0, 1, 2, 3] : List PortIx) := by revert p; decide
  rw [offerAll]
  refine (delivery_offers d p hn s).trans ?_
  simp only [List.mem_filter, hp, true_and]

/-! #### The good frame of an ACTIVE top -/

section
variable {c : Cls} {d : DescId} {fs : List OpenFrame} {s : State}
  (hd : (s.context c).storage = some d) (hf : (s.context c).isFull = true) (hc : (s.context c).check = 0)
include hd hf hc

theorem rxCloseFrame_toAgent (h : (s.context c).disposition = .toAgent) :
    rxCloseFrame c s = inboxOffer d (frameAccepted c d s) := by
  simp only [rxCloseFrame, h]
  exact judgeFrame_of_good _ hf hc hd

theorem rxCloseFrame_toPorts {m : PortSet} (h : (s.context c).disposition = .toPorts m) :
    rxCloseFrame c s = offerAll d m (frameAccepted c d s) := by
  simp only [rxCloseFrame, h]
  exact judgeFrame_of_good _ hf hc hd

end

/-- Settles O29: the accepted frame (`frameAccepted`) is offered to the inbox, to one port or to a set of ports, and whoever
takes it has the one reference. -/
theorem goodFrameIsHandedOn : Obligations.GoodFrameIsHandedOn := by
  intro c d fs s hu hm hs hd hf hc hr
  have hagent := rxCloseFrame_toAgent (s := restack fs s) hd hf hc
  have hports := fun m => rxCloseFrame_toPorts (s := restack fs s) (m := m) hd hf hc
  have hst : (frameAccepted c d (restack fs s)).store = s.store.complete d := rfl
  rw [exec_rxClose_of_active hu hm hs]
  refine ⟨fun h hl => ?_, fun h hl => ?_, fun p h hp hl => ?_, fun p h hp => ?_, fun m h => ⟨_, rfl, fun p => ?_⟩⟩
  · rw [hagent h, inboxOffer_of_room (s := frameAccepted c d (restack fs s)) hl, hst, FrameStore.addRef_complete hr]
    rfl
  · rw [hagent h, inboxOffer_of_full (s := frameAccepted c d (restack fs s)) hl, hst, settle_complete_of_free hr]
    rfl
  · rw [hports _ h, offerAll_portSingle_of_room (s := frameAccepted c d (restack fs s)) hp hl, hst,
      FrameStore.addRef_complete hr, FrameStore.settle_held]
    rfl
  · rw [hports _ h, offerAll_portSingle_of_refused (s := frameAccepted c d (restack fs s)) hp, hst,
      settle_complete_of_free hr]
    rfl
  · rw [hports m h]
    refine (delivery_offerAll d m p _).trans ?_
    by_cases hp : portIn p m = true
    · rw [if_pos hp]
      simp only [hp, true_and]
      rfl
    · rw [if_neg hp, if_neg fun hr => hp hr.1, List.append_nil]
      rfl

end Sys2Proof.Machine
end

section
/-! The Frame Store and those who use it, apart from the rest of the state: what StoreOk says of the two, in four parts, and
what each operation of the store keeps of it (R108, R109, R111, R119, R120). -/

namespace Sys2Proof.Machine

/-! ### A sum over a table in which one entry changes -/

theorem sum_vupd {α : Type} {n : Nat} (g : α → Nat) (v : Vector α n) (i : Fin n) (f : α → α) :
    (∑ j, g (vget (vupd v i f) j)) + g (vget v i) = (∑ j, g (vget v j)) + g (f (vget v i)) := by
  have hne : ∑ j ∈ Finset.univ.erase i, g (vget (vupd v i f) j) = ∑ j ∈ Finset.univ.erase i, g (vget v j) :=
    Finset.sum_congr rfl fun j hj => by rw [vget_vupd_of_ne v i j f (Finset.ne_of_mem_erase hj).symm]
  rw [← Finset.add_sum_erase _ _ (Finset.mem_univ i), ← Finset.add_sum_erase _ (fun j => g (vget v j)) (Finset.mem_univ i),
    hne, vget_vupd_self]
  omega

/-! ### The users of the store -/

/-- A framer but for its check register and gap count, which the store does not concern. -/
def Framer.outline (f : Framer) : Framer := { f with check := freshCheck, gap := 0 }

/-- Who uses the store: the references held outside the class queues, counted for each descriptor, the reply held for, the
framers, the contexts' storage and the descriptor of the owed reply. -/
structure Users where
  held : DescId → Nat
  hold : Option DescId
  framing : PortIx → Framer
  storage : Cls → Option DescId
  owed : Option DescId

/-- The references that a port has to d: in its delivery queue and its transmitter. -/
def Port.refs (q : Port) (d : DescId) : Nat := q.delivery.count d + q.sending.elim 0 fun x => if x.desc = d then 1 else 0

/-- The users of a state's store. -/
def State.users (s : State) : Users where
  held d := (s.il.stack.map StackEntry.desc).count d + (∑ p : PortIx, (s.port p).refs d) + s.agent.inbox.count d +
    (if s.agent.inHand = some d then 1 else 0)
  hold := s.il.hold
  framing p := (s.framer p).outline
  storage c := (s.context c).storage
  owed := s.agent.owed.map OwedReply.desc

namespace Users

/-- The users with references to the descriptors of l besides: references in passing between two holders. -/
def add (l : List DescId) (u : Users) : Users := { u with held := fun d => u.held d + l.count d }

/-- No framer, no context and no owed reply has d. -/
structure Unwritten (u : Users) (d : DescId) : Prop where
  framing : ∀ p, (u.framing p).desc ≠ some d
  storage : ∀ c, u.storage c ≠ some d
  owed : u.owed ≠ some d

end Users

/-! ### The four parts of soundness -/

namespace FrameStore

/-- The free list and the FREE descriptors (R109, R111). -/
structure FreeOk (st : FrameStore) : Prop where
  list : ∀ d, d ∈ st.freeDescs ↔ (st.desc d).state = .free
  nodup : st.freeDescs.Nodup
  unused : ∀ d, (st.desc d).state = .free → st.desc d = Descriptor.unused

/-- Each cell is free or on one chain (R108). -/
def CellsOk (st : FrameStore) : Prop := ∀ k : CellId, st.freeCells.count k + ∑ d : DescId, (st.desc d).chain.count k = 1

/-- The references and the class queues (R119, R120). The check of R119 may still be due for the frame x. -/
structure RefsOk (x : Option DescId) (u : Users) (st : FrameStore) : Prop where
  count : ∀ d, (st.desc d).refs = (∑ c : Cls, (st.queue c).count d) + u.held d
  held : ∀ d, x ≠ some d → ended (st.desc d).state = true → (st.desc d).refs ≠ 0
  filed : st.Filed
  hold : ∀ d, u.hold = some d → (st.desc d).state = .complete ∧ ∃ c, d ∈ st.queue c

/-- The descriptor of a framer (R113, R128, R131). -/
structure Framed (p : PortIx) (f : Framer) (y : Descriptor) : Prop where
  state : y.state = .filling
  origin : y.origin = some (.tributary p)
  chain : y.chain.length = cellsFor y.stored
  header : f.state = .header → y.refs = 0 ∧ y.cls = none
  body : f.state = .body → 7 ≤ y.stored

/-- A descriptor that its writer alone has, of origin o. -/
structure Owned (o : Origin) (y : Descriptor) : Prop where
  state : y.state = .filling
  origin : y.origin = some o
  refs : y.refs = 0
  cls : y.cls = none

/-- Framers, contexts and the owed reply have descriptors of their own (R89, R93, R113, R128, R163). -/
structure WritersOk (u : Users) (st : FrameStore) : Prop where
  framer : ∀ p, (u.framing p).receiving = (u.framing p).desc.isSome
  framed : ∀ p d, (u.framing p).desc = some d → Framed p (u.framing p) (st.desc d)
  stored : ∀ c d, u.storage c = some d → Owned .trunk (st.desc d)
  once : ∀ c c' d, u.storage c = some d → u.storage c' = some d → c = c'
  owed : ∀ d, u.owed = some d → Owned .agent (st.desc d) ∧ (st.desc d).chain.length = 1

/-- The store and its users agree; the check of R119 may still be due for the frame x. -/
structure Sound (x : Option DescId) (u : Users) (st : FrameStore) : Prop where
  free : st.FreeOk
  cells : st.CellsOk
  refs : st.RefsOk x u
  writers : st.WritersOk u

end FrameStore

theorem holders_eq (s : State) (d : DescId) : s.holders d = (∑ c : Cls, (s.store.queue c).count d) + s.users.held d := by
  simp only [State.holders, State.users, Port.refs]
  omega

open FrameStore in
/-- StoreOk is soundness of the store and its users in the state. -/
theorem storeOk_iff (s : State) : StoreOk s ↔ s.store.Sound none s.users := by
  constructor
  · intro h
    refine ⟨⟨h.freeList, h.freeNodup, h.unused⟩, h.cells, ⟨fun d => (h.refs d).trans (holders_eq s d), fun d _ => h.held d,
      ⟨h.queued, h.queueNodup⟩, h.heldReply⟩, ⟨h.framer, fun p d hd => ?_, fun c d hd => ?_, h.storedOnce, fun d hd => ?_⟩⟩
    · obtain ⟨h1, h2, h3, h4, h5⟩ := h.framed p d hd
      exact ⟨h1, h2, h3, h4, h5⟩
    · obtain ⟨h1, h2, h3, h4⟩ := h.stored c d hd
      exact ⟨h1, h2, h3, h4⟩
    · obtain ⟨r, hr, rfl⟩ := Option.map_eq_some_iff.1 hd
      obtain ⟨h1, h2, h3, h4, h5⟩ := h.owed r hr
      exact ⟨⟨h1, h2, h3, h4⟩, h5⟩
  · intro h
    have hw := h.writers
    exact {
      freeList := h.free.list
      freeNodup := h.free.nodup
      unused := h.free.unused
      refs := fun d => (h.refs.count d).trans (holders_eq s d).symm
      held := fun d => h.refs.held d nofun
      queued := h.refs.filed.cls
      queueNodup := h.refs.filed.nodup
      heldReply := h.refs.hold
      framer := hw.framer
      framed := fun p d hd => have f := hw.framed p d hd; ⟨f.state, f.origin, f.chain, f.header, f.body⟩
      stored := fun c d hd => have o := hw.stored c d hd; ⟨o.state, o.origin, o.refs, o.cls⟩
      storedOnce := hw.once
      owed := fun r hr => have ⟨o, hl⟩ := hw.owed r.desc (by simp [State.users, hr])
        ⟨o.state, o.origin, o.refs, o.cls, hl⟩
      cells := h.cells }

end Sys2Proof.Machine
end

section
/-! What the operations of the store keep of its soundness: takes, releases, references, class queues, bytes (R111 to R121). -/

namespace Sys2Proof.Machine.FrameStore

variable {x : Option DescId} {u : Users} {st st' : FrameStore} {d : DescId}

/-! ### A store in which one descriptor changes -/

/-- From st to st' no other descriptor than d and no class queue has changed. -/
structure Touches (d : DescId) (st st' : FrameStore) : Prop where
  others : ∀ e, e ≠ d → st'.desc e = st.desc e
  queues : st'.queues = st.queues

/-- From st to st' descriptor d and the cells' contents may have changed, and nothing else. -/
structure Alters (d : DescId) (st st' : FrameStore) : Prop extends Touches d st st' where
  freeDescs : st'.freeDescs = st.freeDescs
  freeCells : st'.freeCells = st.freeCells

theorem Touches.queue (a : Touches d st st') (c : Cls) : st'.queue c = st.queue c :=
  congrArg (vget · c) a.queues

theorem alters_updDesc (d : DescId) (f : Descriptor → Descriptor) (st : FrameStore) : Alters d st (st.updDesc d f) :=
  ⟨⟨fun e he => by rw [desc_updDesc, if_neg he.symm], rfl⟩, rfl, rfl⟩

theorem alters_writeByte (d : DescId) (k : Nat) (b : Byte) (st : FrameStore) : Alters d st (st.writeByte d k b) := by
  obtain ⟨hq, hf, hc⟩ := st.writeByte_frame d k b
  obtain ⟨-, -, ho⟩ := st.writeByte_desc d k b
  exact ⟨⟨ho, hq⟩, hf, hc⟩

theorem alters_build (d : DescId) (bs : List Byte) (st : FrameStore) : Alters d st (st.build d bs) := by
  obtain ⟨hq, hf, hc⟩ := st.build_frame d bs
  obtain ⟨-, -, -, ho⟩ := st.build_desc d bs
  exact ⟨⟨ho, hq⟩, hf, hc⟩

theorem FreeOk.touched (h : st.FreeOk) (a : Touches d st st') (hf : st'.freeDescs = st.freeDescs)
    (hd : (st.desc d).state ≠ .free) (hd' : (st'.desc d).state ≠ .free) : st'.FreeOk := by
  refine ⟨fun e => ?_, hf ▸ h.nodup, fun e he => ?_⟩
  · rw [hf, h.list]
    by_cases hed : e = d
    · subst hed; exact iff_of_false hd hd'
    · rw [a.others e hed]
  · have hed : e ≠ d := fun hed => hd' (hed ▸ he)
    rw [a.others e hed] at he ⊢
    exact h.unused e he

theorem CellsOk.touched (h : st.CellsOk) (a : Touches d st st') (hc : (st'.desc d).chain = (st.desc d).chain)
    (hf : st'.freeCells = st.freeCells) : st'.CellsOk := fun k => by
  have he : ∀ e, (st'.desc e).chain = (st.desc e).chain := fun e => by
    by_cases hed : e = d
    · rw [hed, hc]
    · rw [a.others e hed]
  simp only [hf, he]
  exact h k

/-- The check of R119 is due for d alone after d has changed. -/
theorem RefsOk.touched (h : st.RefsOk x u) (hx : ∀ e, x = some e → e = d) (a : Touches d st st')
    (hr : (st'.desc d).refs = (st.desc d).refs) (hc : (st'.desc d).cls = (st.desc d).cls)
    (hh : u.hold = some d → (st'.desc d).state = .complete) : st'.RefsOk (some d) u := by
  refine ⟨fun e => ?_, fun e he hend => ?_, ⟨fun c e hm => ?_, fun c => ?_⟩, fun e he => ?_⟩
  · simp only [a.queue]
    rw [← h.count e]
    by_cases hed : e = d
    · rw [hed, hr]
    · rw [a.others e hed]
  · have hed : e ≠ d := fun hed => he (by rw [hed])
    rw [a.others e hed] at hend ⊢
    exact h.held e (fun hxe => hed (hx e hxe)) hend
  · rw [a.queue] at hm
    by_cases hed : e = d
    · subst hed; exact hc.trans (h.filed.cls c e hm)
    · rw [a.others e hed]; exact h.filed.cls c e hm
  · rw [a.queue]; exact h.filed.nodup c
  · obtain ⟨hs, c, hm⟩ := h.hold e he
    refine ⟨?_, c, by rwa [a.queue]⟩
    by_cases hed : e = d
    · subst hed; exact hh he
    · rwa [a.others e hed]

theorem RefsOk.settled (h : st.RefsOk (some d) u) (hd : ended (st.desc d).state = true → (st.desc d).refs ≠ 0) :
    st.RefsOk none u :=
  ⟨h.count, fun e _ hend => by
    by_cases hed : e = d
    · subst hed; exact hd hend
    · exact h.held e (fun he => hed (Option.some.inj he).symm) hend, h.filed, h.hold⟩

theorem RefsOk.unsettled (h : st.RefsOk none u) (x : Option DescId) : st.RefsOk x u :=
  ⟨h.count, fun e _ hend => h.held e nofun hend, h.filed, h.hold⟩

theorem WritersOk.of_descs (h : st.WritersOk u) (hd : ∀ e, st'.desc e = st.desc e) : st'.WritersOk u := by
  refine ⟨h.framer, fun p e he => ?_, fun c e he => ?_, h.once, fun e he => ?_⟩ <;> rw [hd]
  · exact h.framed p e he
  · exact h.stored c e he
  · exact h.owed e he

/-- The writers do not look at a descriptor that none of them has. -/
theorem WritersOk.alters (h : st.WritersOk u) (ho : ∀ e, e ≠ d → st'.desc e = st.desc e) (hu : u.Unwritten d) :
    st'.WritersOk u := by
  refine ⟨h.framer, fun p e he => ?_, fun c e he => ?_, h.once, fun e he => ?_⟩
  · rw [ho e fun hed => hu.framing p (hed ▸ he)]; exact h.framed p e he
  · rw [ho e fun hed => hu.storage c (hed ▸ he)]; exact h.stored c e he
  · rw [ho e fun hed => hu.owed (hed ▸ he)]; exact h.owed e he

/-! ### Which descriptors have no writer -/

theorem Framed.owner {p q : PortIx} {f g : Framer} {y : Descriptor} (h : Framed p f y) (h' : Framed q g y) : p = q :=
  Origin.tributary.inj (Option.some.inj (h.origin.symm.trans h'.origin))

/-- A descriptor that is not FILLING has no writer. -/
theorem WritersOk.unwritten (h : st.WritersOk u) (hd : (st.desc d).state ≠ .filling) : u.Unwritten d :=
  ⟨fun p hp => hd (h.framed p d hp).state, fun c hc => hd (h.stored c d hc).state, fun ho => hd (h.owed d ho).1.state⟩

/-- The frame of a framer is the frame of no other writer. -/
theorem WritersOk.unwritten_of_framed {p : PortIx} (h : st.WritersOk u) (hd : (u.framing p).desc = some d) :
    (∀ q, q ≠ p → (u.framing q).desc ≠ some d) ∧ (∀ c, u.storage c ≠ some d) ∧ u.owed ≠ some d := by
  have hf := h.framed p d hd
  refine ⟨fun q hq hd' => hq ((h.framed q d hd').owner hf), fun c hc => ?_, fun ho => ?_⟩
  · have := hf.origin.symm.trans (h.stored c d hc).origin; simp at this
  · have := hf.origin.symm.trans (h.owed d ho).1.origin; simp at this

/-- A frame with a holder is no context's and no owed reply's. -/
theorem WritersOk.unwritten_of_refs (h : st.WritersOk u) (hd : (st.desc d).refs ≠ 0) :
    (∀ c, u.storage c ≠ some d) ∧ u.owed ≠ some d :=
  ⟨fun c hc => hd (h.stored c d hc).refs, fun ho => hd (h.owed d ho).1.refs⟩

/-! ### Completion, failure and the check of R119 -/

theorem ended_ne_free {y : DescState} (h : ended y = true) : y ≠ .free := by rintro rfl; cases h

theorem ended_ne_filling {y : DescState} (h : ended y = true) : y ≠ .filling := by rintro rfl; cases h

namespace Sound

theorem unsettled (h : st.Sound none u) (x : Option DescId) : st.Sound x u :=
  ⟨h.free, h.cells, h.refs.unsettled x, h.writers⟩

/-- A frame that no writer has any more changes in its state, header and bytes stored. -/
theorem alters (h : st.Sound x u) (hx : ∀ e, x = some e → e = d) (hu : u.Unwritten d) (a : Alters d st st')
    (hd : (st.desc d).state ≠ .free) (hd' : (st'.desc d).state ≠ .free) (hc : (st'.desc d).chain = (st.desc d).chain)
    (hr : (st'.desc d).refs = (st.desc d).refs) (hk : (st'.desc d).cls = (st.desc d).cls)
    (hh : u.hold = some d → (st'.desc d).state = .complete) : st'.Sound (some d) u :=
  ⟨h.free.touched a.toTouches a.freeDescs hd hd', h.cells.touched a.toTouches hc a.freeCells,
    h.refs.touched hx a.toTouches hr hk hh, h.writers.alters a.others hu⟩

theorem hold_ne_of_filling (h : st.Sound x u) (hd : (st.desc d).state = .filling) : u.hold ≠ some d := fun hh => by
  obtain ⟨hs, -⟩ := h.refs.hold d hh
  rw [hd] at hs; cases hs

/-- A FILLING frame ends, COMPLETE or FAILED (R116, R117). -/
theorem ends (h : st.Sound none u) (hu : u.Unwritten d) (hd : (st.desc d).state = .filling) {y : DescState}
    (hy : y ≠ .free) : (st.updDesc d fun x => { x with state := y }).Sound (some d) u := by
  have hdesc := st.desc_updDesc_self d fun x => { x with state := y }
  refine h.alters nofun hu (alters_updDesc d _ st) (by rw [hd]; nofun) ?_ ?_ ?_ ?_ ?_ <;> rw [hdesc]
  · exact hy
  · exact fun hh => absurd hh (h.hold_ne_of_filling hd)

/-- A frame without holders and without writer is released (R111, R119). -/
theorem release (h : st.Sound x u) (hx : ∀ e, x = some e → e = d) (hu : u.Unwritten d)
    (hd : (st.desc d).state ≠ .free) (hr : (st.desc d).refs = 0) : (st.release d).Sound none u := by
  obtain ⟨-, hqs, hfd, hfc⟩ := st.release_frame d
  have hq : ∀ c, (st.release d).queue c = st.queue c := fun c => congrArg (vget · c) hqs
  have hdesc := st.release_desc d
  have hs : ∀ e, ((st.release d).desc e).state = .free ↔ e ∈ st.freeDescs ∨ e = d := fun e => by
    rw [hdesc]
    split
    · next he => exact iff_of_true rfl (.inr he.symm)
    · next he => rw [h.free.list]; exact ⟨.inl, fun h => h.resolve_right (Ne.symm he)⟩
  have hnot : d ∉ st.freeDescs := fun hm => hd ((h.free.list d).1 hm)
  have hcount := h.refs.count d
  rw [hr] at hcount
  have hgone : ∀ c, d ∉ st.queue c := fun c hm => by
    have := Finset.single_le_sum (f := fun c => (st.queue c).count d) (fun _ _ => Nat.zero_le _) (Finset.mem_univ c)
    have := List.count_pos_iff.2 hm
    omega
  refine ⟨⟨fun e => ?_, ?_, fun e he => ?_⟩, fun k => ?_, ⟨fun e => ?_, fun e _ he => ?_, ⟨fun c e hm => ?_, fun c => ?_⟩,
    fun e he => ?_⟩, h.writers.alters (fun e he => by rw [hdesc, if_neg he.symm]) hu⟩
  · rw [hfd, hs, List.mem_append, List.mem_singleton]
  · rw [hfd]
    exact List.nodup_append.2 ⟨h.free.nodup, List.nodup_singleton d, fun a ha b hb => by
      rw [List.mem_singleton.1 hb]; exact fun hab => hnot (hab ▸ ha)⟩
  · rw [hdesc] at he ⊢
    split
    · rfl
    · next hne => rw [if_neg hne] at he; exact h.free.unused e he
  · have hsum := sum_vupd (fun y : Descriptor => y.chain.count k) st.descs d fun _ => Descriptor.unused
    have hk : st.freeCells.count k + ∑ e, (vget st.descs e).chain.count k = 1 := h.cells k
    have hd0 : (vget st.descs d).chain.count k = (st.desc d).chain.count k := rfl
    have hz : Descriptor.unused.chain.count k = 0 := rfl
    rw [hfc, List.count_append]
    change _ + ∑ e, (vget (vupd st.descs d fun _ => Descriptor.unused) e).chain.count k = 1
    omega
  · simp only [hq, hdesc]
    split
    · next he => subst he; exact hcount
    · exact h.refs.count e
  · rw [hdesc] at he ⊢
    split
    · next hne => rw [if_pos hne] at he; cases he
    · next hne => rw [if_neg hne] at he; exact h.refs.held e (fun hxe => hne (hx e hxe).symm) he
  · rw [hq] at hm
    have hne : d ≠ e := fun hde => hgone c (hde ▸ hm)
    rw [hdesc, if_neg hne]
    exact h.refs.filed.cls c e hm
  · rw [hq]; exact h.refs.filed.nodup c
  · obtain ⟨hs, c, hm⟩ := h.refs.hold e he
    have hne : d ≠ e := fun hde => hgone c (hde ▸ hm)
    rw [hdesc, if_neg hne]
    exact ⟨hs, c, by rwa [hq]⟩

/-- The check made at a drop, a completion and a failure (R119). -/
theorem settle (h : st.Sound (some d) u) : (st.settle d).Sound none u := by
  unfold FrameStore.settle
  split
  · next hd =>
    obtain ⟨hr, he⟩ := hd
    exact h.release (fun e he => (Option.some.inj he).symm) (h.writers.unwritten (ended_ne_filling he)) (ended_ne_free he) hr
  · next hd => exact ⟨h.free, h.cells, h.refs.settled fun he hr => hd ⟨hr, he⟩, h.writers⟩

theorem complete_settle (h : st.Sound none u) (hu : u.Unwritten d) (hd : (st.desc d).state = .filling) :
    ((st.complete d).settle d).Sound none u := settle (h.ends hu hd nofun)

/-! ### References (R119) -/

/-- The reference count of d, counted again where its holders have changed. -/
theorem setRefs (h : st.Sound x u) (hx : ∀ e, x = some e → e = d) {n : Nat} {u' : Users}
    (hn : n = (∑ c, (st.queue c).count d) + u'.held d) (hu' : ∀ e, e ≠ d → u'.held e = u.held e)
    (hhold : u'.hold = u.hold) (hd : (st.desc d).state ≠ .free)
    (hw : (st.updDesc d fun y => { y with refs := n }).WritersOk u') :
    (st.updDesc d fun y => { y with refs := n }).Sound (some d) u' := by
  have a := alters_updDesc d (fun y => { y with refs := n }) st
  have hdesc := st.desc_updDesc_self d fun y => { y with refs := n }
  refine ⟨h.free.touched a.toTouches a.freeDescs hd (by rwa [hdesc]), h.cells.touched a.toTouches (by rw [hdesc]) rfl,
    ⟨fun e => ?_, fun e he hend => ?_, ?_, fun e he => ?_⟩, hw⟩
  · simp only [a.queue]
    by_cases hed : e = d
    · subst hed; rw [hdesc]; exact hn
    · rw [a.others e hed, hu' e hed]; exact h.refs.count e
  · have hed : e ≠ d := fun hed => he (by rw [hed])
    rw [a.others e hed] at hend ⊢
    exact h.refs.held e (fun hxe => hed (hx e hxe)) hend
  · exact h.refs.filed.updDesc rfl
  · obtain ⟨hs, c, hm⟩ := h.refs.hold e (hhold ▸ he)
    refine ⟨?_, c, hm⟩
    by_cases hed : e = d
    · subst hed; rwa [hdesc]
    · rwa [a.others e hed]

end Sound

theorem WritersOk.of_users {u' : Users} (h : st.WritersOk u) (hf : u'.framing = u.framing) (hs : u'.storage = u.storage)
    (ho : u'.owed = u.owed) : st.WritersOk u' :=
  ⟨hf ▸ h.framer, hf ▸ h.framed, hs ▸ h.stored, hs ▸ h.once, ho ▸ h.owed⟩

/-- A frame that has a holder may have another number of them: its framer has it in BODY. -/
theorem WritersOk.setRefs (h : st.WritersOk u) (hr : (st.desc d).refs ≠ 0) (n : Nat) :
    (st.updDesc d fun y => { y with refs := n }).WritersOk u := by
  have a := alters_updDesc d (fun y => { y with refs := n }) st
  have hdesc := st.desc_updDesc_self d fun y => { y with refs := n }
  obtain ⟨hs, ho⟩ := h.unwritten_of_refs hr
  refine ⟨h.framer, fun p e he => ?_, fun c e he => ?_, h.once, fun e he => ?_⟩
  · by_cases hed : e = d
    · subst hed
      have hf := h.framed p e he
      rw [hdesc]
      exact ⟨hf.state, hf.origin, hf.chain, fun hh => absurd (hf.header hh).1 hr, hf.body⟩
    · rw [a.others e hed]; exact h.framed p e he
  · rw [a.others e fun hed => hs c (hed ▸ he)]; exact h.stored c e he
  · rw [a.others e fun hed => ho (hed ▸ he)]; exact h.owed e he

namespace Sound

/-- A reference in passing is dropped, and the check of R119 is due. -/
theorem refDropped (h : st.Sound x (u.add [d])) (hx : ∀ e, x = some e → e = d) :
    (st.updDesc d fun y => { y with refs := y.refs - 1 }).Sound (some d) u := by
  have hc : (st.desc d).refs = (∑ c, (st.queue c).count d) + (u.held d + [d].count d) := h.refs.count d
  rw [List.count_singleton_self] at hc
  have hr : (st.desc d).refs ≠ 0 := by omega
  have hfree : (st.desc d).state ≠ .free := fun hf => hr (by rw [h.free.unused d hf]; rfl)
  rw [updDesc_congr (g := fun y => { y with refs := (st.desc d).refs - 1 }) rfl]
  refine h.setRefs hx (by omega) (fun e he => ?_) rfl hfree ((h.writers.of_users (u' := u) rfl rfl rfl).setRefs hr _)
  have : [d].count e = 0 := List.count_eq_zero.2 fun hm => he (List.mem_singleton.1 hm)
  exact (Nat.add_zero _).symm.trans (by rw [← this]; rfl)

/-- A holder drops its reference (R119). -/
theorem dropRef (h : st.Sound none (u.add [d])) : (st.dropRef d).Sound none u := settle (h.refDropped nofun)

theorem of_users {u' : Users} (h : st.Sound x u) (he : u' = u) : st.Sound x u' := he ▸ h

theorem dropRefs {l : List DescId} (h : st.Sound none (u.add l)) : (l.foldl (fun st d => st.dropRef d) st).Sound none u := by
  induction l generalizing st with
  | nil => exact h
  | cons d l ih =>
    refine ih (dropRef (h.of_users ?_))
    simp only [Users.add, Users.mk.injEq, and_true]
    funext e
    simp only [List.count_cons, List.count_nil]
    omega

/-- A holder takes a reference to a frame that has ended (R119). -/
theorem addRef (h : st.Sound x u) (hx : ∀ e, x = some e → e = d) (he : ended (st.desc d).state = true) :
    (st.addRef d).Sound (some d) (u.add [d]) := by
  have hu := h.writers.unwritten (ended_ne_filling he)
  have hc := h.refs.count d
  unfold FrameStore.addRef
  rw [updDesc_congr (g := fun y => { y with refs := (st.desc d).refs + 1 }) rfl]
  refine h.setRefs hx ?_ (fun e hed => ?_) rfl (ended_ne_free he)
    ((h.writers.alters (alters_updDesc d _ st).others hu).of_users rfl rfl rfl)
  · simp only [Users.add, List.count_singleton_self]; omega
  · have : [d].count e = 0 := List.count_eq_zero.2 fun hm => hed (List.mem_singleton.1 hm)
    simp only [Users.add, this, Nat.add_zero]

/-! ### Class queues (R121, R122) -/

/-- A reference leaves its class queue, in passing to another holder or to be dropped. -/
theorem unqueue (h : st.Sound x u) {c : Cls} (hm : d ∈ st.queue c) (hh : u.hold ≠ some d) :
    (st.unqueue c d).Sound x (u.add [d]) := by
  have hq := st.unqueue_queue d c
  have hdesc : ∀ e, (st.unqueue c d).desc e = st.desc e := fun _ => rfl
  refine ⟨⟨h.free.list, h.free.nodup, h.free.unused⟩, h.cells, ⟨fun e => ?_, h.refs.held, ⟨fun k e he => ?_, fun k => ?_⟩,
    fun e he => ?_⟩, (h.writers.of_descs hdesc).of_users rfl rfl rfl⟩
  · have hsum : (∑ k, ((st.unqueue c d).queue k).count e) + (st.queue c).count e =
        (∑ k, (st.queue k).count e) + ((st.queue c).erase d).count e :=
      sum_vupd (fun l : List DescId => l.count e) st.queues c (·.erase d)
    have hc := h.refs.count e
    rw [List.count_erase] at hsum
    simp only [Users.add, List.count_singleton, hdesc]
    have hpos : d = e → 0 < (st.queue c).count e := fun hde => List.count_pos_iff.2 (hde ▸ hm)
    by_cases hde : d = e
    · have := hpos hde
      simp only [hde, beq_self_eq_true, if_true] at hsum ⊢
      omega
    · have hb : (d == e) = false := by simpa using hde
      simp only [hb, Bool.false_eq_true, if_false] at hsum ⊢
      omega
  · rw [hq] at he
    refine h.refs.filed.cls k e ?_
    split at he
    · exact List.mem_of_mem_erase he
    · exact he
  · rw [hq]
    split
    · exact (h.refs.filed.nodup k).erase d
    · exact h.refs.filed.nodup k
  · obtain ⟨hs, k, hk⟩ := h.refs.hold e he
    refine ⟨hs, k, ?_⟩
    rw [hq]
    split
    · exact (List.mem_erase_of_ne fun hed : e = d => hh (hed ▸ he)).2 hk
    · exact hk

/-- The class queue that holds d, if one does, lets it go (R117, R122). -/
theorem leaveQueue (h : st.Sound x u) (hx : ∀ e, x = some e → e = d) (hh : u.hold ≠ some d) :
    (st.leaveQueue d).Sound x u ∨ (st.leaveQueue d).Sound (some d) u := by
  unfold FrameStore.leaveQueue
  split
  · exact .inl h
  · next c _ =>
    split
    · next hm => exact .inr ((h.unqueue (List.contains_iff_mem.1 hm) hh).refDropped hx)
    · exact .inl h

/-- A FILLING frame that no writer has any more fails (R117). -/
theorem fail (h : st.Sound none u) (hu : u.Unwritten d) (hd : (st.desc d).state = .filling) (r : FailReason) :
    (st.fail d r).Sound none u := by
  have he := h.ends hu hd (y := .failed r) nofun
  exact settle ((he.leaveQueue (fun e he => (Option.some.inj he).symm) (h.hold_ne_of_filling hd)).elim id id)

/-- A queued frame leaves its class queue unsent (R122). -/
theorem leaveQueue_settle (h : st.Sound none u) (hh : u.hold ≠ some d) :
    ((st.leaveQueue d).settle d).Sound none u :=
  settle ((h.leaveQueue nofun hh).elim (fun h => h.unsettled _) id)

end Sound

/-- d joins class queue c at one of its ends (R121). -/
structure Admits (c : Cls) (d : DescId) (k : Bool) (st st' : FrameStore) : Prop where
  queue : ∀ c', (st'.queue c').Perm (if c = c' then d :: st.queue c' else st.queue c')
  desc : ∀ e, st'.desc e = if d = e then admitted c k (st.desc e) else st.desc e
  freeDescs : st'.freeDescs = st.freeDescs
  freeCells : st'.freeCells = st.freeCells

theorem admits_tail (c : Cls) (k : Bool) (d : DescId) (st : FrameStore) : Admits c d k st (st.admitTail c k d) := by
  refine ⟨fun c' => ?_, fun e => st.admitTail_desc d e c k, rfl, rfl⟩
  rw [admitTail_queue]
  split
  · exact List.perm_append_comm
  · exact .refl _

theorem admits_head (c : Cls) (k : Bool) (d : DescId) (st : FrameStore) : Admits c d k st (st.admitHead c k d) := by
  refine ⟨fun c' => ?_, fun e => st.admitHead_desc d e c k, rfl, rfl⟩
  rw [admitHead_queue]

/-- A frame with no holder and no writer is admitted to a class queue (R121). -/
theorem Sound.admits (h : st.Sound x u) (hx : ∀ e, x = some e → e = d) (hu : u.Unwritten d) {c : Cls} {k : Bool}
    (a : Admits c d k st st') (hd : (st.desc d).state ≠ .free) (hr : (st.desc d).refs = 0) : st'.Sound none u := by
  have hself : st'.desc d = admitted c k (st.desc d) := by rw [a.desc, if_pos rfl]
  have hne : ∀ e, e ≠ d → st'.desc e = st.desc e := fun e he => by rw [a.desc, if_neg he.symm]
  have hcount := h.refs.count d
  rw [hr] at hcount
  have hgone : ∀ c, d ∉ st.queue c := fun c hm => by
    have := Finset.single_le_sum (f := fun c => (st.queue c).count d) (fun _ _ => Nat.zero_le _) (Finset.mem_univ c)
    have := List.count_pos_iff.2 hm
    omega
  have hmem : ∀ c' e, e ∈ st'.queue c' ↔ (c = c' ∧ e = d) ∨ e ∈ st.queue c' := fun c' e => by
    rw [(a.queue c').mem_iff]
    split
    · next hc => simp [hc]
    · next hc => simp [hc]
  have hsum : ∀ e, (∑ c', (st'.queue c').count e) = (∑ c', (st.queue c').count e) + [d].count e := fun e => by
    have hterm : ∀ c', (st'.queue c').count e = (st.queue c').count e + if c = c' then [d].count e else 0 := fun c' => by
      rw [(a.queue c').count_eq]
      split
      · rw [List.count_cons, List.count_singleton]
      · rfl
    simp only [hterm, Finset.sum_add_distrib, Finset.sum_ite_eq, Finset.mem_univ, if_true]
  refine ⟨⟨fun e => ?_, a.freeDescs ▸ h.free.nodup, fun e he => ?_⟩, fun k => ?_, ⟨fun e => ?_, fun e _ he => ?_,
    ⟨fun c' e he => ?_, fun c' => ?_⟩, fun e he => ?_⟩, h.writers.alters hne hu⟩
  · rw [a.freeDescs, h.free.list, a.desc]
    split <;> rfl
  · rw [a.desc] at he ⊢
    split
    · next hde => rw [if_pos hde, ← hde] at he; exact absurd he hd
    · next hde => rw [if_neg hde] at he; exact h.free.unused e he
  · have hchain : ∀ e, (st'.desc e).chain = (st.desc e).chain := fun e => by rw [a.desc]; split <;> rfl
    simp only [a.freeCells, hchain]
    exact h.cells k
  · rw [hsum, a.desc]
    by_cases hde : d = e
    · subst hde
      rw [if_pos rfl, List.count_singleton_self]
      simp only [admitted]
      omega
    · rw [if_neg hde, List.count_singleton, if_neg (by simpa using hde), h.refs.count e]
      omega
  · rw [a.desc] at he ⊢
    split
    · exact Nat.one_ne_zero
    · next hde => rw [if_neg hde] at he; exact h.refs.held e (fun hxe => hde (hx e hxe).symm) he
  · rcases (hmem c' e).1 he with ⟨rfl, rfl⟩ | hm
    · rw [hself]; rfl
    · rw [hne e fun hed => hgone c' (hed ▸ hm)]; exact h.refs.filed.cls c' e hm
  · rw [(a.queue c').nodup_iff]
    split
    · exact List.nodup_cons.2 ⟨hgone c', h.refs.filed.nodup c'⟩
    · exact h.refs.filed.nodup c'
  · obtain ⟨hs, c', hm⟩ := h.refs.hold e he
    exact ⟨by rw [hne e fun hed => hgone c' (hed ▸ hm)]; exact hs, c', (hmem c' e).2 (.inr hm)⟩

end Sys2Proof.Machine.FrameStore
end

section
/-! What takes, line bytes and built frames keep of the store's soundness, and the users that take or leave a descriptor
(R93, R94, R112, R113, R116, R128). -/

namespace Sys2Proof.Machine

/-! ### A user takes or leaves a descriptor -/

namespace Users

def setFraming (p : PortIx) (f : Framer) (u : Users) : Users := { u with framing := Function.update u.framing p f }

def setStorage (c : Cls) (o : Option DescId) (u : Users) : Users := { u with storage := Function.update u.storage c o }

/-- The users, none of them writing. -/
def idle (u : Users) : Users := { u with framing := fun _ => Framer.reset, storage := fun _ => none, owed := none }

end Users

namespace FrameStore

variable {x : Option DescId} {u : Users} {st st' : FrameStore} {d : DescId}

/-- The framer of port p stands in f, with a descriptor that it may have or with none. -/
theorem WritersOk.setFraming (h : st.WritersOk u) {p : PortIx} {f : Framer} (hr : f.receiving = f.desc.isSome)
    (hf : ∀ d, f.desc = some d → Framed p f (st.desc d)) : st.WritersOk (u.setFraming p f) := by
  refine ⟨fun q => ?_, fun q d hd => ?_, h.stored, h.once, h.owed⟩ <;> by_cases hq : q = p
  · subst hq; simpa [Users.setFraming] using hr
  · simpa [Users.setFraming, hq] using h.framer q
  · subst hq
    simp only [Users.setFraming, Function.update_self] at hd ⊢
    exact hf d hd
  · simp only [Users.setFraming, Function.update_of_ne hq] at hd ⊢
    exact h.framed q d hd

theorem WritersOk.setStorage (h : st.WritersOk u) {c : Cls} {o : Option DescId}
    (ho : ∀ d, o = some d → Owned .trunk (st.desc d) ∧ ∀ c', c' ≠ c → u.storage c' ≠ some d) :
    st.WritersOk (u.setStorage c o) := by
  have hval : ∀ c', (u.setStorage c o).storage c' = if c' = c then o else u.storage c' := fun c' => by
    simp [Users.setStorage, Function.update_apply]
  refine ⟨h.framer, h.framed, fun c' d hd => ?_, fun c1 c2 d h1 h2 => ?_, h.owed⟩
  · rw [hval] at hd
    split at hd
    · exact (ho d hd).1
    · exact h.stored c' d hd
  · rw [hval] at h1 h2
    split at h1 <;> split at h2
    · next e1 e2 => exact e1.trans e2.symm
    · next e2 => exact absurd h2 ((ho d h1).2 c2 e2)
    · next e1 _ => exact absurd h1 ((ho d h2).2 c1 e1)
    · exact h.once c1 c2 d h1 h2

namespace Sound

theorem with_users {u' : Users} (h : st.Sound x u) (hd : u'.held = u.held) (hh : ∀ d, u'.hold = some d → u.hold = some d)
    (hw : st.WritersOk u') : st.Sound x u' :=
  ⟨h.free, h.cells, ⟨fun d => by rw [hd]; exact h.refs.count d, h.refs.held, h.refs.filed,
    fun d e => h.refs.hold d (hh d e)⟩, hw⟩

theorem setFraming (h : st.Sound x u) {p : PortIx} {f : Framer} (hr : f.receiving = f.desc.isSome)
    (hf : ∀ d, f.desc = some d → Framed p f (st.desc d)) : st.Sound x (u.setFraming p f) :=
  h.with_users rfl (fun _ => id) (h.writers.setFraming hr hf)

/-- A framer without a frame. -/
theorem freed (h : st.Sound x u) (p : PortIx) {f : Framer} (hr : f.receiving = false) (hf : f.desc = none) :
    st.Sound x (u.setFraming p f) := h.setFraming (by rw [hr, hf]; rfl) (by rw [hf]; nofun)

theorem setStorage (h : st.Sound x u) {c : Cls} {o : Option DescId}
    (ho : ∀ d, o = some d → Owned .trunk (st.desc d) ∧ ∀ c', c' ≠ c → u.storage c' ≠ some d) :
    st.Sound x (u.setStorage c o) := h.with_users rfl (fun _ => id) (h.writers.setStorage ho)

/-- The owed reply's descriptor is left to the builder (R174). -/
theorem owed_left (h : st.Sound x u) : st.Sound x { u with owed := none } :=
  h.with_users rfl (fun _ => id) ⟨h.writers.framer, h.writers.framed, h.writers.stored, h.writers.once, nofun⟩

/-- Once its framer has let it go, a framer's frame has no writer. -/
theorem unwritten_of_freed (h : st.Sound x u) {p : PortIx} (hd : (u.framing p).desc = some d) {f : Framer}
    (hf : f.desc = none) : (u.setFraming p f).Unwritten d := by
  obtain ⟨ho, hs, hw⟩ := h.writers.unwritten_of_framed hd
  refine ⟨fun q => ?_, hs, hw⟩
  by_cases hq : q = p
  · subst hq; simp [Users.setFraming, hf]
  · simpa [Users.setFraming, hq] using ho q hq

end Sound

/-! ### Takes (R111 to R114) -/

/-- The descriptor taken is the head of the free list, with the fields of R112; it has no writer yet. -/
theorem Sound.takeDesc (h : st.Sound none u) {o : Origin} (ht : st.takeDesc o = some (d, st')) :
    st'.Sound none u ∧ u.Unwritten d ∧ st'.desc d = begun o ∧ st'.freeCells = st.freeCells := by
  unfold FrameStore.takeDesc at ht
  split at ht
  · cases ht
  · next e ds hf =>
    cases ht
    have hmem : ∀ e, e ∈ st.freeDescs ↔ e = d ∨ e ∈ ds := fun e => by rw [hf, List.mem_cons]
    have hnd := h.free.nodup
    rw [hf] at hnd
    obtain ⟨hd, hds⟩ := List.nodup_cons.1 hnd
    have hfree := (h.free.list d).1 ((hmem d).2 (.inl rfl))
    have hun := h.free.unused d hfree
    have hu := h.writers.unwritten (by rw [hfree]; nofun)
    have hself : ({ st with freeDescs := ds }.updDesc d fun _ => begun o).desc d = begun o := desc_updDesc_self ..
    have a : Touches d st ({ st with freeDescs := ds }.updDesc d fun _ => begun o) :=
      ⟨(alters_updDesc d _ { st with freeDescs := ds }).others, rfl⟩
    have hhold : u.hold ≠ some d := fun hh => by
      have := (h.refs.hold d hh).1
      rw [hfree] at this; cases this
    refine ⟨⟨⟨fun e => ?_, hds, fun e he => ?_⟩, h.cells.touched a (by rw [hself, hun]; rfl) rfl, ?_,
      h.writers.alters a.others hu⟩, hu, hself, rfl⟩
    · by_cases hed : e = d
      · subst hed
        rw [hself]
        exact iff_of_false hd nofun
      · rw [a.others e hed]
        exact ((hmem e).trans ⟨fun h => h.resolve_left hed, .inr⟩).symm.trans (h.free.list e)
    · have hed : e ≠ d := fun hed => by rw [hed, hself] at he; cases he
      rw [a.others e hed] at he ⊢
      exact h.free.unused e he
    · refine (h.refs.touched nofun a ?_ ?_ fun hh => absurd hh hhold).settled (by rw [hself]; nofun)
      · rw [hself, hun]; rfl
      · rw [hself, hun]; rfl

theorem takeDesc_of_line {o : Origin} (h : st.lineTakeDesc o = some (d, st')) : st.takeDesc o = some (d, st') := by
  unfold lineTakeDesc at h
  split at h
  · exact h
  · cases h

/-- The first cells of the free list join the end of the chain of d (R113). -/
def giveCells (d : DescId) (cs rest : List CellId) (st : FrameStore) : FrameStore :=
  { st with freeCells := rest }.updDesc d fun y => { y with chain := y.chain ++ cs }

theorem desc_giveCells (d : DescId) (cs rest : List CellId) (st : FrameStore) :
    (st.giveCells d cs rest).desc d = { st.desc d with chain := (st.desc d).chain ++ cs } := desc_updDesc_self ..

theorem others_giveCells (cs rest : List CellId) {e : DescId} (he : e ≠ d) : (st.giveCells d cs rest).desc e = st.desc e :=
  (alters_updDesc d _ { st with freeCells := rest }).others e he

theorem takeCell_eq_some (h : st.takeCell d = some st') : ∃ c cs, st.freeCells = c :: cs ∧ st' = st.giveCells d [c] cs := by
  unfold takeCell at h
  split at h
  · cases h
  · next c cs hf => cases h; exact ⟨c, cs, hf, rfl⟩

/-- All that a gift of cells keeps but for the writers. -/
theorem Sound.giveCells (h : st.Sound none u) {cs rest : List CellId} (hf : st.freeCells = cs ++ rest)
    (hd : (st.desc d).state = .filling) (hw : (st.giveCells d cs rest).WritersOk u) :
    (st.giveCells d cs rest).Sound none u := by
  have hself := st.desc_giveCells d cs rest
  have a : Touches d st (st.giveCells d cs rest) := ⟨fun e he => others_giveCells cs rest he, rfl⟩
  refine ⟨h.free.touched a rfl (by rw [hd]; nofun) (by rw [hself, show _ = _ from hd]; nofun), fun k => ?_,
    (h.refs.touched nofun a (by rw [hself]) (by rw [hself]) fun hh => absurd hh (h.hold_ne_of_filling hd)).settled
      (by rw [hself, show _ = _ from hd]; nofun), hw⟩
  have hsum := sum_vupd (fun y : Descriptor => y.chain.count k) st.descs d fun y => { y with chain := y.chain ++ cs }
  have hk : st.freeCells.count k + ∑ e, (vget st.descs e).chain.count k = 1 := h.cells k
  change rest.count k + ∑ e, (vget (vupd st.descs d _) e).chain.count k = 1
  rw [hf, List.count_append] at hk
  simp only [List.count_append] at hsum
  omega

/-- The Agent's claim: a descriptor of its own with the cells claimed (R113). -/
theorem Sound.agentClaim (h : st.Sound none u) {n : Nat} (hc : st.agentClaim n = some (d, st')) :
    st'.Sound none u ∧ u.Unwritten d ∧ Owned .agent (st'.desc d) ∧ (st'.desc d).chain.length = n := by
  unfold FrameStore.agentClaim at hc
  split at hc
  · next hn =>
    split at hc
    · cases hc
    · next e st1 ht =>
      cases hc
      obtain ⟨h1, hu, hd, hcells⟩ := h.takeDesc ht
      have hg : ({ st1 with freeCells := st1.freeCells.drop n }.updDesc d fun y => { y with chain := st1.freeCells.take n }) =
          st1.giveCells d (st1.freeCells.take n) (st1.freeCells.drop n) := by
        refine updDesc_congr ?_
        have hn : (st1.desc d).chain ++ st1.freeCells.take n = st1.freeCells.take n := by rw [hd]; rfl
        exact congrArg (fun l => { st1.desc d with chain := l }) hn.symm
      rw [hg]
      have hself := st1.desc_giveCells d (st1.freeCells.take n) (st1.freeCells.drop n)
      refine ⟨h1.giveCells (List.take_append_drop n _).symm (by rw [hd]; rfl)
        (h1.writers.alters (fun e he => others_giveCells _ _ he) hu), hu, ?_, ?_⟩
      · rw [hself, hd]
        exact ⟨rfl, rfl, rfl, rfl⟩
      · rw [hself, hd, hcells]
        simpa [begun, Descriptor.unused] using hn
  · cases hc

/-! ### Bytes (R94, R113, R116, R130) -/

/-- What a byte taken by a line receiver leaves of its descriptor. -/
structure ByteTaken (y y' : Descriptor) : Prop where
  rest : ∃ l n, y' = { y with chain := l, stored := n }
  fits : y.chain.length = cellsFor y.stored → y'.stored = y.stored + 1 ∧ y'.chain.length = cellsFor (y.stored + 1)

/-- A byte is written where the chain has room for it. -/
theorem byteTaken_writeByte {st₀ : FrameStore} {l : List CellId} (b : Byte)
    (hd : st.desc d = { st₀.desc d with chain := l })
    (hl : (st₀.desc d).chain.length = cellsFor (st₀.desc d).stored → l.length = cellsFor ((st₀.desc d).stored + 1)) :
    ByteTaken (st₀.desc d) ((st.writeByte d ((st₀.desc d).stored + 1) b).desc d) := by
  obtain ⟨n, hw, -⟩ := st.writeByte_desc d ((st₀.desc d).stored + 1) b
  refine ⟨⟨l, n, by rw [hw, hd]⟩, fun hc => ?_⟩
  have hlen := hl hc
  have hchain : (st.desc d).chain.length = cellsFor ((st₀.desc d).stored + 1) := by rw [hd]; exact hlen
  obtain ⟨a, ha⟩ := byteAddr_of_lt (st := st) (d := d) (k := (st₀.desc d).stored + 1)
    (by rw [hchain]; have := le_cellsFor ((st₀.desc d).stored + 1); omega)
  exact ⟨stored_writeByte ha b, by rw [writeByte_chain, hchain]⟩

theorem ByteTaken.framed {p : PortIx} {f : Framer} {y y' : Descriptor} (h : ByteTaken y y') (hf : Framed p f y) :
    Framed p f y' := by
  obtain ⟨hs, hc⟩ := h.fits hf.chain
  obtain ⟨l, n, rfl⟩ := h.rest
  exact ⟨hf.state, hf.origin, by rw [hs]; exact hc, hf.header, fun hb => by have := hf.body hb; rw [hs]; omega⟩

theorem ByteTaken.owned {o : Origin} {y y' : Descriptor} (h : ByteTaken y y') (ho : Owned o y) : Owned o y' := by
  obtain ⟨l, n, rfl⟩ := h.rest
  exact ⟨ho.state, ho.origin, ho.refs, ho.cls⟩

theorem WritersOk.byteTaken (h : st.WritersOk u) (ho : ∀ e, e ≠ d → st'.desc e = st.desc e)
    (hb : ByteTaken (st.desc d) (st'.desc d)) (hw : u.owed ≠ some d) : st'.WritersOk u := by
  refine ⟨h.framer, fun p e he => ?_, fun c e he => ?_, h.once, fun e he => ?_⟩
  · by_cases hed : e = d
    · subst hed; exact hb.framed (h.framed p e he)
    · rw [ho e hed]; exact h.framed p e he
  · by_cases hed : e = d
    · subst hed; exact hb.owned (h.stored c e he)
    · rw [ho e hed]; exact h.stored c e he
  · rw [ho e fun hed => hw (hed ▸ he)]; exact h.owed e he

/-- A FILLING frame changes in its header and bytes stored, as its writer has it. -/
theorem Sound.refills (h : st.Sound none u) (a : Alters d st st') (hd : (st.desc d).state = .filling)
    (hd' : (st'.desc d).state = .filling) (hc : (st'.desc d).chain = (st.desc d).chain)
    (hr : (st'.desc d).refs = (st.desc d).refs) (hk : (st'.desc d).cls = (st.desc d).cls) (hw : st'.WritersOk u) :
    st'.Sound none u :=
  ⟨h.free.touched a.toTouches a.freeDescs (by rw [hd]; nofun) (by rw [hd']; nofun),
    h.cells.touched a.toTouches hc a.freeCells,
    (h.refs.touched nofun a.toTouches hr hk fun hh => absurd hh (h.hold_ne_of_filling hd)).settled (by rw [hd']; nofun), hw⟩

/-- The store without its writers: a cell given to a frame's chain, before the byte that it is for. -/
theorem Sound.idle (h : st.Sound x u) : st.Sound x u.idle :=
  h.with_users rfl (fun _ => id) ⟨fun _ => rfl, nofun, nofun, nofun, nofun⟩

/-- The byte is written where the chain has room for it, in a store whose writers are as they were before the room. -/
theorem Sound.byteWritten {st₁ : FrameStore} {l : List CellId} {b : Byte} {k : Nat} (h : st₁.Sound none u.idle)
    (hw : st.WritersOk u) (hne : ∀ e, e ≠ d → st₁.desc e = st.desc e) (hd₁ : st₁.desc d = { st.desc d with chain := l })
    (hd : (st.desc d).state = .filling) (ho : u.owed ≠ some d)
    (ht : ByteTaken (st.desc d) ((st₁.writeByte d k b).desc d)) : (st₁.writeByte d k b).Sound none u := by
  have a := alters_writeByte d k b st₁
  obtain ⟨n, hn, -⟩ := st₁.writeByte_desc d k b
  have hs : (st₁.desc d).state = .filling := by rw [hd₁]; exact hd
  have hi := h.refills a hs (by rw [hn]; exact hs) (by rw [hn]) (by rw [hn]) (by rw [hn])
    ⟨fun _ => rfl, nofun, nofun, nofun, nofun⟩
  exact hi.with_users rfl (fun _ => id) (hw.byteTaken (fun e he => (a.others e he).trans (hne e he)) ht ho)

theorem takeCell_of_line (h : st.lineTakeCell d = some st') : st.takeCell d = some st' := by
  unfold lineTakeCell at h
  split at h
  · exact h
  · cases h

/-- A byte that a line receiver stores (R94, R130). -/
theorem Sound.lineByte (h : st.Sound none u) {b : Byte} (hb : st.lineByte d b = some st')
    (hd : (st.desc d).state = .filling) (ho : u.owed ≠ some d) :
    st'.Sound none u ∧ ByteTaken (st.desc d) (st'.desc d) := by
  unfold FrameStore.lineByte at hb
  split at hb
  · next hz =>
    split at hb
    · cases hb
    · next st₁ h₁ =>
      cases hb
      obtain ⟨c, cs, hf, rfl⟩ := takeCell_eq_some (takeCell_of_line h₁)
      have hd₁ := st.desc_giveCells d [c] cs
      have ht := byteTaken_writeByte b hd₁ fun hl => by
        rw [cellsFor_succ, if_pos hz, List.length_append, hl]; rfl
      have hg := h.idle.giveCells (d := d) (cs := [c]) (rest := cs) hf hd ⟨fun _ => rfl, nofun, nofun, nofun, nofun⟩
      exact ⟨hg.byteWritten h.writers (fun e he => others_giveCells _ _ he) hd₁ hd ho ht, ht⟩
  · next hz =>
    cases hb
    have ht := byteTaken_writeByte (st := st) (st₀ := st) (d := d) (l := (st.desc d).chain) b rfl
      fun hl => by rw [cellsFor_succ, if_neg hz, hl]; rfl
    exact ⟨h.idle.byteWritten h.writers (fun _ _ => rfl) rfl hd ho ht, ht⟩

/-- No writer looks at the header of its descriptor. -/
theorem WritersOk.setHeader (h : st.WritersOk u) (d : DescId) (y : Option Header) :
    (st.updDesc d fun x => { x with header := y }).WritersOk u := by
  have a := alters_updDesc d (fun x : Descriptor => { x with header := y }) st
  have hself := st.desc_updDesc_self d fun x : Descriptor => { x with header := y }
  refine ⟨h.framer, fun p e he => ?_, fun c e he => ?_, h.once, fun e he => ?_⟩
  · by_cases hed : e = d
    · subst hed
      have f := h.framed p e he
      rw [hself]; exact ⟨f.state, f.origin, f.chain, f.header, f.body⟩
    · rw [a.others e hed]; exact h.framed p e he
  · by_cases hed : e = d
    · subst hed
      have o := h.stored c e he
      rw [hself]; exact ⟨o.state, o.origin, o.refs, o.cls⟩
    · rw [a.others e hed]; exact h.stored c e he
  · by_cases hed : e = d
    · subst hed
      have ⟨o, hl⟩ := h.owed e he
      rw [hself]; exact ⟨⟨o.state, o.origin, o.refs, o.cls⟩, hl⟩
    · rw [a.others e hed]; exact h.owed e he

/-- A header recorded in a descriptor in use (R94, R131). -/
theorem Sound.setHeader (h : st.Sound none u) (hd : (st.desc d).state = .filling) (y : Option Header) :
    (st.updDesc d fun x => { x with header := y }).Sound none u := by
  have hself := st.desc_updDesc_self d fun x : Descriptor => { x with header := y }
  refine h.refills (alters_updDesc d _ st) hd ?_ ?_ ?_ ?_ (h.writers.setHeader d y) <;> rw [hself]
  exact hd

/-- A frame that the Agent has built is admitted (R116, R121). -/
theorem Sound.built (h : st.Sound none u) (hu : u.Unwritten d) (hd : Owned .agent (st.desc d)) {bs : List Byte} {c : Cls}
    {k : Bool} (a : Admits c d k (st.build d bs) st') : st'.Sound none u := by
  obtain ⟨n, y, hb, -⟩ := st.build_desc d bs
  have hs := h.alters nofun hu (alters_build d bs st) (by rw [hd.state]; nofun) (by rw [hb]; nofun) (by rw [hb])
    (by rw [hb]) (by rw [hb]) fun _ => by rw [hb]
  exact hs.admits (fun e he => (Option.some.inj he).symm) hu a (by rw [hb]; nofun) (by rw [hb]; exact hd.refs)

end FrameStore
end Sys2Proof.Machine
end

section
/-! Every command is made of a few operations that touch the store or move a reference: what those keep, every command
keeps. -/

namespace Sys2Proof.Machine

/-! ### Changes of the state that the store does not concern -/

theorem users_congr {s t : State} (hs : t.il.stack.map StackEntry.desc = s.il.stack.map StackEntry.desc)
    (hh : t.il.hold = s.il.hold) (hf : ∀ p, (t.framer p).outline = (s.framer p).outline)
    (hp : ∀ p, (t.port p).refs = (s.port p).refs) (hc : ∀ c, (t.context c).storage = (s.context c).storage)
    (hi : t.agent.inbox = s.agent.inbox) (hq : t.agent.inHand = s.agent.inHand) (ho : t.agent.owed = s.agent.owed) :
    t.users = s.users := by
  simp only [State.users, hs, hh, hf, hp, hc, hi, hq, ho]

/-- The Interleaver, the contexts, the ports and the Agent are what the users are read from. -/
theorem users_of_blocks {s t : State} (hi : t.il = s.il) (hx : t.rx = s.rx) (hp : t.ports = s.ports)
    (ha : t.agent = s.agent) : t.users = s.users := by
  have port : ∀ p, t.port p = s.port p := fun p => by rw [State.port, hp, State.port]
  exact users_congr (by rw [hi]) (by rw [hi]) (fun p => by rw [State.framer, port, State.framer]) (fun p => by rw [port])
    (fun c => by rw [context_congr hx]) (by rw [ha]) (by rw [ha]) (by rw [ha])

theorem users_updPort {p : PortIx} {f : Port → Port} {s : State}
    (hf : (f (s.port p)).framer.outline = (s.port p).framer.outline) (hr : (f (s.port p)).refs = (s.port p).refs) :
    (s.updPort p f).users = s.users := by
  refine users_congr (by simp) (by simp) (fun q => ?_) (fun q => ?_) (fun _ => rfl) (by simp) (by simp) (by simp)
  · rw [State.framer, port_updPort]
    split
    · next h => subst h; exact hf
    · rfl
  · rw [port_updPort]
    split
    · next h => subst h; exact hr
    · rfl

theorem users_raise (e : Notice) (s : State) : (raise e s).users = s.users := by
  refine users_congr (by simp) (by simp) (fun _ => by simp [State.framer, State.port]) (fun _ => by simp [State.port])
    (fun _ => by simp [State.context]) ?_ ?_ ?_ <;>
  · unfold raise
    simp only [State.updAgent_agent]
    split <;> rfl

theorem users_updRx {f : Deinterleaver → Deinterleaver} {s : State} (h : (f s.rx).contexts = s.rx.contexts) :
    (s.updRx f).users = s.users :=
  users_congr rfl rfl (fun _ => rfl) (fun _ => rfl) (fun c => by simp [State.context, h]) rfl rfl rfl

theorem users_updAgent {f : Agent → Agent} {s : State} (hi : (f s.agent).inbox = s.agent.inbox)
    (hh : (f s.agent).inHand = s.agent.inHand) (ho : (f s.agent).owed = s.agent.owed) : (s.updAgent f).users = s.users :=
  users_congr rfl rfl (fun _ => rfl) (fun _ => rfl) (fun _ => rfl) hi hh ho

theorem users_setTop {e f : StackEntry} {es : List StackEntry} {s : State} (h : s.il.stack = e :: es)
    (hf : f.desc = e.desc) : (setTop f s).users = s.users := by
  rw [setTop_eq h]
  exact users_congr (by simp [h, hf]) rfl (fun _ => rfl) (fun _ => rfl) (fun _ => rfl) rfl rfl rfl

theorem users_boundary (b : Bool) (s : State) : (boundary b s).users = s.users := by
  refine users_congr (by simp) (by simp) (fun p => ?_) (fun p => ?_) (fun _ => by simp [State.context]) (by simp) (by simp)
    (by simp)
  · rw [State.framer, port_boundary]
    split <;> rfl
  · rw [port_boundary]
    split <;> rfl

theorem users_beginSlot (s : State) : (beginSlot s).users = s.users := by
  unfold beginSlot
  split
  · rfl
  · split
    · exact users_boundary true _
    · rfl

theorem users_restartWithBoundary (s : State) : (restartWithBoundary s).users = s.users := by
  unfold restartWithBoundary
  split
  · rfl
  · exact users_boundary false s

theorem users_takeMark (s : State) : (takeMark s).users = s.users := by
  unfold takeMark
  split
  · rfl
  · exact users_restartWithBoundary _
  · unfold markLocked
    split
    · rfl
    · exact users_restartWithBoundary _
    · rfl
    · unfold takeMiss
      dsimp only
      split <;> rfl
  · exact users_restartWithBoundary _

/-! ### The operations that touch the store or move a reference -/

/-- A property of the store and its users that every operation on them keeps. -/
structure StoreKept (P : State → Prop) : Prop where
  reset : ∀ held straps l n, P (State.blocksReset held straps l n)
  congr : ∀ s t, t.store = s.store → t.users = s.users → P s → P t
  arbiter : ∀ s, P s → P (Machine.arbiter s).1
  opened : ∀ s t us x, Machine.arbiter s = (t, us, some x) → P s → P (openFrame x t)
  popTop : ∀ e es s, s.il.stack = e :: es → P s → P (popTop e s)
  topFails : ∀ e es s, s.il.stack = e :: es → P s → P (failFrame e.desc .trunkStall s)
  endDrain : ∀ s, P s → P (endDrain s)
  entriesDropped : ∀ s, P s → P (entriesDropped s)
  openContext : ∀ c s, P s → P (openContext c s)
  rxByte : ∀ c b s, P s → P (rxByte c b s)
  rxCloseFrame : ∀ c s, P s → P (rxCloseFrame c s)
  closeContext : ∀ c s, P s → P (closeContext c s)
  discardContext : ∀ c r s, P s → P (discardContext c r s)
  framerBegin : ∀ p s, P s → P (framerBegin p s)
  framerFails : ∀ p r y s, y = .idle ∨ y = .discard → P s → P (framerFails p r y s)
  framerFreed : ∀ p y s, y = .idle ∨ y = .discard → P s → P (updFramer p (Framer.freed y) s)
  framerByte : ∀ p d b s, (s.framer p).desc = some d → P s → P (framerByte p d b s)
  framerEnd : ∀ p d s, (s.framer p).desc = some d → P s → P (framerEnd p d s)
  framerPasses : ∀ p y s, y = .idle ∨ y = .discard → (s.framer p).receiving = false → P s →
    P (updFramer p (fun f => { f with state := y }) s)
  emptyDelivery : ∀ p s, P s → P (emptyDelivery p s)
  abandonSending : ∀ p s, P s → P (abandonSending p s)
  txNext : ∀ p s, P s → P (txNext p s).1
  txEnded : ∀ p x s, (s.port p).sending = some x → P s →
    P (dropRefs [x.desc] (s.updPort p fun q => { q with sending := none }))
  emptyClassQueue : ∀ c r s, P s → P (emptyClassQueue c r s)
  dropInbox : ∀ s, P s → P (dropInbox s)

namespace StoreKept
variable {P : State → Prop} (k : StoreKept P)
include k

theorem same {s t : State} (h : P s) (hs : t.store = s.store) (hu : t.users = s.users) : P t := k.congr s t hs hu h

theorem updPort {p : PortIx} {f : Port → Port} {s : State} (h : P s)
    (hf : (f (s.port p)).framer.outline = (s.port p).framer.outline) (hr : (f (s.port p)).refs = (s.port p).refs) :
    P (s.updPort p f) := k.congr s _ (by simp) (users_updPort hf hr) h

theorem updRx {f : Deinterleaver → Deinterleaver} {s : State} (h : P s) (hf : (f s.rx).contexts = s.rx.contexts) :
    P (s.updRx f) := k.congr s _ rfl (users_updRx hf) h

theorem countRx (f : RxCounters → RxCounters) {s : State} (h : P s) : P (countRx f s) := k.updRx h rfl

theorem updAlign (f : Align → Align) {s : State} (h : P s) : P (s.updAlign f) := k.same h rfl rfl

theorem raise (e : Notice) (s : State) (h : P s) : P (raise e s) := k.congr s _ (by simp) (users_raise e s) h

theorem raiseAll (es : List Notice) (s : State) (h : P s) : P (raiseAll es s) :=
  raiseAll_keeps k.raise (fun _ s h => k.congr s _ rfl rfl h) es s h

omit k in
theorem foldl {α : Type} {f : State → α → State} (hf : ∀ s a, P s → P (f s a)) (l : List α) (s : State) (h : P s) :
    P (l.foldl f s) := by
  induction l generalizing s with
  | nil => exact h
  | cons a l ih => exact ih _ (hf s a h)

/-! ### The trunk slot (R20) -/

theorem setTop {e f : StackEntry} {es : List StackEntry} {s : State} (h : P s) (hs : s.il.stack = e :: es)
    (hf : f.desc = e.desc) : P (setTop f s) := k.congr s _ (by simp) (users_setTop hs hf) h

theorem resumeTop {e : StackEntry} {es : List StackEntry} {s : State} (h : P s) (hs : s.il.stack = e :: es) :
    P (resumeTop e s) := k.same (k.setTop (f := { e with state := .active, fragment := 0 }) h hs rfl) rfl rfl

theorem abortTop {e : StackEntry} {es : List StackEntry} {s : State} (h : P s) (hs : s.il.stack = e :: es) :
    P (abortTop e s) := k.same (k.popTop e es s hs h) rfl rfl

theorem fillTop {e : StackEntry} {es : List StackEntry} {s : State} (h : P s) (hs : s.il.stack = e :: es) :
    P (fillTop e s) := k.same (k.setTop (f := { e with starve := e.starve + 1 }) h hs rfl) rfl rfl

theorem continueTop {e : StackEntry} {es : List StackEntry} {s : State} (h : P s) (hs : s.il.stack = e :: es) :
    P (continueTop e s).1 := by
  unfold Machine.continueTop
  split
  · exact k.same (k.popTop e es s hs h) rfl rfl
  · split
    · exact k.same (k.setTop (f := { e with emitted := e.emitted + 1, fragment := e.fragment + 1, starve := 0 }) h hs rfl) rfl rfl
    · split
      · exact k.topFails { e with starve := e.starve + 1 } es _ (by rw [fillTop_eq hs]) (k.fillTop h hs)
      · exact k.fillTop h hs

theorem decideActive {e : StackEntry} {es : List StackEntry} {s : State} (h : P s) (hs : s.il.stack = e :: es) :
    P (decideActive e s).1 := by
  unfold Machine.decideActive
  split
  · have ha := k.arbiter s h
    obtain ⟨hst, -⟩ := arbiter_il s
    split
    · next s' us x hx => exact k.opened s s' us x hx h
    · next s' us hx =>
      rw [hx] at ha hst
      split
      · exact k.continueTop ha (hst.trans hs)
      · exact k.same (k.setTop (f := { e with state := .suspended .gated }) ha (hst.trans hs) rfl) rfl rfl
  · exact k.continueTop h hs

theorem gateTop (s : State) (h : P s) : P (gateTop s) := by
  unfold Machine.gateTop
  split
  · exact h
  · next e es hs =>
    split
    · exact k.same (k.setTop (f := { e with state := .suspended .gated }) h hs rfl) rfl rfl
    · exact h

theorem decideIdle (s : State) (h : P s) : P (decideIdle s).1 := by
  have hg := k.gateTop s h
  have ha := k.arbiter _ hg
  unfold Machine.decideIdle
  split
  · next s' us x hx => exact k.opened _ s' us x hx hg
  · next s' us hx =>
    rw [hx] at ha
    unfold resumeOrIdle
    split
    · exact k.same ha rfl rfl
    · next e es hs =>
      split
      · exact k.resumeTop ha hs
      · exact k.same ha rfl rfl

theorem drainStep (s : State) (h : P s) : P (drainStep s) := by
  unfold Machine.drainStep
  split
  · exact k.same h rfl rfl
  · next e es hs =>
    split
    · split
      · exact k.endDrain _ (k.abortTop h hs)
      · exact k.abortTop h hs
    · exact k.resumeTop h hs

theorem decide20 (s : State) (h : P s) : P (decide20 s).1 := by
  unfold Machine.decide20
  split
  · exact k.drainStep s h
  · split
    · exact k.decideIdle s h
    · next e es hs =>
      split
      · split
        · exact k.abortTop h hs
        · exact k.decideActive h hs
      · split
        · exact k.resumeTop h hs
        · exact k.decideIdle s h

theorem decideSlot (s : State) (h : P s) : P (decideSlot s).1 := by
  have ho : P (countOverrun (overrunClass s) s) := by
    unfold countOverrun
    split
    · exact h
    · exact k.same h rfl rfl
  unfold Machine.decideSlot
  dsimp only
  split
  · exact k.same (k.decide20 _ ho) rfl rfl
  · exact k.same h rfl rfl

/-! ### Trunk reception (R90 to R105) -/

theorem enterResync (s : State) (h : P s) : P (enterResync s) := by
  unfold Machine.enterResync closeAll
  exact k.updRx (StoreKept.foldl (fun s c => k.closeContext c s) _ s h) rfl

theorem breakStream (s : State) (h : P s) : P (breakStream s) := k.countRx _ (k.enterResync s h)

theorem undecodedWord (s : State) (h : P s) : P (undecodedWord s) := by
  unfold Machine.undecodedWord
  split
  · exact h
  · exact k.breakStream s h

theorem actOn (y : TrunkSymbol) (f : Option OpenFrame) (s : State) (h : P s) : P (actOn y f s) := by
  unfold Machine.actOn
  split
  · exact k.openContext _ s h
  · exact k.rxByte _ _ s h
  · exact k.rxCloseFrame _ s h
  · exact k.closeContext _ s h
  all_goals exact h

theorem rxSymbol (y : TrunkSymbol) (s : State) (h : P s) : P (rxSymbol y s) := by
  unfold Machine.rxSymbol
  split
  · unfold rxInResync
    split
    · exact k.openContext _ _ (k.updRx h rfl)
    all_goals exact h
  · unfold rxInNormal
    split
    · exact k.raise _ _ (k.breakStream s h)
    · exact k.actOn _ _ _ (k.updRx h rfl)

theorem markArrives (s : State) (h : P s) : P (markArrives s) := by
  unfold Machine.markArrives
  split
  · exact h
  · exact k.raiseAll _ _ (k.congr s _ (by simp) ((users_takeMark _).trans (users_beginSlot s)) h)

theorem trunkFalls (s : State) (h : P s) : P (trunkFalls s) := by
  have hd : P (interleaverDown (s.updTrunkRx fun _ => LineRx.report false)) := by
    have he := k.entriesDropped _ (k.congr s (s.updTrunkRx fun _ => LineRx.report false) rfl rfl h)
    rw [interleaverDown_eq]
    split
    · exact k.endDrain _ he
    · exact he
  exact k.updAlign _ (k.enterResync _ hd)

theorem trunkUp (s : State) (h : P s) : P (trunkUp s) := by
  unfold Machine.trunkUp
  split
  · exact h
  · exact k.raise _ _ (k.congr s _ rfl rfl h)

theorem trunkDecoded {f : State → State} (hf : ∀ s, P s → P (f s)) (s : State) (h : P s) : P (trunkDecoded f s) :=
  trunkDecoded_keeps (fun _ _ h => k.same h rfl rfl) k.trunkUp hf s h

/-! ### The tributaries (R127 to R139) -/

theorem stopServing (p : PortIx) (s : State) (h : P s) : P (stopServing p s) := by
  rw [stopServing_eq]
  refine k.abandonSending p _ (k.emptyDelivery p _ (k.framerFreed p _ _ (.inl rfl) ?_))
  unfold receptionEnded
  split
  · exact k.framerFails p _ _ s (.inl rfl) h
  · exact h

theorem changePort {f : Port → Port} (p : PortIx) (s : State) (h : P s)
    (hf : ∀ q, (f q).framer = q.framer ∧ (f q).refs = q.refs) : P (changePort p f s) := by
  obtain ⟨h1, h2⟩ := hf (s.port p)
  have hu := k.updPort (p := p) (f := f) h (by rw [h1]) h2
  unfold Machine.changePort
  dsimp only
  split
  · exact k.stopServing p _ hu
  · exact k.framerFreed p _ _ (.inl rfl) hu
  · exact hu
  · exact hu

theorem tributaryFalls (p : PortIx) (s : State) (h : P s) : P (tributaryFalls p s) :=
  k.changePort p s h fun _ => by exact ⟨rfl, rfl⟩

theorem tributaryUp (p : PortIx) (s : State) (h : P s) : P (tributaryUp p s) := by
  unfold Machine.tributaryUp
  split
  · exact h
  · exact k.raise _ _ (k.changePort p s h fun _ => by exact ⟨rfl, rfl⟩)

theorem updPortRx (p : PortIx) (f : LineRx → LineRx) (s : State) (h : P s) : P (updPortRx p f s) := k.updPort h rfl rfl

theorem idleSlot (p : PortIx) (s : State) (h : P s) : P (idleSlot p s) := by
  unfold Machine.idleSlot
  split
  · exact k.framerFails p _ _ s (.inl rfl) h
  · split
    · exact k.updPort h rfl rfl
    · exact h

theorem framerSymbol (p : PortIx) (y : TribSymbol) (s : State) (h : P s) : P (framerSymbol p y s) := by
  unfold Machine.framerSymbol
  split
  · exact h
  · exact k.framerBegin p s h
  · exact k.framerBegin p _ (k.framerFails p _ _ s (.inr rfl) h)
  · exact h
  · split
    · exact h
    · next d hd => exact k.framerByte p d _ s hd h
  · next hr => exact k.framerPasses p _ s (.inl rfl) hr h
  · split
    · exact h
    · next d hd => exact k.framerEnd p d s hd h
  · next hr => exact k.framerPasses p _ s (.inl rfl) hr h
  · exact k.framerFails p _ _ s (.inl rfl) h
  · exact k.raiseAll _ _ (k.idleSlot p s h)

theorem tribSymbol (p : PortIx) (y : TribSymbol) (s : State) (h : P s) : P (tribSymbol p y s) := by
  unfold Machine.tribSymbol
  split
  · exact k.framerSymbol p y s h
  · exact h

theorem txSent (p : PortIx) (y : TribSymbol) (s : State) (h : P s) : P (txSent p y s) := by
  unfold Machine.txSent
  split
  · next x hx => exact k.updPort h rfl (by funext d; simp [Port.refs, hx])
  · next x hx => exact k.updPort (k.txEnded p x s hx h) rfl rfl
  all_goals exact h

theorem tribTxSlot (p : PortIx) (s : State) (h : P s) : P (tribTxSlot p s) := by
  unfold Machine.tribTxSlot
  split
  · have hn := k.txNext p s h
    unfold txServe
    dsimp only
    split
    · exact k.updPort (k.updPort hn rfl rfl) rfl rfl
    · exact k.updPort (k.txSent p _ _ (k.updPort hn rfl rfl)) rfl rfl
  · exact k.updPort h rfl rfl

/-! ### The execution of a request (R166 to R173) -/

theorem applyConfigs (i : Nat) (l : List PortConfig) (s : State) (h : P s) : P (applyConfigs i l s) := by
  induction l generalizing i s with
  | nil => exact h
  | cons x xs ih =>
    refine ih _ _ ?_
    split
    · exact k.changePort _ s h fun _ => by exact ⟨rfl, rfl⟩
    · exact h

theorem clearCounters (s : State) (h : P s) : P (clearCounters s) := by
  have hz : ∀ p s, P s → P (s.updPort p fun q => { q with counters := PortCounters.zero }) := fun p s h => k.updPort h rfl rfl
  have h4 := hz 3 _ (hz 2 _ (hz 1 _ (hz 0 s h)))
  exact k.same h4 rfl rfl

theorem performTrafficReset (s : State) (h : P s) : P (performTrafficReset s).state := by
  have hf : ∀ s (p : PortIx), P s → P (framerTrafficReset p s) := fun s p h => by
    unfold framerTrafficReset
    split
    · exact k.framerFails p _ _ s (.inr rfl) h
    · exact h
  have hp : ∀ s (p : PortIx), P s → P (portTrafficReset p s) := fun s p h => k.abandonSending p _ (k.emptyDelivery p s h)
  exact k.dropInbox _ (StoreKept.foldl (fun s c => k.discardContext c _ s) _ _ (StoreKept.foldl hp _ _
    (StoreKept.foldl (fun s c => k.emptyClassQueue c _ s) _ _ (StoreKept.foldl hf _ s h))))

theorem performFlush (r : Request) (s : State) (h : P s) : P (performFlush r s).state := by
  unfold Machine.performFlush
  split
  · split
    · exact h
    · exact k.emptyClassQueue _ _ s h
  · split
    · split
      · exact h
      · exact k.emptyDelivery _ s h
    · exact h

theorem performWrite (t : TableId) (r : Request) (s : State) (h : P s) : P (performWrite t r s).state := by
  have congr : ∀ o : Done, o.state.store = s.store → o.state.il = s.il → o.state.rx = s.rx → o.state.ports = s.ports →
      o.state.agent = s.agent → P o.state := fun o hs hi hx hp ha => k.congr s _ hs (users_of_blocks hi hx hp ha) h
  cases t with
  | classify => exact congr (performWriteClassify r s) (by simp) (by simp) (by simp) (by simp) (by simp)
  | portDefault => exact congr (performWritePortDefault r s) (by simp) (by simp) (by simp) (by simp) (by simp)
  | classPolicy => exact congr (performWriteClassPolicy r s) (by simp) (by simp) (by simp) (by simp) (by simp)
  | route => exact congr (performWriteRoute r s) (by simp) (by simp) (by simp) (by simp) (by simp)
  | portConfig =>
    unfold Machine.performWrite performWritePortConfig
    dsimp only
    split
    · exact h
    · exact k.applyConfigs _ _ s h
  | scheduleStandby => exact congr (performWriteStandby r s) (by simp) (by simp) (by simp) (by simp) (by simp)
  | scheduleActive => exact h
  | hits => exact h

theorem performKind (x : ReqKind) (r : Request) (s : State) (h : P s) : P (performKind x r s).state := by
  cases x with
  | query => exact h
  | read =>
    unfold Machine.performKind
    dsimp only
    split <;> exact h
  | write =>
    unfold Machine.performKind
    dsimp only
    split
    · exact h
    · exact k.performWrite _ r s h
  | commit => exact k.congr s _ (by simp [Machine.performKind]) (users_of_blocks (by simp [Machine.performKind])
      (by simp [Machine.performKind]) (by simp [Machine.performKind]) (by simp [Machine.performKind])) h
  | abandon => exact k.congr s _ (by simp [Machine.performKind]) (users_of_blocks (by simp [Machine.performKind])
      (by simp [Machine.performKind]) (by simp [Machine.performKind]) (by simp [Machine.performKind])) h
  | setAlign => exact k.congr s _ (by simp [Machine.performKind]) (users_of_blocks (by simp [Machine.performKind])
      (by simp [Machine.performKind]) (by simp [Machine.performKind]) (by simp [Machine.performKind])) h
  | setGlobal =>
    unfold Machine.performKind performSetGlobal
    dsimp only
    split
    · exact k.congr s _ rfl (users_updAgent rfl rfl rfl) h
    · exact h
  | readCounters =>
    unfold Machine.performKind performReadCounters
    dsimp only
    split
    · exact k.clearCounters s h
    · exact h
  | flush => exact k.performFlush r s h
  | trafficReset => exact k.performTrafficReset s h

theorem perform (r : Request) (s : State) (h : P s) : P (perform r s).state := by
  unfold Machine.perform
  split
  · exact k.performKind _ r s h
  · exact h
  · exact h

/-! ### Every command -/

/-- Beside a property Q of the builder that every command keeps, every command keeps P if the builder's turns keep it. -/
theorem kept_and {Q : State → Prop} (kq : Kept Q) (hc : ∀ s, P s → Q s → P (builderChooseJob s))
    (hg : ∀ s, P s → P (storeClaimGranted s)) : Kept fun s => P s ∧ Q s where
  reset a b l n := ⟨k.reset a b l n, kq.reset a b l n⟩
  raise e s h := ⟨k.raise e s h.1, kq.raise e s h.2⟩
  setDraws n s h := ⟨k.congr s _ rfl rfl h.1, kq.setDraws n s h.2⟩
  beginSlot s h := ⟨k.congr s _ (by simp) (users_beginSlot s) h.1, kq.beginSlot s h.2⟩
  missedCheck s h := ⟨k.congr s _ (by simp) (users_of_blocks (by simp) (by simp) (by simp) (by simp)) h.1,
    kq.missedCheck s h.2⟩
  decideSlot s h := ⟨k.decideSlot s h.1, kq.decideSlot s h.2⟩
  endDrain s hs hb h := ⟨k.endDrain s h.1, kq.endDrain s hs hb h.2⟩
  trunkDown s h := by
    refine ⟨?_, kq.trunkDown s h.2⟩
    unfold Machine.trunkDown
    split
    · exact k.raise _ _ (k.trunkFalls s h.1)
    · exact h.1
  trunkUp s h := ⟨k.trunkUp s h.1, kq.trunkUp s h.2⟩
  tributaryDown p s h := by
    refine ⟨?_, kq.tributaryDown p s h.2⟩
    unfold Machine.tributaryDown
    split
    · exact k.raise _ _ (k.tributaryFalls p s h.1)
    · exact h.1
  tributaryUp p s h := ⟨k.tributaryUp p s h.1, kq.tributaryUp p s h.2⟩
  symbolReceived y s h := ⟨k.trunkDecoded (k.rxSymbol y) s h.1, kq.symbolReceived y s h.2⟩
  undecodable s h := ⟨k.trunkDecoded (fun s h => k.raiseAll _ _ (k.undecodedWord s h)) s h.1, kq.undecodable s h.2⟩
  trunkFailed s h := ⟨trunkFailed_keeps (fun s _ h => k.congr s _ rfl rfl h) k.trunkFalls k.undecodedWord k.raiseAll s h.1,
    kq.trunkFailed s h.2⟩
  mark s h := ⟨k.trunkDecoded (fun s h => k.markArrives _ (k.rxSymbol _ s h)) s h.1, kq.mark s h.2⟩
  tribDecoded p y s h := ⟨tribDecoded_keeps (fun s f => k.updPortRx p f s) (k.tributaryUp p) (k.tribSymbol p) y s h.1,
    kq.tribDecoded p y s h.2⟩
  tribFailed p s h := ⟨tribFailed_keeps (fun s f => k.updPortRx p f s) (k.tributaryFalls p) (k.idleSlot p) k.raiseAll s h.1,
    kq.tribFailed p s h.2⟩
  tribTxSlot p s h := ⟨k.tribTxSlot p s h.1, kq.tribTxSlot p s h.2⟩
  builderChooseJob s h := ⟨hc s h.1 h.2, kq.builderChooseJob s h.2⟩
  storeClaimGranted s h := ⟨hg s h.1, kq.storeClaimGranted s h.2⟩

end StoreKept
end Sys2Proof.Machine
end

section
/-! Every step keeps the cells' contents in canonical form (R108): bytes are written by one operation, which keeps the form. -/

namespace Sys2Proof.Machine

/-! ### What leaves the cells' contents as they are -/

namespace FrameStore
variable (st : FrameStore) (d : DescId)

@[simp] theorem leaveQueue_cells : (st.leaveQueue d).cells = st.cells := by
  unfold leaveQueue
  split
  · rfl
  · split <;> rfl

@[simp] theorem fail_cells (r : FailReason) : (st.fail d r).cells = st.cells := by simp [fail]

@[simp] theorem discard_cells (r : FailReason) : (st.discard d r).cells = st.cells := by
  unfold discard
  split <;> simp

theorem admitTail_cells (c : Cls) (k : Bool) : (st.admitTail c k d).cells = st.cells := rfl

theorem dropRefs_cells (l : List DescId) : (l.foldl (fun st d => st.dropRef d) st).cells = st.cells := by
  induction l generalizing st with
  | nil => rfl
  | cons d l ih => rw [List.foldl_cons, ih]; simp

end FrameStore

theorem cells_of_lineTakeDesc {o : Origin} {d : DescId} {st st' : FrameStore} (h : st.lineTakeDesc o = some (d, st')) :
    st'.cells = st.cells := by
  have ht := FrameStore.takeDesc_of_line h
  unfold FrameStore.takeDesc at ht
  split at ht <;> cases ht
  rfl

/-! ### What writes bytes -/

theorem wf_of_lineByte {st st' : FrameStore} {d : DescId} {b : Byte} (h : st.lineByte d b = some st')
    (hw : Memory.wf st.cells = true) : Memory.wf st'.cells = true := by
  obtain ⟨u, hu, rfl⟩ := FrameStore.lineByte_eq_some h
  exact FrameStore.writeByte_wf (hu.cells ▸ hw) _ _ _

theorem wf_writeBytes {d : DescId} (bs : List Byte) {st : FrameStore} (hw : Memory.wf st.cells = true) (k : Nat) :
    Memory.wf (st.writeBytes d k bs).cells = true := by
  induction bs generalizing st k with
  | nil => exact hw
  | cons b bs ih => exact ih (FrameStore.writeByte_wf hw d k b) (k + 1)

theorem wf_build {d : DescId} (bs : List Byte) {st : FrameStore} (hw : Memory.wf st.cells = true) :
    Memory.wf (st.build d bs).cells = true := wf_writeBytes bs hw 1

/-! ### Operations of the blocks -/

namespace MemoryOk
variable {s t : State}

theorem of_cells (h : MemoryOk s) (hc : t.store.cells = s.store.cells) : MemoryOk t := by
  unfold MemoryOk
  rw [hc]
  exact h

theorem foldl {α : Type} {f : State → α → State} (hf : ∀ s a, MemoryOk s → MemoryOk (f s a)) (l : List α)
    (h : MemoryOk s) : MemoryOk (l.foldl f s) := StoreKept.foldl hf l s h

theorem discardQueued {d : DescId} {r : FailReason} (h : MemoryOk s) : MemoryOk (discardQueued d r s) :=
  h.of_cells (by rw [discardQueued_store, FrameStore.discard_cells])

theorem failFrame {d : DescId} {r : FailReason} (h : MemoryOk s) : MemoryOk (failFrame d r s) := by
  refine h.of_cells ?_
  unfold Machine.failFrame
  split <;> simp

theorem framerFails {p : PortIx} {r : FailReason} {y : FramerState} (h : MemoryOk s) : MemoryOk (framerFails p r y s) := by
  unfold Machine.framerFails
  split
  · exact h
  · exact h.failFrame.of_cells rfl

theorem closeContext {c : Cls} (h : MemoryOk s) : MemoryOk (closeContext c s) := by
  obtain ⟨hc, -⟩ := closeContexts_store_frame [c] s
  exact h.of_cells hc

theorem discardContext {c : Cls} {r : DiscardReason} (h : MemoryOk s) : MemoryOk (discardContext c r s) := by
  refine h.of_cells ?_
  rw [show (Machine.discardContext c r s).store = (releaseStorage c s).store from rfl, releaseStorage_store]
  cases (s.context c).storage <;> simp

theorem dropRefs {l : List DescId} (h : MemoryOk s) : MemoryOk (dropRefs l s) := h.of_cells (FrameStore.dropRefs_cells _ l)

theorem examineQueue (c : Cls) (l : List DescId) (h : MemoryOk s) : MemoryOk (examineQueue c l s).1 := by
  induction l generalizing s with
  | nil => exact h
  | cons d l ih =>
    rcases examineQueue_cons c d l s with ⟨y, hy, -⟩ | hy
    · rw [hy]; exact h
    · rw [hy]; exact ih (h.discardQueued.of_cells rfl)

theorem arbitrate (l : List Cls) (h : MemoryOk s) : MemoryOk (arbitrate l s).1 := by
  induction l generalizing s with
  | nil => exact h
  | cons c l ih =>
    have he := examineQueue c (s.store.queue c) h
    rcases arbitrate_cons c l s with hy | ⟨t, us, x, hx, hy⟩ | ⟨t, us, hx, hy⟩
    · rw [hy]; exact ih h
    · rw [hx] at he; rw [hy]; exact he
    · rw [hx] at he; rw [hy]; exact ih he

theorem admitBuilt {j : Job} {a : Bool} {d : DescId} {bs : List Byte} (h : MemoryOk s) :
    MemoryOk (admitBuilt j a d bs s) := by
  have hb : MemoryOk (s.updStore fun st => st.build d bs) := wf_build bs h
  refine hb.of_cells ?_
  unfold Machine.admitBuilt
  cases a
  · exact FrameStore.admitTail_cells ..
  · exact FrameStore.admitHead_cells ..

theorem endDrain (h : MemoryOk s) : MemoryOk (endDrain s) := by
  cases hr : s.agent.owed with
  | none =>
    unfold Machine.endDrain
    dsimp only [State.updIl_agent]
    rw [hr]
    exact h
  | some r =>
    have hb : MemoryOk (s.updStore fun st => st.build r.desc (resetReply s r)) := wf_build _ h
    rw [endDrain_of_owed hr]
    exact hb.of_cells (FrameStore.admitHead_cells ..)

theorem countDiscard {r : DiscardReason} (h : MemoryOk s) : MemoryOk (countDiscard r s) := by
  cases r <;> exact h

theorem raise {e : Notice} (h : MemoryOk s) : MemoryOk (raise e s) := h.of_cells (by simp)

theorem rxHeaderComplete {c : Cls} {d : DescId} (h : MemoryOk s) : MemoryOk (rxHeaderComplete c d s) := by
  unfold Machine.rxHeaderComplete
  dsimp only
  split
  · exact countDiscard (discardContext (h.of_cells rfl))
  all_goals exact h

theorem rxByte {c : Cls} {b : Byte} (h : MemoryOk s) : MemoryOk (rxByte c b s) := by
  unfold Machine.rxByte
  dsimp only
  split
  · exact h
  · split
    · exact h.discardContext.countDiscard
    · split
      · exact h
      · split
        · exact h.discardContext.countDiscard.raise
        · next st hst =>
          have hb : MemoryOk (s.updStore fun _ => st) := wf_of_lineByte hst h
          split
          · exact rxHeaderComplete (hb.of_cells rfl)
          · exact hb

theorem offerAll {d : DescId} {m : PortSet} (h : MemoryOk s) : MemoryOk (offerAll d m s) := by
  refine of_cells (foldl (f := fun s p => offer d p s) (fun s p h => ?_) _ h) (FrameStore.settle_frame _ d).1
  unfold offer
  split <;> exact h

theorem inboxOffer {d : DescId} (h : MemoryOk s) : MemoryOk (inboxOffer d s) := by
  unfold Machine.inboxOffer
  split
  · exact h
  · exact h.of_cells (FrameStore.settle_frame _ d).1

theorem judgeFrame {c : Cls} {f : DescId → State → State} (h : MemoryOk s) (hf : ∀ d s, MemoryOk s → MemoryOk (f d s)) :
    MemoryOk (judgeFrame c f s) := by
  unfold Machine.judgeFrame
  split
  · exact closeContext (h.of_cells rfl)
  · split
    · exact closeContext (h.of_cells rfl)
    · unfold acceptFrame
      split
      · exact h
      · exact hf _ _ (h.of_cells rfl)

theorem rxCloseFrame {c : Cls} (h : MemoryOk s) : MemoryOk (rxCloseFrame c s) := by
  unfold Machine.rxCloseFrame
  split
  · exact h.closeContext
  · exact closeContext (h.of_cells rfl)
  · exact h.judgeFrame fun d s h => h.offerAll
  · exact h.judgeFrame fun d s h => h.inboxOffer

theorem framerRelinquishes {p : PortIx} {d : DescId} {f : PortCounters → PortCounters} (h : MemoryOk s) :
    MemoryOk (framerRelinquishes p d f s) := h.of_cells (FrameStore.release_frame _ d).1

theorem tribHeaderComplete {p : PortIx} {d : DescId} (h : MemoryOk s) : MemoryOk (tribHeaderComplete p d s) := by
  unfold Machine.tribHeaderComplete
  dsimp only
  split
  · exact framerRelinquishes (h.of_cells rfl)
  · split
    · exact framerRelinquishes (h.of_cells rfl)
    · split
      · exact framerRelinquishes (h.of_cells rfl)
      · unfold framerAdmit
        split
        · exact framerRelinquishes (h.of_cells rfl)
        · exact h

theorem framerByte {p : PortIx} {d : DescId} {b : Byte} (h : MemoryOk s) : MemoryOk (framerByte p d b s) := by
  unfold Machine.framerByte
  split
  · exact h.framerFails
  · split
    · exact h.framerFails.raise
    · next st hst =>
      have hb : MemoryOk (s.updStore fun _ => st) := wf_of_lineByte hst h
      dsimp only
      split
      · exact tribHeaderComplete (hb.of_cells rfl)
      · exact hb

theorem framerEnd {p : PortIx} {d : DescId} (h : MemoryOk s) : MemoryOk (framerEnd p d s) := by
  unfold Machine.framerEnd
  split
  · exact h.framerFails
  · split
    · exact h.framerFails
    · exact h.of_cells (FrameStore.settle_frame _ d).1

theorem openContext {c : Cls} (h : MemoryOk s) : MemoryOk (openContext c s) := by
  unfold Machine.openContext
  split
  · next hst => exact h.of_cells (cells_of_lineTakeDesc hst)
  · exact raise (h.of_cells rfl)

theorem framerBegin {p : PortIx} (h : MemoryOk s) : MemoryOk (framerBegin p s) := by
  unfold Machine.framerBegin
  split
  · next hst => exact h.of_cells (cells_of_lineTakeDesc hst)
  · exact raise (h.of_cells rfl)

theorem abandonSending {p : PortIx} (h : MemoryOk s) : MemoryOk (abandonSending p s) := by
  unfold Machine.abandonSending
  split
  · exact h
  · exact dropRefs (h.of_cells rfl)

/-- Every operation on the store keeps the canonical form. -/
theorem storeKept : StoreKept MemoryOk where
  reset _ _ _ _ := rfl
  congr _ _ hs _ h := h.of_cells (by rw [hs])
  arbiter _ h := h.arbitrate _
  opened s t us x hx h := by
    have ha : MemoryOk (Machine.arbiter s).1 := h.arbitrate _
    rw [hx] at ha
    obtain ⟨l, k, ho⟩ := openFrame_eq x t
    rw [ho]
    exact ha
  popTop e _ s _ h := h.of_cells (FrameStore.dropRef_frame _ e.desc).1
  topFails _ _ _ _ h := h.failFrame
  endDrain _ h := h.endDrain
  entriesDropped s h := have ⟨_, _, hc, _⟩ := dropEntries_keeps s.il.stack (stackCleared s)
    h.of_cells hc
  openContext c _ h := h.openContext
  rxByte c b _ h := h.rxByte
  rxCloseFrame c _ h := h.rxCloseFrame
  closeContext c _ h := h.closeContext
  discardContext c r _ h := h.discardContext
  framerBegin p _ h := h.framerBegin
  framerFails p r y _ _ h := h.framerFails
  framerFreed _ _ _ _ h := h
  framerByte p d b _ _ h := h.framerByte
  framerEnd p d _ _ h := h.framerEnd
  framerPasses _ _ _ _ _ h := h
  emptyDelivery p _ h := dropRefs (h.of_cells rfl)
  abandonSending p _ h := h.abandonSending
  txNext p s h := h.of_cells (by
    unfold txNext txChoose
    split
    · rfl
    · split <;> rfl)
  txEnded p x _ _ h := dropRefs (h.of_cells rfl)
  emptyClassQueue _ _ _ h := foldl (fun _ d h => h.discardQueued) _ h
  dropInbox _ h := dropRefs (h.of_cells rfl)

/-! ### The builder's turns -/

theorem dropRequest (h : MemoryOk s) : MemoryOk (dropRequest s) := by
  unfold Machine.dropRequest
  split
  · exact h
  · exact h.of_cells (FrameStore.dropRef_frame _ _).1

theorem serve {d : DescId} {r : Request} (h : MemoryOk s) : MemoryOk (serve d r s) := by
  refine serve_keeps (fun _ h => h.dropRequest) (fun d r e s h => ?_) (fun _ h => h) (fun _ h => h)
    (fun r s h => storeKept.perform r s h) (fun r x s h => ?_) (fun d r s h => ?_) (fun d r x a b data s h => ?_) d r s h
  · exact admitBuilt (h.of_cells rfl)
  · exact h.of_cells (by simp)
  · unfold beginDrain
    split
    · exact endDrain (h.of_cells rfl)
    · exact h
  · exact h.admitBuilt

theorem claimReply (h : MemoryOk s) : MemoryOk (claimReply s) := by
  unfold Machine.claimReply
  split
  · exact h
  · dsimp only
    split
    · exact h
    · next d st hst =>
      obtain ⟨-, -, -, hc, -⟩ := agentClaim_some hst
      exact serve (h.of_cells hc)

theorem buildNotice {d : DescId} {x : NoticeRecord} (h : MemoryOk s) : MemoryOk (buildNotice d x s) := by
  have hb := admitBuilt (j := .notice) (a := false) (d := d)
    (bs := frameOf s.agent.noticeDest s.agent.address 0x00 x.payload) h
  unfold Machine.buildNotice
  exact hb.of_cells (by simp)

theorem claimNotice (h : MemoryOk s) : MemoryOk (claimNotice s) := by
  unfold Machine.claimNotice
  split
  · exact h
  · split
    · exact h
    · next d st hst =>
      obtain ⟨-, -, -, hc, -⟩ := agentClaim_some hst
      have hb : MemoryOk (s.updStore fun _ => st) := h.of_cells hc
      exact hb.buildNotice

theorem dropUnanswerable (h : MemoryOk s) : MemoryOk (dropUnanswerable s) := by
  unfold Machine.dropUnanswerable
  exact of_cells h.dropRequest (by simp)

theorem builderChooseJob (h : MemoryOk s) : MemoryOk (builderChooseJob s) :=
  builderChooseJob_keeps (fun s h => h.of_cells (by unfold takeRequest; split <;> rfl)) (fun _ h => h.dropUnanswerable)
    (fun _ h => claimNotice (h.of_cells rfl)) (fun _ h => h.claimReply) s h

theorem storeClaimGranted (h : MemoryOk s) : MemoryOk (storeClaimGranted s) :=
  storeClaimGranted_keeps (fun _ h => h.claimNotice) (fun _ h => h.claimReply) s h

end MemoryOk

theorem kept_true : Kept fun _ => True := by
  constructor <;> intros <;> trivial

/-- Every command keeps the canonical form. -/
theorem memoryOk_kept : Kept fun s => MemoryOk s ∧ True :=
  MemoryOk.storeKept.kept_and kept_true (fun _ h _ => h.builderChooseJob) fun _ h => h.storeClaimGranted

/-- Settles O57: the store's contents change at a byte stored and at a frame built, both by writeByte. -/
theorem canonicalMemoryIsKept : Obligations.CanonicalMemoryIsKept := by
  intro s t h e
  exact (memoryOk_kept.step (fun _ _ h => h) s t ⟨h, trivial⟩ e).1
end Sys2Proof.Machine
end

section
/-! A sound Frame Store through the operations that move a reference or end a frame (R117, R119, R122, R134). -/

namespace Sys2Proof.Machine

/-! ### The users after a reference has moved -/

theorem users_setFraming (p : PortIx) (f : Framer → Framer) (s : State) :
    (updFramer p f s).users = s.users.setFraming p (f (s.framer p)).outline := by
  simp only [State.users, Users.setFraming, Users.mk.injEq]
  refine ⟨?_, rfl, ?_, rfl, rfl⟩
  · have hr : ∀ q, ((updFramer p f s).port q).refs = (s.port q).refs := fun q => by
      rw [updFramer, port_updPort]
      split <;> rfl
    simp only [hr]
    rfl
  · funext q
    by_cases hq : q = p
    · subst hq
      rw [Function.update_self, State.framer, updFramer, port_updPort_self]
      rfl
    · rw [Function.update_of_ne hq, State.framer, updFramer, port_updPort, if_neg (Ne.symm hq)]
      rfl

theorem users_setStorage (c : Cls) (x : Context) (s : State) :
    (setContext c x s).users = s.users.setStorage c x.storage := by
  simp only [State.users, Users.setStorage, Users.mk.injEq]
  refine ⟨rfl, rfl, rfl, ?_, rfl⟩
  funext k
  rw [context_setContext, Function.update_apply]
  by_cases hk : c = k
  · rw [if_pos hk, if_pos hk.symm]
  · rw [if_neg hk, if_neg (Ne.symm hk)]

theorem users_setContext {c : Cls} {x : Context} {s : State} (h : x.storage = (s.context c).storage) :
    (setContext c x s).users = s.users := by
  rw [users_setStorage, h]
  exact congrArg (fun f => { s.users with storage := f }) (Function.update_eq_self c _)

/-- The users of t are those of s, with references to the descriptors of l besides. -/
theorem users_eq_add {s t : State} {l : List DescId} (hd : ∀ d, t.users.held d = s.users.held d + l.count d)
    (hh : t.il.hold = s.il.hold) (hf : ∀ p, (t.framer p).outline = (s.framer p).outline)
    (hc : ∀ c, (t.context c).storage = (s.context c).storage) (ho : t.agent.owed = s.agent.owed) :
    t.users = s.users.add l := by
  have held : t.users.held = fun d => s.users.held d + l.count d := funext hd
  have hold : t.users.hold = s.users.hold := hh
  have framing : t.users.framing = s.users.framing := funext hf
  have storage : t.users.storage = s.users.storage := funext hc
  have owed : t.users.owed = s.users.owed := congrArg (Option.map OwedReply.desc) ho
  rw [Users.add, ← held, ← hold, ← framing, ← storage, ← owed]

theorem held_updPort (p : PortIx) (f : Port → Port) (s : State) (d : DescId) :
    (s.updPort p f).users.held d + (s.port p).refs d = s.users.held d + (f (s.port p)).refs d := by
  have hsum := sum_vupd (fun q : Port => q.refs d) s.ports p f
  change (s.il.stack.map StackEntry.desc).count d + (∑ q, (vget (vupd s.ports p f) q).refs d) + s.agent.inbox.count d +
    (if s.agent.inHand = some d then 1 else 0) + (vget s.ports p).refs d = (s.il.stack.map StackEntry.desc).count d +
    (∑ q, (vget s.ports q).refs d) + s.agent.inbox.count d + (if s.agent.inHand = some d then 1 else 0) +
    (f (vget s.ports p)).refs d
  omega

theorem outline_updPort {p : PortIx} {f : Port → Port} {s : State}
    (hf : (f (s.port p)).framer = (s.port p).framer) (q : PortIx) :
    ((s.updPort p f).framer q).outline = (s.framer q).outline := by
  rw [State.framer, port_updPort]
  split
  · next h => subst h; rw [hf]; rfl
  · rfl

/-- Port p takes references to the descriptors of l. -/
theorem users_portTakes {p : PortIx} {f : Port → Port} {s : State} (l : List DescId)
    (hf : (f (s.port p)).framer = (s.port p).framer)
    (hr : ∀ d, (f (s.port p)).refs d = (s.port p).refs d + l.count d) : (s.updPort p f).users = s.users.add l := by
  refine users_eq_add (fun d => ?_) rfl (outline_updPort hf) (fun _ => rfl) rfl
  have := held_updPort p f s d
  have := hr d
  omega

/-- Port p gives up references to the descriptors of l. -/
theorem users_portDrops {p : PortIx} {f : Port → Port} {s : State} (l : List DescId)
    (hf : (f (s.port p)).framer = (s.port p).framer)
    (hr : ∀ d, (s.port p).refs d = (f (s.port p)).refs d + l.count d) : s.users = (s.updPort p f).users.add l := by
  refine users_eq_add (fun d => ?_) rfl (fun q => (outline_updPort hf q).symm) (fun _ => rfl) rfl
  have := held_updPort p f s d
  have := hr d
  omega

/-! ### The two halves of soundness in the state -/

theorem Users.setFraming_setFraming (u : Users) (p : PortIx) (f g : Framer) :
    (u.setFraming p f).setFraming p g = u.setFraming p g := by
  simp [Users.setFraming]

theorem users_countPort (p : PortIx) (f : PortCounters → PortCounters) (s : State) : (countPort p f s).users = s.users :=
  users_updPort rfl rfl

theorem framer_countPort (p q : PortIx) (f : PortCounters → PortCounters) (s : State) :
    (countPort p f s).framer q = s.framer q := by
  rw [State.framer, countPort, port_updPort]
  split <;> rfl

theorem users_framerLoses (p : PortIx) (d : DescId) (s : State) : (framerLoses p d s).users =
    if (s.framer p).desc = some d then s.users.setFraming p ((s.framer p).freed .discard).outline else s.users := by
  split
  · next h =>
    have he : framerLoses p d s = updFramer p (Framer.freed .discard) s := updPort_congr (if_pos h)
    rw [he, users_setFraming]
  · next h =>
    have he : framerLoses p d s = s := updPort_self (if_neg h)
    rw [he]

section
variable {d : DescId} {s : State} (r : FailReason) (hf : (s.store.desc d).state = .filling)
include hf

theorem failFrame_store : (failFrame d r s).store = s.store.fail d r := by
  rw [failFrame, if_pos hf]
  simp

theorem users_failFrame {p : PortIx} (ho : (s.store.desc d).origin = some (.tributary p)) : (failFrame d r s).users =
    if (s.framer p).desc = some d then s.users.setFraming p ((s.framer p).freed .discard).outline else s.users := by
  rw [failFrame, if_pos hf, ho]
  unfold failAtPort
  rw [users_framerLoses, framer_countPort, users_countPort]
  rfl

end

open FrameStore

namespace StoreOk
variable {s t : State} {d : DescId}

theorem sound (h : StoreOk s) : s.store.Sound none s.users := (storeOk_iff s).1 h

theorem of_sound {st : FrameStore} {u : Users} (h : st.Sound none u) (hs : t.store = st) (hu : t.users = u) : StoreOk t :=
  (storeOk_iff t).2 (by rw [hs, hu]; exact h)

theorem congr (h : StoreOk s) (hs : t.store = s.store) (hu : t.users = s.users) : StoreOk t := of_sound h.sound hs hu

/-! ### A frame fails (R117, R134) -/

/-- Port p's framer, and no other user, may have the descriptor of a frame from it that has a holder. -/
theorem unwritten_but_framer (h : StoreOk s) (hr : (s.store.desc d).refs ≠ 0)
    (hf : ∀ p, (s.framer p).desc ≠ some d) : s.users.Unwritten d :=
  have ⟨hs, ho⟩ := h.sound.writers.unwritten_of_refs hr
  ⟨hf, hs, ho⟩

/-- A failed frame leaves the framer that has it, before its port counts it. -/
theorem framerFreed_fail (h : StoreOk s) {p : PortIx} {f : Framer} {r : FailReason} (hd : (s.framer p).desc = some d)
    (hf : f.receiving = false) (hn : f.desc = none) :
    (s.store.fail d r).Sound none (s.users.setFraming p f) := by
  have hs := h.sound
  have hfill := (hs.writers.framed p d hd).state
  exact (hs.freed p hf hn).fail (hs.unwritten_of_freed hd hn) hfill r

theorem framerFails (h : StoreOk s) {p : PortIx} {r : FailReason} {y : FramerState} (hy : y = .idle ∨ y = .discard) :
    StoreOk (framerFails p r y s) := by
  unfold Machine.framerFails
  split
  · exact h
  · next d hd =>
    have hfr := h.sound.writers.framed p d hd
    have hu : (updFramer p (Framer.freed y) (Machine.failFrame d r s)).users =
        s.users.setFraming p ((s.framer p).freed y).outline := by
      rw [users_setFraming, framer_failFrame r hfr.state hfr.origin hd, users_failFrame r hfr.state hfr.origin, if_pos hd,
        Users.setFraming_setFraming]
      rfl
    exact of_sound (h.framerFreed_fail hd (by rcases hy with rfl | rfl <;> rfl) rfl) (failFrame_store r hfr.state) hu

theorem failFrame (h : StoreOk s) (hr : (s.store.desc d).refs ≠ 0) (r : FailReason) : StoreOk (failFrame d r s) := by
  by_cases hf : (s.store.desc d).state = .filling
  · have hs := h.sound
    have fails : (∀ p, (s.framer p).desc ≠ some d) → StoreOk (s.updStore (FrameStore.fail d r)) := fun hn =>
      of_sound (hs.fail (h.unwritten_but_framer hr hn) hf r) rfl rfl
    by_cases hp : ∃ p, (s.framer p).desc = some d
    · obtain ⟨p, hd⟩ := hp
      exact of_sound (h.framerFreed_fail hd rfl rfl) (failFrame_store r hf)
        ((users_failFrame r hf (hs.writers.framed p d hd).origin).trans (if_pos hd))
    · have hn := not_exists.1 hp
      refine (fails hn).congr (failFrame_store r hf) ?_
      rw [Machine.failFrame, if_pos hf]
      unfold failAtPort
      split
      · rw [users_framerLoses, framer_countPort, users_countPort]
        exact if_neg (hn _)
      all_goals rfl
  · rw [Machine.failFrame, if_neg hf]
    exact h

end StoreOk
end Sys2Proof.Machine
end

section
/-! A sound Frame Store through the class queues and the Preemption Stack (R24, R26, R46, R67, R122, R123, R174). -/

namespace Sys2Proof.Machine

open FrameStore

namespace FrameStore

/-- A hold for d ends, and no other (R44). -/
theorem Sound.hold_left {x : Option DescId} {u : Users} {st : FrameStore} (h : st.Sound x u) (d : DescId) :
    st.Sound x { u with hold := if u.hold = some d then none else u.hold } := by
  refine h.with_users rfl (fun e he => ?_) (h.writers.of_users rfl rfl rfl)
  dsimp only at he
  split at he
  · cases he
  · exact he

/-- The Interleaver holds for a COMPLETE frame in a class queue (R43). -/
theorem Sound.held_for {x : Option DescId} {u : Users} {st : FrameStore} {d : DescId} {c : Cls} (h : st.Sound x u)
    (hs : (st.desc d).state = .complete) (hm : d ∈ st.queue c) : st.Sound x { u with hold := some d } :=
  ⟨h.free, h.cells, ⟨h.refs.count, h.refs.held, h.refs.filed, fun e he => by
    obtain rfl : d = e := Option.some.inj he
    exact ⟨hs, c, hm⟩⟩, h.writers.of_users rfl rfl rfl⟩

end FrameStore

theorem Users.add_cons (u : Users) (d : DescId) (l : List DescId) : u.add (d :: l) = (u.add l).add [d] := by
  simp only [Users.add, Users.mk.injEq, and_true]
  funext e
  simp only [List.count_cons, List.count_nil]
  omega

/-- The Preemption Stack gives up references to the descriptors of l. -/
theorem users_stackDrops {s t : State} (l : List DescId)
    (hs : s.il.stack.map StackEntry.desc = l ++ t.il.stack.map StackEntry.desc) (hh : t.il.hold = s.il.hold)
    (hp : t.ports = s.ports) (hx : t.rx = s.rx) (ha : t.agent = s.agent) : s.users = t.users.add l := by
  have port : ∀ p, t.port p = s.port p := fun p => by rw [State.port, hp, State.port]
  refine users_eq_add (fun d => ?_) hh.symm (fun p => by rw [State.framer, State.framer, port])
    (fun c => by rw [context_congr hx]) (by rw [ha])
  simp only [State.users, hs, ha, port, List.count_append]
  omega

theorem users_holdLeft (d : DescId) (s : State) :
    (s.updIl fun il => if il.hold = some d then { il with hold := none } else il).users =
      { s.users with hold := if s.users.hold = some d then none else s.users.hold } := by
  have hu : s.users.hold = s.il.hold := rfl
  by_cases h : s.il.hold = some d
  · simp only [State.updIl, if_pos h, hu]
    rfl
  · simp only [State.updIl, if_neg h, hu]
    rfl

namespace StoreOk
variable {s t : State} {d : DescId}

/-! ### Discards from a class queue (R67, R122, R123) -/

theorem refs_of_queued (h : StoreOk s) {c : Cls} (hm : d ∈ s.store.queue c) : (s.store.desc d).refs ≠ 0 := by
  have hle := Finset.single_le_sum (f := fun c => (s.store.queue c).count d) (fun _ _ => Nat.zero_le _) (Finset.mem_univ c)
  have hpos := List.count_pos_iff.2 hm
  rw [h.refs, State.holders]
  omega

theorem discardQueued (h : StoreOk s) {c : Cls} (hm : d ∈ s.store.queue c) (r : FailReason) :
    StoreOk (discardQueued d r s) := by
  have hf := (h.failFrame (h.refs_of_queued hm) r).sound.hold_left d
  refine of_sound (hf.leaveQueue_settle (d := d) fun hh => ?_) rfl (users_holdLeft d _)
  dsimp only at hh
  split at hh
  · cases hh
  · next hn => exact hn hh

/-- Frames that wait in one class queue are discarded one after the other. -/
theorem discards (h : StoreOk s) {c : Cls} {l : List DescId} (r : FailReason) (hl : l.Nodup)
    (hm : ∀ d ∈ l, d ∈ s.store.queue c) : StoreOk (l.foldl (fun s d => Machine.discardQueued d r s) s) := by
  induction l generalizing s with
  | nil => exact h
  | cons d l ih =>
    obtain ⟨hd, hl⟩ := List.nodup_cons.1 hl
    refine ih (h.discardQueued (hm d List.mem_cons_self) r) hl fun e he => ?_
    rw [(h.queuesAgree.left_discardQueued d r).queue]
    exact (List.mem_erase_of_ne fun hed : e = d => hd (hed ▸ he)).2 (hm e (List.mem_cons_of_mem d he))

theorem emptyClassQueue (h : StoreOk s) (c : Cls) (r : FailReason) : StoreOk (emptyClassQueue c r s) :=
  h.discards r (h.queueNodup c) fun _ => id

end StoreOk

/-! ### The arbiter (R24, R67) -/

/-- The head of a class is the candidate that an examination names, unless it is discarded. -/
theorem examineQueue_cons_desc (c : Cls) (d : DescId) (ds : List DescId) (s : State) :
    (∃ y, examineQueue c (d :: ds) s = (s, [], y) ∧ ∀ x, y = some x → x.cls = c ∧ x.desc = d) ∨
      examineQueue c (d :: ds) s = ((examineQueue c ds (unfitDiscard c d s)).1,
        c :: (examineQueue c ds (unfitDiscard c d s)).2.1, (examineQueue c ds (unfitDiscard c d s)).2.2) := by
  have hnamed : ∀ (b b' : Bool) (x : Candidate), (if b then some (⟨c, d, b'⟩ : Candidate) else none) = some x →
      x.cls = c ∧ x.desc = d := by
    rintro b b' x hx
    obtain ⟨-, hx⟩ := Option.ite_none_right_eq_some.1 hx
    cases hx
    exact ⟨rfl, rfl⟩
  generalize hr : examineQueue c ds (unfitDiscard c d s) = rest
  rw [examineQueue, hr]
  split
  · exact .inl ⟨none, rfl, nofun⟩
  · split
    · exact .inl ⟨_, rfl, hnamed _ _⟩
    · split
      · exact .inl ⟨_, rfl, hnamed _ _⟩
      · exact .inl ⟨none, rfl, nofun⟩
      · exact .inr rfl

theorem openFrame_stack_desc (x : Candidate) (s : State) :
    (openFrame x s).il.stack.map StackEntry.desc = x.desc :: s.il.stack.map StackEntry.desc := by
  rcases hs : s.il.stack with _ | ⟨e, es⟩
  · rw [openFrame_of_rests (topRests_of_empty hs) x, hs]
    rfl
  · cases ha : e.isActive
    · rw [openFrame_of_rests (topRests_of_suspended hs ha) x, hs]
      rfl
    · rw [openFrame_of_active hs ha x]
      rfl

theorem users_openFrame (x : Candidate) (s : State) : (openFrame x s).users =
    { s.users with hold := if s.users.hold = some x.desc then none else s.users.hold }.add [x.desc] := by
  have hl := openFrame_stack_desc x s
  obtain ⟨l, k, ho⟩ := openFrame_eq x s
  rw [ho] at hl ⊢
  simp only [State.users, Users.add, Users.mk.injEq]
  refine ⟨funext fun d => ?_, rfl, rfl, rfl, trivial⟩
  simp only [hl, List.count_cons, List.count_nil, State.port]
  omega

/-- The candidate, if there is one, waits in its class queue. -/
def CandidateWaits (s : State) (x : Option Candidate) : Prop := ∀ y, x = some y → y.desc ∈ s.store.queue y.cls

namespace StoreOk
variable {s t : State} {d : DescId}

theorem examineQueue {c : Cls} {l : List DescId} (h : StoreOk s) (hl : l.Nodup) (hm : ∀ d ∈ l, d ∈ s.store.queue c) :
    StoreOk (examineQueue c l s).1 ∧ CandidateWaits (Machine.examineQueue c l s).1 (Machine.examineQueue c l s).2.2 := by
  induction l generalizing s with
  | nil => exact ⟨h, nofun⟩
  | cons d l ih =>
    have hd := hm d List.mem_cons_self
    rcases examineQueue_cons_desc c d l s with ⟨y, hy, hn⟩ | hy <;> rw [hy]
    · refine ⟨h, fun x hx => ?_⟩
      obtain ⟨hc, he⟩ := hn x hx
      rw [hc, he]
      exact hd
    · obtain ⟨hne, hl⟩ := List.nodup_cons.1 hl
      have hu : StoreOk (unfitDiscard c d s) := (h.discardQueued hd .unfit).congr rfl rfl
      refine ih hu hl fun e he => ?_
      have hq : (unfitDiscard c d s).store.queue c = (s.store.queue c).erase d :=
        (h.queuesAgree.left_discardQueued d .unfit).queue c
      rw [hq]
      exact (List.mem_erase_of_ne fun hed : e = d => hne (hed ▸ he)).2 (hm e (List.mem_cons_of_mem d he))

theorem arbitrate (l : List Cls) (h : StoreOk s) :
    StoreOk (arbitrate l s).1 ∧ CandidateWaits (Machine.arbitrate l s).1 (Machine.arbitrate l s).2.2 := by
  induction l generalizing s with
  | nil => exact ⟨h, nofun⟩
  | cons c l ih =>
    have he := h.examineQueue (h.queueNodup c) fun _ => id
    rcases arbitrate_cons c l s with hy | ⟨t, us, x, hx, hy⟩ | ⟨t, us, hx, hy⟩ <;> rw [hy]
    · exact ih h
    · rw [hx] at he
      exact he
    · rw [hx] at he
      exact ih he.1

/-! ### The Preemption Stack (R26, R30, R46) -/

/-- The entry opened has the queue's reference to its frame (R26). -/
theorem openFrame {x : Candidate} (h : StoreOk s) (hm : x.desc ∈ s.store.queue x.cls) : StoreOk (openFrame x s) := by
  have hh := h.sound.hold_left x.desc
  refine of_sound (hh.unqueue hm fun he => ?_) ?_ (users_openFrame x s)
  · dsimp only at he
    split at he
    · cases he
    · next hn => exact hn he
  · obtain ⟨l, k, ho⟩ := openFrame_eq x s
    rw [ho]

theorem popTop {e : StackEntry} {es : List StackEntry} (h : StoreOk s) (hs : s.il.stack = e :: es) :
    StoreOk (popTop e s) := by
  have hu : s.users = (Machine.popTop e s).users.add [e.desc] :=
    users_stackDrops [e.desc] (by simp [Machine.popTop, hs]) rfl rfl rfl rfl
  have hd := h.sound
  rw [hu] at hd
  exact of_sound hd.dropRef rfl rfl

theorem topFails {e : StackEntry} {es : List StackEntry} (h : StoreOk s) (hs : s.il.stack = e :: es) (r : FailReason) :
    StoreOk (Machine.failFrame e.desc r s) := by
  refine h.failFrame ?_ r
  rw [h.refs, State.holders, hs, List.map_cons, List.count_cons_self]
  omega

/-- The entries' references are dropped from the top down (R46). -/
theorem dropEntries {l : List StackEntry} (h : s.store.Sound none (s.users.add (l.map StackEntry.desc))) :
    StoreOk (dropEntries l s) := by
  induction l generalizing s with
  | nil => exact of_sound h rfl rfl
  | cons e l ih =>
    rw [List.map_cons, Users.add_cons] at h
    rw [dropEntries_cons]
    exact ih h.dropRef

theorem entriesDropped (h : StoreOk s) : StoreOk (entriesDropped s) := by
  have hu : s.users = (stackCleared s).users.add (s.il.stack.map StackEntry.desc) :=
    users_stackDrops _ (by simp [stackCleared]) rfl rfl rfl rfl
  have hd := h.sound
  rw [hu] at hd
  exact dropEntries hd

/-! ### A frame built by the Agent (R116, R124, R174) -/

/-- A frame of the Agent's own that is no owed reply has no writer. -/
theorem unwritten_of_agent (h : StoreOk s) (hd : Owned .agent (s.store.desc d)) {u : Users}
    (hf : u.framing = s.users.framing) (hs : u.storage = s.users.storage) (ho : u.owed ≠ some d) : u.Unwritten d := by
  refine ⟨fun p hp => ?_, fun c hc => ?_, ho⟩
  · rw [hf] at hp
    have := hd.origin.symm.trans (h.sound.writers.framed p d hp).origin
    simp at this
  · rw [hs] at hc
    have := hd.origin.symm.trans (h.sound.writers.stored c d hc).origin
    simp at this

theorem endDrain (h : StoreOk s) : StoreOk (endDrain s) := by
  cases hr : s.agent.owed with
  | none =>
    unfold Machine.endDrain
    dsimp only [State.updIl_agent]
    rw [hr]
    exact h.congr rfl rfl
  | some r =>
    have howed : s.users.owed = some r.desc := congrArg (Option.map OwedReply.desc) hr
    obtain ⟨hd, -⟩ := h.sound.writers.owed r.desc howed
    have hun : Users.Unwritten { s.users with owed := none } r.desc := h.unwritten_of_agent hd rfl rfl nofun
    have hb := h.sound.owed_left.built hun hd (admits_head s.agent.mgmtClass
      (vget s.policy s.agent.mgmtClass).cutThrough r.desc (s.store.build r.desc (resetReply s r)))
    obtain ⟨n, y, hbuilt, -⟩ := s.store.build_desc r.desc (resetReply s r)
    rw [endDrain_of_owed hr]
    refine of_sound (hb.held_for (d := r.desc) (c := s.agent.mgmtClass) ?_ ?_) rfl rfl
    · rw [admitHead_desc, if_pos rfl, hbuilt]
      rfl
    · rw [admitHead_queue, if_pos rfl]
      exact List.mem_cons_self

/-- A frame that the Agent has claimed and no user has is built and admitted (R116, R121). -/
theorem admitBuilt (h : StoreOk s) (hd : Owned .agent (s.store.desc d)) (ho : s.users.owed ≠ some d) (j : Job)
    (bs : List Byte) : StoreOk (admitBuilt j false d bs s) :=
  of_sound (h.sound.built (h.unwritten_of_agent hd rfl rfl ho) hd (admits_tail s.agent.mgmtClass
    (vget s.policy s.agent.mgmtClass).cutThrough d (s.store.build d bs))) rfl rfl

end StoreOk
end Sys2Proof.Machine
end

section
/-! A sound Frame Store through the Deinterleaver and the tributary ports (R93 to R101, R118, R128 to R138). -/

namespace Sys2Proof.Machine

open FrameStore

theorem held_updAgent {f : Agent → Agent} {s : State} (hh : (f s.agent).inHand = s.agent.inHand) (d : DescId) :
    (s.updAgent f).users.held d + s.agent.inbox.count d = s.users.held d + (f s.agent).inbox.count d := by
  change (s.il.stack.map StackEntry.desc).count d + (∑ p, (s.port p).refs d) + (f s.agent).inbox.count d +
    (if (f s.agent).inHand = some d then 1 else 0) + s.agent.inbox.count d = (s.il.stack.map StackEntry.desc).count d +
    (∑ p, (s.port p).refs d) + s.agent.inbox.count d + (if s.agent.inHand = some d then 1 else 0) +
    (f s.agent).inbox.count d
  rw [hh]
  omega

namespace StoreOk
variable {s t : State} {d : DescId}

theorem raise (h : StoreOk s) (e : Notice) : StoreOk (raise e s) := h.congr (by simp) (users_raise e s)

theorem countRx (h : StoreOk s) (f : RxCounters → RxCounters) : StoreOk (countRx f s) := h.congr rfl rfl

theorem countDiscard (h : StoreOk s) (r : DiscardReason) : StoreOk (countDiscard r s) := by
  cases r with
  | reset => exact h
  | _ => exact h.congr rfl rfl

theorem countPort (h : StoreOk s) (p : PortIx) (f : PortCounters → PortCounters) : StoreOk (countPort p f s) :=
  h.congr rfl (users_countPort p f s)

/-- A context changes but for its storage. -/
theorem setContext (h : StoreOk s) {c : Cls} {x : Context} (hx : x.storage = (s.context c).storage) :
    StoreOk (setContext c x s) := h.congr rfl (users_setContext hx)

/-! ### Contexts (R93, R94, R98, R118) -/

theorem contextCleared (h : StoreOk s) {c : Cls} {x : Context} (hx : x.storage = none) :
    StoreOk (Machine.setContext c x s) :=
  of_sound (h.sound.setStorage (c := c) (o := none) nofun) rfl ((users_setStorage c x s).trans (by rw [hx]))

/-- A context's storage has no writer but the context. -/
theorem unwritten_of_stored (h : StoreOk s) {c : Cls} (hd : (s.context c).storage = some d) :
    (s.users.setStorage c none).Unwritten d := by
  have ho := h.sound.writers.stored c d hd
  refine ⟨fun p hp => ?_, fun k hk => ?_, fun hw => ?_⟩
  · have := ho.origin.symm.trans (h.sound.writers.framed p d hp).origin
    simp at this
  · by_cases hkc : k = c
    · subst hkc
      simp [Users.setStorage] at hk
    · simp only [Users.setStorage, Function.update_of_ne hkc] at hk
      exact hkc (h.sound.writers.once k c d hk hd)
  · have := ho.origin.symm.trans (h.sound.writers.owed d hw).1.origin
    simp at this

theorem releaseStorage (h : StoreOk s) (c : Cls) : StoreOk (releaseStorage c s) := by
  unfold Machine.releaseStorage
  split
  · exact h
  · next d hd =>
    have ho := h.sound.writers.stored c d hd
    have hs := h.sound.setStorage (c := c) (o := none) nofun
    refine of_sound (hs.release (d := d) nofun (h.unwritten_of_stored hd) ?_ ho.refs) rfl (users_setStorage c _ _)
    rw [ho.state]
    nofun

theorem closeContext (h : StoreOk s) (c : Cls) : StoreOk (closeContext c s) := (h.releaseStorage c).contextCleared rfl

theorem discardContext (h : StoreOk s) (c : Cls) (r : DiscardReason) : StoreOk (discardContext c r s) :=
  (h.releaseStorage c).setContext rfl

theorem openContext (h : StoreOk s) (c : Cls) : StoreOk (openContext c s) := by
  unfold Machine.openContext
  split
  · next d st hst =>
    obtain ⟨hs, hu, hd, -⟩ := h.sound.takeDesc (takeDesc_of_line hst)
    refine of_sound (hs.setStorage (c := c) (o := some d) fun e he => ?_) rfl (users_setStorage c _ _)
    obtain rfl := Option.some.inj he
    exact ⟨by rw [hd]; exact ⟨rfl, rfl, rfl, rfl⟩, fun k _ => hu.storage k⟩
  · exact ((h.contextCleared rfl).countRx _).raise _

theorem rxHeaderComplete (h : StoreOk s) (c : Cls) (hd : (s.store.desc d).state = .filling) :
    StoreOk (rxHeaderComplete c d s) := by
  have hs : StoreOk (s.updStore (FrameStore.updDesc d fun x => { x with header := some (s.store.readHeader d) })) :=
    of_sound (h.sound.setHeader hd _) rfl rfl
  have hc := hs.setContext (c := c) (x := { s.context c with header := some (s.store.readHeader d) }) rfl
  unfold Machine.rxHeaderComplete
  dsimp only
  split
  · exact (hc.discardContext c _).countDiscard _
  · exact hc.setContext rfl
  · exact hc.setContext rfl
  · exact hc

theorem rxByte (h : StoreOk s) (c : Cls) (b : Byte) : StoreOk (rxByte c b s) := by
  unfold Machine.rxByte
  dsimp only
  split
  · exact h
  · split
    · exact (h.discardContext c _).countDiscard _
    · split
      · exact h
      · next d hd =>
        split
        · exact ((h.discardContext c _).countDiscard _).raise _
        · next st hst =>
          have ho := h.sound.writers.stored c d hd
          have hown : s.users.owed ≠ some d := (h.unwritten_of_stored hd).owed
          obtain ⟨hs, ht⟩ := h.sound.lineByte hst ho.state hown
          have hst : StoreOk (s.updStore fun _ => st) := of_sound hs rfl rfl
          have hc := hst.setContext (c := c) (x := { s.context c with
            received := (s.context c).received + 1, check := crcByte (s.context c).check b }) rfl
          split
          · exact hc.rxHeaderComplete c (ht.owned ho).state
          · exact hc

/-! ### Frames received (R99 to R104) -/

/-- The frame d has ended, and the check of R119 is due for it. -/
structure Ending (d : DescId) (s : State) : Prop where
  sound : s.store.Sound (some d) s.users
  ended : ended (s.store.desc d).state = true

theorem Ending.addRef (h : Ending d s) (ht : t.users = s.users.add [d]) (hs : t.store = s.store) :
    Ending d (t.updStore (FrameStore.addRef d)) := by
  have ha := h.sound.addRef (fun e he => (Option.some.inj he).symm) h.ended
  rw [← ht, ← hs] at ha
  refine ⟨ha, ?_⟩
  have hd : ((t.store.addRef d).desc d).state = (t.store.desc d).state := by
    rw [FrameStore.addRef, desc_updDesc_self]
  change FrameStore.ended ((t.store.addRef d).desc d).state = true
  rw [hd, hs]
  exact h.ended

theorem Ending.settled (h : Ending d s) (hu : t.users = s.users) (hs : t.store = s.store.settle d) : StoreOk t :=
  of_sound h.sound.settle hs hu

theorem Ending.offer (h : Ending d s) (p : PortIx) : Ending d (offer d p s) := by
  unfold Machine.offer
  split
  · refine h.addRef (users_portTakes [d] rfl fun e => ?_) rfl
    simp only [Port.refs, List.count_append]
    omega
  · exact ⟨by rw [users_countPort]; exact h.sound, h.ended⟩

theorem Ending.offerAll (h : Ending d s) (m : PortSet) : StoreOk (offerAll d m s) := by
  have hl : ∀ (l : List PortIx) (s : State), Ending d s → Ending d (l.foldl (fun s p => Machine.offer d p s) s) := by
    intro l
    induction l with
    | nil => exact fun _ h => h
    | cons p l ih => exact fun s h => ih _ (h.offer p)
  exact (hl _ s h).settled rfl rfl

/-- A frame that has just got a holder needs no check. -/
theorem Ending.held (h : Ending d s) (hr : (s.store.desc d).refs ≠ 0) : StoreOk s :=
  of_sound ⟨h.sound.free, h.sound.cells, h.sound.refs.settled fun _ => hr, h.sound.writers⟩ rfl rfl

theorem Ending.inboxOffer (h : Ending d s) : StoreOk (inboxOffer d s) := by
  unfold Machine.inboxOffer
  split
  · have hu : (s.updAgent fun a => { a with inbox := a.inbox ++ [d] }).users = s.users.add [d] := by
      refine users_eq_add (fun e => ?_) rfl (fun _ => rfl) (fun _ => rfl) rfl
      have hh := held_updAgent (f := fun a => { a with inbox := a.inbox ++ [d] }) (s := s) rfl e
      rw [List.count_append] at hh
      omega
    refine (h.addRef hu rfl).held ?_
    have hr : (s.store.addRef d).desc d = { s.store.desc d with refs := (s.store.desc d).refs + 1 } := desc_updDesc_self ..
    change ((s.store.addRef d).desc d).refs ≠ 0
    rw [hr]
    exact Nat.succ_ne_zero _
  · exact h.settled rfl rfl

/-- A context's frame ends COMPLETE, handed on to its holders (R96, R99). -/
theorem acceptFrame (h : StoreOk s) (c : Cls) {f : DescId → State → State} (hf : ∀ d s, Ending d s → StoreOk (f d s)) :
    StoreOk (acceptFrame c f s) := by
  unfold Machine.acceptFrame
  split
  · exact h.contextCleared rfl
  · next d hd =>
    have hs := (h.sound.setStorage (c := c) (o := none) nofun).ends (h.unwritten_of_stored hd)
      (h.sound.writers.stored c d hd).state (y := .complete) nofun
    have hu : (Machine.setContext c Context.closed (s.updStore (FrameStore.complete d))).users =
        s.users.setStorage c none := users_setStorage c _ _
    refine hf d _ ⟨?_, ?_⟩
    · change (s.store.complete d).Sound (some d) (Machine.setContext c Context.closed (s.updStore (FrameStore.complete d))).users
      rw [hu]
      exact hs
    · have hd : (s.store.complete d).desc d = { s.store.desc d with state := .complete } := desc_updDesc_self ..
      change FrameStore.ended ((s.store.complete d).desc d).state = true
      rw [hd]
      rfl

theorem judgeFrame (h : StoreOk s) (c : Cls) {f : DescId → State → State} (hf : ∀ d s, Ending d s → StoreOk (f d s)) :
    StoreOk (judgeFrame c f s) := by
  unfold Machine.judgeFrame
  split
  · exact (h.countRx _).closeContext c
  · split
    · exact (h.countRx _).closeContext c
    · exact h.acceptFrame c hf

theorem rxCloseFrame (h : StoreOk s) (c : Cls) : StoreOk (rxCloseFrame c s) := by
  unfold Machine.rxCloseFrame
  split
  · exact h.closeContext c
  · exact (h.countRx _).closeContext c
  · exact h.judgeFrame c fun _ _ h => h.offerAll _
  · exact h.judgeFrame c fun _ _ h => h.inboxOffer

/-! ### Framers (R128 to R134) -/

theorem framerFreed (h : StoreOk s) (p : PortIx) {y : FramerState} (hy : y = .idle ∨ y = .discard) :
    StoreOk (updFramer p (Framer.freed y) s) :=
  of_sound (h.sound.freed p (f := ((s.framer p).freed y).outline) (by rcases hy with rfl | rfl <;> rfl) rfl) rfl
    (users_setFraming p _ s)

theorem framerPasses (h : StoreOk s) {p : PortIx} {y : FramerState} (hy : y = .idle ∨ y = .discard)
    (hr : (s.framer p).receiving = false) : StoreOk (updFramer p (fun f => { f with state := y }) s) := by
  have hd : (s.framer p).desc = none := by
    have hsome := h.framer p
    rw [hr] at hsome
    exact Option.isSome_eq_false_iff.1 hsome.symm |> Option.isNone_iff_eq_none.1
  exact of_sound (h.sound.freed p (f := ({ s.framer p with state := y } : Framer).outline)
    (by rcases hy with rfl | rfl <;> rfl) hd) rfl (users_setFraming p _ s)

theorem framerBegin (h : StoreOk s) (p : PortIx) : StoreOk (framerBegin p s) := by
  unfold Machine.framerBegin
  split
  · next d st hst =>
    obtain ⟨hs, hu, hd, -⟩ := h.sound.takeDesc (takeDesc_of_line hst)
    refine of_sound (hs.setFraming (p := p) (f := ⟨.header, some d, freshCheck, 0⟩) rfl fun e he => ?_) rfl
      (users_setFraming p _ _)
    obtain rfl := Option.some.inj he
    rw [hd]
    exact ⟨rfl, rfl, by simp [begun, Descriptor.unused, cellsFor, Config.cellBytes], fun _ => ⟨rfl, rfl⟩, nofun⟩
  · exact ((h.framerFreed p (.inr rfl)).countPort p _).raise _

theorem framerEnd (h : StoreOk s) {p : PortIx} (hd : (s.framer p).desc = some d) : StoreOk (framerEnd p d s) := by
  unfold Machine.framerEnd
  split
  · exact h.framerFails (.inl rfl)
  · split
    · exact h.framerFails (.inl rfl)
    · refine countPort ?_ p _
      have hs := h.sound
      exact of_sound ((hs.freed p (f := ((s.framer p).freed .idle).outline) rfl rfl).complete_settle
        (hs.unwritten_of_freed hd rfl) (hs.writers.framed p d hd).state) rfl (users_setFraming p _ _)

theorem framerRelinquishes (h : StoreOk s) {p : PortIx} (hd : (s.framer p).desc = some d)
    (hr : (s.store.desc d).refs = 0) (f : PortCounters → PortCounters) : StoreOk (framerRelinquishes p d f s) := by
  have hs := h.sound
  have hf : (s.store.desc d).state ≠ .free := by
    rw [(hs.writers.framed p d hd).state]
    nofun
  unfold Machine.framerRelinquishes
  refine countPort ?_ p f
  exact of_sound ((hs.freed p (f := ((s.framer p).freed .discard).outline) rfl rfl).release nofun
    (hs.unwritten_of_freed hd rfl) hf hr) rfl (users_setFraming p _ _)

/-- The station's frame joins its class queue, with its framer in BODY (R121, R131). -/
theorem framerAdmit (h : StoreOk s) {p : PortIx} (c : Cls) (hd : (s.framer p).desc = some d)
    (hr : (s.store.desc d).refs = 0) (h7 : 7 ≤ (s.store.desc d).stored) : StoreOk (framerAdmit p d c s) := by
  unfold Machine.framerAdmit
  split
  · exact h.framerRelinquishes hd hr _
  · have hs := h.sound
    have hfr := hs.writers.framed p d hd
    have hfree := hs.freed p (f := ((s.framer p).freed .discard).outline) rfl rfl
    have hadm := hfree.admits nofun (hs.unwritten_of_freed hd rfl)
      (admits_tail c (vget s.policy c).cutThrough d s.store) (by rw [hfr.state]; nofun) hr
    have hbody := hadm.setFraming (p := p) (f := ({ s.framer p with state := .body } : Framer).outline)
      (show true = (s.framer p).desc.isSome by rw [hd]; rfl) fun e he => ?_
    · rw [Users.setFraming_setFraming] at hbody
      exact of_sound hbody rfl (users_setFraming p _ _)
    · obtain rfl : d = e := Option.some.inj (hd.symm.trans he)
      rw [admitTail_desc, if_pos rfl]
      exact ⟨hfr.state, hfr.origin, hfr.chain, nofun, fun _ => h7⟩

theorem tribHeaderComplete (h : StoreOk s) {p : PortIx} (hd : (s.framer p).desc = some d)
    (hr : (s.store.desc d).refs = 0) (h7 : 7 ≤ (s.store.desc d).stored) : StoreOk (tribHeaderComplete p d s) := by
  have hfr := h.sound.writers.framed p d hd
  have hs : StoreOk (s.updStore (FrameStore.updDesc d fun x => { x with header := some (s.store.readHeader d) })) :=
    of_sound (h.sound.setHeader hfr.state _) rfl rfl
  have hdesc := s.store.desc_updDesc_self d fun x => { x with header := some (s.store.readHeader d) }
  have hr' : ((s.store.updDesc d fun x => { x with header := some (s.store.readHeader d) }).desc d).refs = 0 := by
    rw [hdesc]
    exact hr
  have h7' : 7 ≤ ((s.store.updDesc d fun x => { x with header := some (s.store.readHeader d) }).desc d).stored := by
    rw [hdesc]
    exact h7
  unfold Machine.tribHeaderComplete
  dsimp only
  split
  · exact hs.framerRelinquishes hd hr' _
  · split
    · exact hs.framerRelinquishes hd hr' _
    · have hc : StoreOk ((s.updStore (FrameStore.updDesc d fun x =>
          { x with header := some (s.store.readHeader d) })).updClassifier fun _ =>
            (s.classifier.lookup p (s.store.readHeader d).tag (s.store.readHeader d).src).2) := hs.congr rfl rfl
      split
      · exact hc.framerRelinquishes hd hr' _
      · exact hc.framerAdmit _ hd hr' h7'

theorem framerByte (h : StoreOk s) {p : PortIx} (b : Byte) (hd : (s.framer p).desc = some d) :
    StoreOk (framerByte p d b s) := by
  unfold Machine.framerByte
  split
  · exact h.framerFails (.inr rfl)
  · split
    · exact (h.framerFails (.inr rfl)).raise _
    · next st hst =>
      have hfr := h.sound.writers.framed p d hd
      obtain ⟨-, -, howed⟩ := h.sound.writers.unwritten_of_framed hd
      obtain ⟨hs, ht⟩ := h.sound.lineByte hst hfr.state howed
      obtain ⟨hstored, -⟩ := ht.fits hfr.chain
      have hb : StoreOk (updFramer p (fun f => { f with check := crcByte f.check b, gap := 0 }) (s.updStore fun _ => st)) :=
        of_sound hs rfl (users_updPort rfl rfl)
      dsimp only
      split
      · next h7 =>
        have hheader : (s.framer p).state = .header := by
          have hrec := h.framer p
          rw [hd] at hrec
          cases hst : (s.framer p).state with
          | header => rfl
          | body => exact absurd (hfr.body hst) (by omega)
          | idle => rw [Framer.receiving, hst] at hrec; cases hrec
          | discard => rw [Framer.receiving, hst] at hrec; cases hrec
        have hd' : ((updFramer p (fun f => { f with check := crcByte f.check b, gap := 0 })
            (s.updStore fun _ => st)).framer p).desc = some d := by
          rw [framer_updFramer]
          exact hd
        obtain ⟨hr, -⟩ := hfr.header hheader
        obtain ⟨l, n, hrest⟩ := ht.rest
        refine hb.tribHeaderComplete hd' ?_ ?_
        · change (st.desc d).refs = 0
          rw [hrest]
          exact hr
        · change 7 ≤ (st.desc d).stored
          rw [hstored, h7]
      · exact hb

/-! ### Deliveries and transmitters (R136 to R138) -/

/-- References in passing are dropped. -/
theorem dropRefs {l : List DescId} (h : StoreOk s) (hs : t.store = s.store) (hu : s.users = t.users.add l) :
    StoreOk (dropRefs l t) := by
  have hd := h.sound
  rw [hu, ← hs] at hd
  exact of_sound hd.dropRefs rfl rfl

theorem emptyDelivery (h : StoreOk s) (p : PortIx) : StoreOk (emptyDelivery p s) := by
  refine h.dropRefs rfl (users_portDrops _ rfl fun d => ?_)
  simp only [Port.refs, List.count_nil]
  omega

theorem refs_of_sending {q q' : Port} {x : Sending} (hx : q.sending = some x) (hd : q'.delivery = q.delivery)
    (hs : q'.sending = none) (d : DescId) : q.refs d = q'.refs d + [x.desc].count d := by
  simp only [Port.refs, hx, hd, hs, Option.elim_some, Option.elim_none, List.count_singleton, beq_iff_eq]
  omega

theorem txEnded (h : StoreOk s) {p : PortIx} {x : Sending} (hx : (s.port p).sending = some x) :
    StoreOk (Machine.dropRefs [x.desc] (s.updPort p fun q => { q with sending := none })) :=
  h.dropRefs rfl (users_portDrops _ rfl (refs_of_sending hx rfl rfl))

theorem abandonSending (h : StoreOk s) (p : PortIx) : StoreOk (abandonSending p s) := by
  unfold Machine.abandonSending
  split
  · exact h.congr rfl (users_updPort rfl rfl)
  · next x hx => exact h.dropRefs rfl (users_portDrops _ rfl (refs_of_sending hx rfl rfl))

/-- The frame that a transmitter begins to send has its reference from the delivery queue (R138). -/
theorem txNext (h : StoreOk s) (p : PortIx) : StoreOk (txNext p s).1 := by
  unfold Machine.txNext txChoose
  split
  · exact h
  · split
    · exact h
    · exact h
    · next d ds hs hd =>
      refine h.congr rfl (users_updPort rfl (funext fun e => ?_))
      simp only [Port.refs, hs, hd, Option.elim_some, Option.elim_none, List.count_cons, beq_iff_eq]
      omega

theorem dropInbox (h : StoreOk s) : StoreOk (dropInbox s) := by
  refine h.dropRefs rfl (users_eq_add (fun d => ?_) rfl (fun _ => rfl) (fun _ => rfl) rfl)
  exact (held_updAgent (s := s) (f := fun a => { a with
    inbox := []
    counters := { a.counters with
      droppedByReset := s.agent.inbox.foldl (fun k _ => ctrInc k) a.counters.droppedByReset } }) rfl d).symm

theorem blocksReset (held : Bool) (straps : BitVec 4) (l : List Instr) (n : Nat) :
    StoreOk (State.blocksReset held straps l n) :=
  storeOk_reset.congr rfl (users_congr rfl rfl (fun _ => by rw [State.reset, blocksReset_framer, blocksReset_framer])
    (fun _ => by rw [State.reset, blocksReset_port, blocksReset_port]; rfl) (fun _ => rfl) rfl rfl rfl)

/-- Every operation on the store keeps it sound. -/
theorem storeKept : StoreKept StoreOk where
  reset := blocksReset
  congr _ _ hs hu h := h.congr hs hu
  arbiter _ h := (h.arbitrate _).1
  opened s t us x hx h := by
    have ha : StoreOk (Machine.arbiter s).1 ∧ CandidateWaits (Machine.arbiter s).1 (Machine.arbiter s).2.2 := h.arbitrate _
    rw [hx] at ha
    obtain ⟨ht, hw⟩ := ha
    exact ht.openFrame (hw x rfl)
  popTop _ _ _ hs h := h.popTop hs
  topFails _ _ _ hs h := h.topFails hs _
  endDrain _ h := h.endDrain
  entriesDropped _ h := h.entriesDropped
  openContext c _ h := h.openContext c
  rxByte c b _ h := h.rxByte c b
  rxCloseFrame c _ h := h.rxCloseFrame c
  closeContext c _ h := h.closeContext c
  discardContext c r _ h := h.discardContext c r
  framerBegin p _ h := h.framerBegin p
  framerFails _ _ _ _ hy h := h.framerFails hy
  framerFreed p _ _ hy h := h.framerFreed p hy
  framerByte _ _ b _ hd h := h.framerByte b hd
  framerEnd _ _ _ hd h := h.framerEnd hd
  framerPasses _ _ _ hy hr h := h.framerPasses hy hr
  emptyDelivery p _ h := h.emptyDelivery p
  abandonSending p _ h := h.abandonSending p
  txNext p _ h := h.txNext p
  txEnded _ _ _ hx h := h.txEnded hx
  emptyClassQueue c r _ h := h.emptyClassQueue c r
  dropInbox _ h := h.dropInbox

end StoreOk
end Sys2Proof.Machine
end

section
/-! A sound Frame Store through the builder's turns (R162 to R164, R171 to R174), and so through every step. -/

namespace Sys2Proof.Machine

open FrameStore

namespace FrameStore

/-- A descriptor of the Agent's own, with the one cell of the reply's 14 bytes, is owed for the drain's reply (R174). -/
theorem Sound.owes {x : Option DescId} {u : Users} {st : FrameStore} {d : DescId} (h : st.Sound x u)
    (hd : Owned .agent (st.desc d)) (hl : (st.desc d).chain.length = 1) : st.Sound x { u with owed := some d } := by
  refine h.with_users rfl (fun _ => id) ⟨h.writers.framer, h.writers.framed, h.writers.stored, h.writers.once, fun e he => ?_⟩
  obtain rfl : d = e := Option.some.inj he
  exact ⟨hd, hl⟩

end FrameStore

/-- The store is sound, and d is a descriptor of the Agent's own that no reply is owed for. -/
structure Claimed (d : DescId) (s : State) : Prop where
  store : StoreOk s
  own : Owned .agent (s.store.desc d)
  unowed : s.users.owed ≠ some d

namespace Claimed
variable {d : DescId} {s t : State}

/-- A claimed descriptor stands apart: it has no holder. -/
theorem holders (h : Claimed d s) : s.holders d = 0 := by rw [← h.store.refs, h.own.refs]

theorem apart (h : Claimed d s) : Apart d s := by
  have hz := h.holders
  simp only [State.holders, Nat.add_eq_zero_iff, Finset.sum_eq_zero_iff, Finset.mem_univ, true_implies] at hz
  obtain ⟨⟨⟨⟨hq, -⟩, hp⟩, -⟩, -⟩ := hz
  have hu := h.store.unwritten_of_agent h.own (u := s.users) rfl rfl h.unowed
  refine ⟨fun c => List.count_eq_zero.1 (hq c), hu.framing, fun p => List.count_eq_zero.1 (hp p).1, fun p x hx he => ?_⟩
  have := (hp p).2
  simp [hx, he] at this

theorem not_inbox (h : Claimed d s) : d ∉ s.agent.inbox := fun hm => by
  have hz := h.holders
  have hc := List.count_pos_iff.2 hm
  rw [State.holders] at hz
  omega

/-- What leaves d alone and keeps the store sound leaves d claimed. -/
theorem kept (h : Claimed d s) (ht : StoreOk t) (hl : LeavesAlone d s t) (ho : t.agent.owed = s.agent.owed) :
    Claimed d t ∧ t.store.desc d = s.store.desc d := by
  obtain ⟨-, hd, -⟩ := hl h.apart
  refine ⟨⟨ht, hd ▸ h.own, ?_⟩, hd⟩
  have hu : t.users.owed = s.users.owed := congrArg (Option.map OwedReply.desc) ho
  rw [hu]
  exact h.unowed

theorem congr (h : Claimed d s) (hs : t.store = s.store) (hu : t.users = s.users) : Claimed d t :=
  ⟨h.store.congr hs hu, hs ▸ h.own, hu ▸ h.unowed⟩

/-- The claim of R113 leaves its descriptor claimed, with the cells asked for. -/
theorem of_agentClaim (h : StoreOk s) {n : Nat} {st : FrameStore} (hc : s.store.agentClaim n = some (d, st)) :
    Claimed d (s.updStore fun _ => st) ∧ (st.desc d).chain.length = n :=
  have ⟨hs, hu, hd, hl⟩ := h.sound.agentClaim hc
  ⟨⟨StoreOk.of_sound hs rfl rfl, hd, hu.owed⟩, hl⟩

theorem buildNotice (h : Claimed d s) (x : NoticeRecord) : StoreOk (buildNotice d x s) := by
  have hb := h.store.admitBuilt h.own h.unowed .notice
    (frameOf s.agent.noticeDest s.agent.address 0x00 x.payload)
  unfold Machine.buildNotice
  exact hb.congr (by simp) (users_updAgent rfl rfl rfl)

theorem reply (h : Claimed d s) (r : Request) (x : Status) (a b : Bool) (l : List Byte) : StoreOk (reply d r x a b l s) :=
  h.store.admitBuilt h.own h.unowed .reply _

end Claimed

namespace StoreOk
variable {s t : State} {d : DescId}

/-! ### The request in hand (R162, R164) -/

theorem users_inHandDropped {q : DescId} (hq : s.agent.inHand = some q) :
    s.users = (s.updAgent fun a => { a with inHand := none }).users.add [q] := by
  refine users_eq_add (fun d => ?_) rfl (fun _ => rfl) (fun _ => rfl) rfl
  have hn : (s.updAgent fun a => { a with inHand := none }).users.held d = (s.il.stack.map StackEntry.desc).count d +
    (∑ p : PortIx, (s.port p).refs d) + s.agent.inbox.count d := rfl
  have hh : s.users.held d = (s.il.stack.map StackEntry.desc).count d + (∑ p : PortIx, (s.port p).refs d) +
    s.agent.inbox.count d + if some q = some d then 1 else 0 := by rw [← hq]; rfl
  rw [hn, hh, List.count_singleton]
  simp only [Option.some.injEq, beq_iff_eq]

theorem dropRequest (h : StoreOk s) : StoreOk (dropRequest s) := by
  unfold Machine.dropRequest
  split
  · exact h
  · next q hq => exact h.dropRefs (t := s.updAgent fun a => { a with inHand := none }) rfl (users_inHandDropped hq)

theorem takeRequest (h : StoreOk s) (hn : s.agent.inHand = none) : StoreOk (takeRequest s) := by
  unfold Machine.takeRequest
  split
  · exact h
  · next q qs hi =>
    refine h.congr rfl (users_eq_add (l := []) (fun d => ?_) rfl (fun _ => rfl) (fun _ => rfl) rfl)
    have ht : (s.updAgent fun a => { a with inbox := qs, inHand := some q, job := some .reply }).users.held d =
      (s.il.stack.map StackEntry.desc).count d + (∑ p : PortIx, (s.port p).refs d) + qs.count d +
        if some q = some d then 1 else 0 := rfl
    have hh : s.users.held d = (s.il.stack.map StackEntry.desc).count d + (∑ p : PortIx, (s.port p).refs d) +
      (q :: qs).count d := by simp only [State.users, hn, hi, reduceCtorEq, if_false, Nat.add_zero]
    rw [ht, hh, List.count_cons]
    simp only [Option.some.injEq, beq_iff_eq, List.count_nil]
    omega

theorem dropUnanswerable (h : StoreOk s) : StoreOk (dropUnanswerable s) :=
  h.dropRequest.congr rfl (users_updAgent rfl rfl rfl)

/-! ### The execution step (R164, R171 to R174) -/

theorem performCounted (h : StoreOk s) (r : Request) : StoreOk (performCounted r s).state := by
  have hc : ∀ s, StoreOk s → StoreOk (countExecuted s) := fun s h => h.congr rfl rfl
  have hd : StoreOk s.drawFree := h.congr rfl rfl
  unfold Machine.performCounted
  split
  · exact hc _ (storeKept.perform r _ hd)
  · split
    · exact storeKept.perform r _ (hc _ hd)
    · exact storeKept.perform r _ (hc _ h)

theorem recordOutcome (h : StoreOk s) (r : Request) (x : Status) : StoreOk (recordOutcome r x s) := by
  obtain ⟨l, hl⟩ := recordOutcome_eq r x s
  rw [hl]
  exact h.congr rfl rfl

theorem executed (h : StoreOk s) (r : Request) : StoreOk (executed r s) := by
  refine recordOutcome ?_ r _
  unfold countRefused
  split
  · exact h.performCounted r
  · exact (h.performCounted r).congr rfl rfl

theorem beginDrain (h : StoreOk s) : StoreOk (beginDrain s) := by
  unfold Machine.beginDrain
  split
  · exact h.endDrain
  · exact h.congr rfl rfl

end StoreOk

namespace Claimed
variable {d : DescId} {s t : State}

theorem trafficEnded (h : Claimed d s) :
    Claimed d (trafficEnded s) ∧ (Machine.trafficEnded s).store.desc d = s.store.desc d := by
  have hu := h.store.unwritten_of_agent h.own (u := s.users) rfl rfl h.unowed
  have hs := StoreOk.storeKept.performTrafficReset (countExecuted s) (h.store.congr rfl rfl)
  rw [performTrafficReset_counted] at hs
  exact h.kept hs (trafficEnded_leaves hu.storage h.not_inbox) (by rw [trafficEnded_agent])

theorem recordOutcome (h : Claimed d s) (r : Request) (x : Status) : Claimed d (recordOutcome r x s) ∧
    (Machine.recordOutcome r x s).store = s.store := by
  obtain ⟨l, hl⟩ := recordOutcome_eq r x s
  rw [hl]
  exact ⟨h.congr rfl rfl, rfl⟩

theorem oweReply (h : Claimed d s) (r : Request) (hl : (s.store.desc d).chain.length = 1) : StoreOk (oweReply d r s) :=
  StoreOk.of_sound (h.store.sound.owes h.own hl) rfl rfl

theorem resetOwed (h : Claimed d s) (r : Request) (hl : (s.store.desc d).chain.length = 1) : StoreOk (resetOwed d r s) := by
  obtain ⟨ht, hd⟩ := h.trafficEnded
  obtain ⟨hr, hs⟩ := ht.recordOutcome r .ok
  exact hr.oweReply r (by rw [hs, hd]; exact hl)

theorem execute (h : Claimed d s) (r : Request)
    (hl : kindOf r.kind = some .trafficReset → (s.store.desc d).chain.length = 1) : StoreOk (execute d r s) := by
  by_cases hr : NoReset r
  · rw [execute_of_noReset hr]
    obtain ⟨he, -⟩ := h.kept (h.store.executed r) (LeavesAlone.executed hr s) (HandKept.executed r s).owed
    exact he.reply r _ _ _ _
  · obtain ⟨hp, hk⟩ : r.preCheck = .ok ∧ kindOf r.kind = some .trafficReset := by simpa [NoReset] using hr
    rw [execute_of_trafficReset hk hp]
    exact (h.resetOwed r (hl hk)).beginDrain

/-- The request's reference is dropped; the claim is another frame. -/
theorem dropRequest (h : Claimed d s) :
    Claimed d (dropRequest s) ∧ (Machine.dropRequest s).store.desc d = s.store.desc d := by
  have hs := h.store.dropRequest
  unfold Machine.dropRequest at hs ⊢
  split at hs
  · next hq => exact ⟨h, rfl⟩
  · next q hq =>
    have hne : q ≠ d := fun he => by
      have hz := h.holders
      rw [State.holders, hq, he, if_pos rfl] at hz
      omega
    exact h.kept hs (LeavesAlone.of_store (othersAlone_dropRef hne s.store) rfl) rfl

theorem answerReplay (h : Claimed d s) (r : Request) (e : ReplayEntry) : StoreOk (answerReplay d r e s) :=
  reply (s := countAgent (fun k => { k with replays := ctrInc k.replays })
    (updReplay (replayPut { e with replayed := true }) s)) (h.congr rfl rfl) r _ _ _ _

theorem serve (h : Claimed d s) (r : Request)
    (hl : kindOf r.kind = some .trafficReset → (s.store.desc d).chain.length = 1) : StoreOk (serve d r s) := by
  obtain ⟨hd, he⟩ := h.dropRequest
  unfold Machine.serve
  dsimp only
  split
  · exact hd.answerReplay r _
  · exact hd.execute r (by rw [he]; exact hl)

end Claimed

namespace StoreOk
variable {s t : State} {d : DescId}

/-! ### The builder's two turns (R162, R163) -/

theorem claimReply (h : StoreOk s) : StoreOk (claimReply s) := by
  unfold Machine.claimReply
  split
  · exact h
  · next q hq =>
    dsimp only
    split
    · exact h.congr rfl rfl
    · next d st hst =>
      obtain ⟨hc, hn⟩ := Claimed.of_agentClaim h hst
      refine hc.serve _ fun hk => hn.trans (replyCells_of_trafficReset ?_)
      simp [Request.row, hk]

theorem claimNotice (h : StoreOk s) : StoreOk (claimNotice s) := by
  unfold Machine.claimNotice
  split
  · exact h
  · split
    · exact h.congr rfl rfl
    · next d st hst =>
      obtain ⟨hc, -⟩ := Claimed.of_agentClaim h hst
      exact hc.buildNotice _

/-- An IDLE builder has no request in hand when it takes one. -/
theorem builderChooseJob (h : StoreOk s) (hb : BuilderOk s) : StoreOk (builderChooseJob s) := by
  unfold Machine.builderChooseJob
  split
  · next hidle =>
    obtain ⟨-, -, -, -, hj⟩ := hb
    rw [hidle] at hj
    obtain ⟨-, hn⟩ := hj
    unfold chooseJob
    split
    · exact h
    · have ht := h.takeRequest hn
      unfold chooseReply
      dsimp only
      split
      · exact ht.claimReply
      · exact ht.dropUnanswerable
    · exact claimNotice (h.congr rfl rfl)
  · exact h
  · exact h

theorem storeClaimGranted (h : StoreOk s) : StoreOk (storeClaimGranted s) :=
  storeClaimGranted_keeps (fun _ h => h.claimNotice) (fun _ h => h.claimReply) s h

end StoreOk

/-- Every command keeps the store sound, beside the builder's own invariant. -/
theorem storeOk_kept : Kept fun s => StoreOk s ∧ BuilderOk s :=
  StoreOk.storeKept.kept_and builderOk_kept (fun _ h hb => h.builderChooseJob hb) fun _ h => h.storeClaimGranted

/-- Settles O60. Every command is made of takes, bytes, completions, failures, drops and admissions (`StoreKept`), each
of which keeps the store and its users sound (`FrameStore.Sound`). -/
theorem storeConservesItsCells : Obligations.StoreConservesItsCells := by
  intro s t hs hb e
  have hpending : ∀ s l, StoreOk s ∧ BuilderOk s → StoreOk { s with pending := l } ∧ BuilderOk { s with pending := l } :=
    fun _ _ ⟨h, h'⟩ => ⟨h.congr rfl rfl, h'.of_same (.of_agent rfl) rfl rfl rfl⟩
  exact (storeOk_kept.step hpending s t ⟨hs, hb⟩ e).1

end Sys2Proof.Machine
end

section
/-! Takes, releases and failures, each by its conditions (R111 to R114, R117, R134, R140). -/

namespace Sys2Proof.Machine

namespace FrameStore
variable {st : FrameStore} {d : DescId}

/-! ### Takes and releases (R111 to R114) -/

theorem lineTakeCell_of_reserve {c : CellId} {cs : List CellId} (hc : st.freeCells = c :: cs)
    (h2 : 2 ≤ st.freeDescs.length) (h35 : 35 ≤ st.freeCells.length) : st.lineTakeCell d = some { st with
      freeCells := cs
      descs := vset st.descs d { st.desc d with chain := (st.desc d).chain ++ [c] } } := by
  have ha : st.cellTakeAllowed = true := by simp [cellTakeAllowed, Config.reserveDescs, Config.reserveCells, h2, h35]
  rw [lineTakeCell, if_pos ha, takeCell, hc]
  rfl

theorem lineTakeCell_refused (h : st.freeDescs.length < 2 ∨ st.freeCells.length < 35) : st.lineTakeCell d = none := by
  refine if_neg fun ha => ?_
  simp only [cellTakeAllowed, Bool.and_eq_true, decide_eq_true_eq] at ha
  simp only [Config.reserveDescs, Config.reserveCells] at ha
  omega

theorem release_eq (d : DescId) (st : FrameStore) : st.release d = { st with
    freeCells := st.freeCells ++ (st.desc d).chain
    freeDescs := st.freeDescs ++ [d]
    descs := vset st.descs d Descriptor.unused } := rfl

theorem agentClaim_of_free {n : Nat} {ds : List DescId} (hd : st.freeDescs = d :: ds) (hn : n ≤ st.freeCells.length) :
    st.agentClaim n = some (d, { st with
      freeDescs := ds
      freeCells := st.freeCells.drop n
      descs := vset st.descs d (freshDescriptor .agent (st.freeCells.take n)) }) := by
  have ht : st.takeDesc .agent = some (d, { st with freeDescs := ds, descs := vset st.descs d (begun .agent) }) := by
    rw [takeDesc, hd]
    rfl
  have hself : ({ st with
      freeDescs := ds
      freeCells := st.freeCells.drop n
      descs := vset st.descs d (begun .agent) } : FrameStore).desc d = begun .agent := vget_vset_self ..
  rw [agentClaim, if_pos hn, ht]
  simp only [Option.some.injEq, Prod.mk.injEq, true_and]
  rw [updDesc_congr (g := fun _ => freshDescriptor .agent (st.freeCells.take n)) (by rw [hself]; rfl)]
  exact congrArg (fun v => { st with freeDescs := ds, freeCells := st.freeCells.drop n, descs := v }) (vset_vset ..)

theorem agentClaim_refused {n : Nat} (h : st.freeDescs = [] ∨ st.freeCells.length < n) : st.agentClaim n = none := by
  unfold agentClaim
  split
  · next hn =>
    have hd : st.freeDescs = [] := h.resolve_right (by omega)
    rw [takeDesc, hd]
  · rfl

/-! ### A failure and its holder (R117) -/

/-- A release does not look at what it releases but for the chain. -/
theorem release_updDesc {f : Descriptor → Descriptor} (hf : (f (st.desc d)).chain = (st.desc d).chain) :
    (st.updDesc d f).release d = st.release d := by
  have hv : vset (vupd st.descs d f) d Descriptor.unused = vset st.descs d Descriptor.unused := vset_vset ..
  have hd : (st.updDesc d f).desc d = f (st.desc d) := desc_updDesc_self ..
  rw [release_eq, release_eq, hd, hf]
  exact congrArg (fun v => { st with
    freeCells := st.freeCells ++ (st.desc d).chain, freeDescs := st.freeDescs ++ [d], descs := v }) hv

theorem leaveQueue_of_queued {c : Cls} (hc : (st.desc d).cls = some c) (hm : d ∈ st.queue c) :
    st.leaveQueue d = (st.unqueue c d).updDesc d fun x => { x with refs := x.refs - 1 } := by
  simp [leaveQueue, hc, hm]

/-- A FILLING frame without a holder is released at its failure. -/
theorem fail_of_unheld (hr : (st.desc d).refs = 0) (hq : st.queued d = false) (r : FailReason) :
    st.fail d r = st.release d := by
  have hdesc : (st.updDesc d fun x => { x with state := .failed r }).desc d = { st.desc d with state := .failed r } :=
    desc_updDesc_self ..
  rw [fail, leaveQueue_of_gone, settle, if_pos, release_updDesc rfl]
  · rw [hdesc]
    exact ⟨hr, rfl⟩
  · intro c hc hm
    rw [hdesc] at hc
    have hc : (st.desc d).cls = some c := hc
    rw [queued, hc] at hq
    have hn : d ∉ st.queue c := by simpa using hq
    exact hn hm

/-- A FILLING frame that one class queue alone holds leaves the queue at its failure and is released. -/
theorem fail_of_queued {c : Cls} (hr : (st.desc d).refs = 1) (hc : (st.desc d).cls = some c) (hm : d ∈ st.queue c)
    (r : FailReason) : st.fail d r = (st.unqueue c d).release d := by
  have hdesc : (st.updDesc d fun x => { x with state := .failed r }).desc d = { st.desc d with state := .failed r } :=
    desc_updDesc_self ..
  have hcls : ((st.updDesc d fun x => { x with state := .failed r }).desc d).cls = some c := by rw [hdesc]; exact hc
  have hleft : (((st.updDesc d fun x => { x with state := .failed r }).unqueue c d).updDesc d
      fun x => { x with refs := x.refs - 1 }).desc d = { st.desc d with state := .failed r, refs := (st.desc d).refs - 1 } := by
    rw [desc_updDesc_self]
    exact congrArg (fun x : Descriptor => { x with refs := x.refs - 1 }) hdesc
  rw [fail, leaveQueue_of_queued hcls hm, settle, if_pos (by rw [hleft, hr]; exact ⟨rfl, rfl⟩), release_updDesc rfl]
  exact release_updDesc (st := st.unqueue c d) rfl

end FrameStore

/-! ### A failure at its port (R134, R140) -/

theorem failFrame_of_ended {d : DescId} {s : State} (h : (s.store.desc d).state ≠ .filling) (r : FailReason) :
    failFrame d r s = s := if_neg h

/-- The failure of a frame from a tributary reaches the framer and the counters of its port alone. -/
theorem port_failFrame_of_ne {p q : PortIx} {d : DescId} {s : State} (hf : (s.store.desc d).state = .filling)
    (ho : (s.store.desc d).origin = some (.tributary p)) (hq : q ≠ p) (r : FailReason) :
    (failFrame d r s).port q = s.port q := by
  rw [failFrame, if_pos hf, ho]
  simp only [failAtPort, framerLoses, countPort, port_updPort, if_neg hq.symm]
  rfl

theorem ports_failFrame_of_elsewhere {d : DescId} {s : State} (ho : ∀ p, (s.store.desc d).origin ≠ some (.tributary p))
    (r : FailReason) : (failFrame d r s).ports = s.ports := by
  unfold failFrame
  split
  · unfold failAtPort
    split
    · next p hp => exact absurd hp (ho p)
    all_goals rfl
  · rfl

/-- The counter of a failure's reason (R140). -/
theorem failGroup_eq (r : FailReason) (k : PortCounters) : failGroup r k =
    if r = .short ∨ r = .overlong ∨ r = .badCrc then { k with failedFormat := ctrInc k.failedFormat }
    else if r = .stationAbort ∨ r = .stall then { k with failedStation := ctrInc k.failedStation }
    else if r = .noStore then { k with failedStore := ctrInc k.failedStore }
    else { k with failedOther := ctrInc k.failedOther } := by
  cases r <;> rfl

/-- Settles O31, take by take. -/
theorem takesAndReleases : Obligations.TakesAndReleases := by
  refine ⟨fun o d st => ⟨fun ds hd h3 h34 => ?_, FrameStore.lineTakeDesc_refused o, fun c cs hc h2 h35 => ?_,
    FrameStore.lineTakeCell_refused, ?_⟩, fun n st => ⟨fun d ds hd hn => ?_, FrameStore.agentClaim_refused⟩⟩
  · exact FrameStore.lineTakeDesc_of_reserve o hd h3 h34
  · exact FrameStore.lineTakeCell_of_reserve hc h2 h35
  · exact FrameStore.release_eq d st
  · exact FrameStore.agentClaim_of_free hd hn

/-- Settles O33: the store by the frame's holder (`fail_of_unheld`, `fail_of_queued`, `fail_of_held`), the port by the
frame's origin. -/
theorem failureActsOnItsHolder : Obligations.FailureActsOnItsHolder := by
  intro d r s
  refine ⟨fun h => failFrame_of_ended h r, fun hf => ?_⟩
  have hst := failFrame_store r hf
  refine ⟨⟨by simp, by simp⟩, fun hr hq => ?_, fun c hr hc hm => ?_, fun hr hq => ?_, fun p ho => ⟨fun hd => ?_,
    fun q hq => ?_, ?_⟩, fun ho => ?_⟩
  · rw [hst, FrameStore.fail_of_unheld hr hq]
  · rw [hst, FrameStore.fail_of_queued hr hc hm]
  · rw [hst, fail_of_held hr hq]
  · rw [framer_failFrame r hf ho hd]
    exact ⟨rfl, rfl⟩
  · exact port_failFrame_of_ne hf ho hq r
  · exact (counters_failFrame r hf ho).trans (failGroup_eq r _)
  · exact ports_failFrame_of_elsewhere ho r

end Sys2Proof.Machine
end

section
/-! The seventh byte of a station's frame: discarded, dropped by the Classifier, refused by its queue, or admitted (R131). -/

namespace Sys2Proof.Machine

section
variable {p : PortIx} {b : Byte} {d : DescId} {st : FrameStore} {s : State}

theorem exec_tribRxData (h : Serving p s) (b : Byte) :
    exec (.tribRxData p b) s = .next (heardAt p (framerSymbol p (.data b) s)) := by
  obtain ⟨hr, hs⟩ := h
  simp [exec, execTribRxData, whenRunning, hr, tribDecoded_of_serving hs]

theorem framerSymbol_data_inside (h : (s.framer p).receiving = true) (hd : (s.framer p).desc = some d) (b : Byte) :
    framerSymbol p (.data b) s = framerByte p d b s := by
  simp [framerSymbol, h, hd]

/-- The framer has stored byte b, the store being st after it (R130). -/
def byteKept (p : PortIx) (b : Byte) (st : FrameStore) (s : State) : State :=
  updFramer p (fun f => { f with check := crcByte f.check b, gap := 0 }) (s.updStore fun _ => st)

/-- The seventh byte completes the header. -/
theorem framerByte_seventh (hh : (s.store.desc d).header = none) (h6 : (s.store.desc d).stored = 6)
    (hb : s.store.lineByte d b = some st) : framerByte p d b s = tribHeaderComplete p d (byteKept p b st s) := by
  have hf : (s.store.desc d).isFull = false := by simp [Descriptor.isFull, hh]
  rw [framerByte, hf]
  simp only [Bool.false_eq_true, if_false, hb, h6]
  rfl

/-- The header is recorded, and the Classifier is in the state k that its lookup leaves. -/
def headerKept (d : DescId) (k : Classifier) (s : State) : State :=
  (s.updStore (FrameStore.updDesc d fun x => { x with header := some (s.store.readHeader d) })).updClassifier fun _ => k

/-- A frame relinquished at its header (R131). -/
theorem framerRelinquishes_headerKept (k : Classifier) (f : PortCounters → PortCounters) :
    framerRelinquishes p d f (headerKept d k (byteKept p b st s)) = { s with
      store := (st.updDesc d fun x => { x with header := some (st.readHeader d) }).release d
      classifier := k }.updPort p fun q => { q with
        framer := { state := .discard, desc := none, check := crcByte q.framer.check b, gap := 0 }
        counters := f q.counters } := by
  have hm : framerRelinquishes p d f (headerKept d k (byteKept p b st s)) = ((({ s with
      store := (st.updDesc d fun x => { x with header := some (st.readHeader d) }).release d
      classifier := k }.updPort p fun q => { q with
        framer := { q.framer with check := crcByte q.framer.check b, gap := 0 } }).updPort p fun q => { q with
        framer := q.framer.freed .discard }).updPort p fun q => { q with counters := f q.counters }) := rfl
  rw [hm, updPort_updPort, updPort_updPort]
  rfl

/-- A frame whose class queue is full is relinquished, as one that is discarded (R121, R131). -/
theorem framerAdmit_of_full {c : Cls} (h : (vget s.policy c).queueLimit ≤ (s.store.queue c).length) :
    framerAdmit p d c s = framerRelinquishes p d (fun k => { k with discarded := ctrInc k.discarded }) s := if_pos h

/-- A frame admitted at its header, its framer in BODY (R121, R131). -/
theorem framerAdmit_headerKept {c : Cls} {k : Classifier} (hd : (s.framer p).desc = some d)
    (hq : ¬ (vget s.policy c).queueLimit ≤ (st.queue c).length) :
    framerAdmit p d c (headerKept d k (byteKept p b st s)) = { s with
      store := { st with
        queues := vset st.queues c (st.queue c ++ [d])
        descs := vset st.descs d { st.desc d with
          header := some (st.readHeader d), cls := some c, cutThrough := (vget s.policy c).cutThrough, refs := 1 } }
      classifier := k }.updPort p fun q => { q with
        framer := { state := .body, desc := some d, check := crcByte q.framer.check b, gap := 0 } } := by
  have hstore : (st.updDesc d fun x => { x with header := some (st.readHeader d) }).admitTail c
      (vget s.policy c).cutThrough d = { st with
        queues := vset st.queues c (st.queue c ++ [d])
        descs := vset st.descs d { st.desc d with
          header := some (st.readHeader d), cls := some c, cutThrough := (vget s.policy c).cutThrough, refs := 1 } } := by
    have hv := vupd_vupd st.descs d (fun x => { x with header := some (st.readHeader d) })
      (FrameStore.admitted c (vget s.policy c).cutThrough)
    exact congrArg (fun v => { st with queues := vupd st.queues c (· ++ [d]), descs := v }) hv
  have hm : framerAdmit p d c (headerKept d k (byteKept p b st s)) = (({ s with
      store := (st.updDesc d fun x => { x with header := some (st.readHeader d) }).admitTail c
        (vget s.policy c).cutThrough d
      classifier := k }.updPort p fun q => { q with
        framer := { q.framer with check := crcByte q.framer.check b, gap := 0 } }).updPort p fun q => { q with
        framer := { q.framer with state := .body } }) := by
    unfold framerAdmit
    exact if_neg hq
  rw [hm, hstore, updPort_updPort]
  refine updPort_congr ?_
  have hd : (s.port p).framer.desc = some d := hd
  simp only [Port.mk.injEq, Framer.mk.injEq, true_and, and_true]
  exact hd

/-- What the header decides (R131): the classifier sees a frame that is neither too long nor for the Agent. -/
theorem tribHeaderComplete_byteKept (p : PortIx) (b : Byte) (d : DescId) (st : FrameStore) (s : State) :
    tribHeaderComplete p d (byteKept p b st s) =
      if 1024 < (st.readHeader d).len.toNat then
        framerRelinquishes p d (fun k => { k with discarded := ctrInc k.discarded })
          (headerKept d s.classifier (byteKept p b st s))
      else if (st.readHeader d).dest = s.agent.address then
        framerRelinquishes p d (fun k => { k with discarded := ctrInc k.discarded })
          (headerKept d s.classifier (byteKept p b st s))
      else match (s.classifier.lookup p (st.readHeader d).tag (st.readHeader d).src).1 with
        | .drop => framerRelinquishes p d (fun k => { k with droppedByClass := ctrInc k.droppedByClass })
            (headerKept d (s.classifier.lookup p (st.readHeader d).tag (st.readHeader d).src).2 (byteKept p b st s))
        | .forward c => framerAdmit p d c
            (headerKept d (s.classifier.lookup p (st.readHeader d).tag (st.readHeader d).src).2 (byteKept p b st s)) := rfl

end

/-- Settles O36, branch by branch of the header's decision. -/
theorem stationHeaderIsAdmittedOrDropped : Obligations.StationHeaderIsAdmittedOrDropped := by
  intro p b d st s hs hy hd hh h6 hb
  have hr : (s.framer p).receiving = true := by rw [Framer.receiving, hy]
  dsimp only
  rw [exec_tribRxData hs, framerSymbol_data_inside hr hd, framerByte_seventh hh h6 hb, tribHeaderComplete_byteKept]
  split
  · rw [framerRelinquishes_headerKept]
  · split
    · rw [framerRelinquishes_headerKept]
    · cases hc : (s.classifier.lookup p (st.readHeader d).tag (st.readHeader d).src).1 with
      | drop =>
        dsimp only
        rw [framerRelinquishes_headerKept]
      | forward c =>
        dsimp only
        split
        · next hq =>
          rw [framerAdmit_of_full (s := headerKept d _ (byteKept p b st s)) hq, framerRelinquishes_headerKept]
        · next hq => rw [framerAdmit_headerKept hd hq]

end Sys2Proof.Machine
end

section
/-! A request that is taken is executed and answered in the same step (R162 to R165, R171, R174, R175), and the row that each
request belongs to (log 6). -/

namespace Sys2Proof.Machine

/-! ### What an execution leaves of the inbox and the counters (R164, R175) -/

/-- An execution keeps the requests that wait, and only a READ_COUNTERS with the clear flag touches the Agent's counters. -/
theorem performKind_agent {x : ReqKind} (hx : x ≠ .trafficReset) (r : Request) (s : State) :
    (performKind x r s).state.agent.inbox = s.agent.inbox ∧ ((x = .readCounters → r.clears = false) →
      (performKind x r s).state.agent.counters = s.agent.counters) := by
  cases x with
  | setGlobal =>
    unfold performKind performSetGlobal
    dsimp only
    split <;> exact ⟨rfl, fun _ => rfl⟩
  | readCounters =>
    refine ⟨?_, fun hc => congrArg (fun s : State => s.agent.counters) (performReadCounters_state (hc rfl) s)⟩
    unfold performKind performReadCounters
    dsimp only
    split <;> rfl
  | read =>
    unfold performKind
    dsimp only
    split <;> exact ⟨rfl, fun _ => rfl⟩
  | write =>
    unfold performKind
    dsimp only
    split
    · exact ⟨rfl, fun _ => rfl⟩
    · exact ⟨by simp, fun _ => by simp⟩
  | trafficReset => exact absurd rfl hx
  | _ => exact ⟨by simp [performKind], fun _ => by simp [performKind]⟩

section
variable {r : Request} (h : NoReset r)
include h

theorem perform_agent (s : State) : (perform r s).state.agent.inbox = s.agent.inbox ∧
    ((ReadsCounters r → r.clears = false) → (perform r s).state.agent.counters = s.agent.counters) := by
  by_cases hp : r.preCheck = .ok
  · obtain ⟨x, hx⟩ := kind_of_passed hp
    obtain ⟨hi, hk⟩ := performKind_agent (fun he => h hp (he ▸ hx)) r s
    rw [perform_of_passed hp hx]
    exact ⟨hi, fun hc => hk fun he => hc ⟨he ▸ hx, hp⟩⟩
  · rw [perform_of_refused hp]
    exact ⟨rfl, fun _ => rfl⟩

theorem performCounted_inbox (s : State) : (performCounted r s).state.agent.inbox = s.agent.inbox := by
  by_cases hr : ReadsCounters r
  · rcases performCounted_of_readsCounters hr s with he | he <;> rw [he]
    · exact (performKind_agent (x := .readCounters) nofun r s.drawFree).1
    · exact (performKind_agent (x := .readCounters) nofun r (countExecuted s.drawFree)).1
  · rw [performCounted_of_other hr]
    exact (perform_agent h _).1

/-- An execution counts itself (R164). -/
theorem performCounted_counters (hc : ReadsCounters r → r.clears = false) (s : State) :
    (performCounted r s).state.agent.counters =
      { s.agent.counters with executed := ctrInc s.agent.counters.executed } := by
  by_cases hr : ReadsCounters r
  · rcases performCounted_of_readsCounters hr s with he | he <;> rw [he]
    · rw [performReadCounters_state (hc hr)]
      rfl
    · rw [performReadCounters_state (hc hr)]
      rfl
  · rw [performCounted_of_other hr]
    exact (perform_agent h _).2 hc

end

/-- An outcome that is not OK counts as refused (R165). -/
theorem answered_counters (d : DescId) (r : Request) (o : Done) : (answered d r o).agent.counters =
    { o.state.agent.counters with refused :=
      if o.status = .ok then o.state.agent.counters.refused else ctrInc o.state.agent.counters.refused } := by
  have hc : (answered d r o).agent.counters = (countRefused o.status o.state).agent.counters := by
    obtain ⟨l, hl⟩ := recordOutcome_eq r o.status (countRefused o.status o.state)
    change (recordOutcome r o.status (countRefused o.status o.state)).agent.counters = _
    rw [hl]
    rfl
  rw [hc]
  unfold countRefused
  split <;> rfl

/-- What an answer leaves as it is, from the execution step on. -/
theorem Served.blocks {q : DescId} {qs : List DescId} {st : FrameStore} {s t : State}
    (h : Served (atExecution q qs st s) t) :
    t.il = s.il ∧ t.sched = s.sched ∧ t.align = s.align ∧ t.rx = s.rx ∧ t.ports = s.ports ∧
      t.classifier = s.classifier ∧ t.policy = s.policy ∧ t.routes = s.routes ∧ t.agent.address = s.agent.address ∧
      t.agent.mgmtClass = s.agent.mgmtClass ∧ t.agent.noticeDest = s.agent.noticeDest ∧
      t.agent.noticeMask = s.agent.noticeMask ∧ t.agent.stallLimit = s.agent.stallLimit ∧
      t.agent.notices = s.agent.notices :=
  ⟨h.il, h.sched, h.align, h.rx, h.ports, h.classifier, h.policy, h.routes, h.address, h.mgmtClass, h.noticeDest,
    h.noticeMask, h.stallLimit, h.notices⟩

/-! ### The step that answers (R162, R164, R171) -/

section
variable {q d : DescId} {qs : List DescId} {r : Request} {s : State} {st : FrameStore}

/-- A replay is answered from the Replay Table (R171). -/
theorem answerReplay_replied (r : Request) (e : ReplayEntry) (st : FrameStore) (s : State) :
    Replied d qs s (answerReplay d r e (atExecution q qs st s)) := by
  rw [answerReplay_eq]
  exact replied_reply (u := replayNoted e (atExecution q qs st s)) rfl rfl r _ _ _ _ s

theorem answerReplay_served (r : Request) (e : ReplayEntry) (s : State) : Served s (answerReplay d r e s) := by
  rw [answerReplay_eq]
  exact (Served.replayNoted e s).trans (Served.reply ..)

theorem builderChooseJob_of_noReset (h : RequestTaken q d qs r s) (hn : NoReset r)
    (hc : s.store.agentClaim (replyCells r s.agent.replay) = some (d, st)) (hf : Fresh r s) :
    builderChooseJob s = answered d r (performCounted r (atExecution q qs st s)) := by
  rw [builderChooseJob_of_fresh h hc hf, execute_eq_answered hn]

theorem answered_performCounted (hn : NoReset r) (st : FrameStore) (s : State) :
    Replied d qs s (answered d r (performCounted r (atExecution q qs st s))) :=
  answered_replied (o := performCounted r (atExecution q qs st s)) (performCounted_inbox hn (atExecution q qs st s))
    (HandKept.performCounted r (atExecution q qs st s)).inHand r s

/-- Executed, and refused unless the status is OK. -/
theorem answered_performCounted_counters (hn : NoReset r) (hc : ReadsCounters r → r.clears = false) (st : FrameStore)
    (s : State) : (answered d r (performCounted r (atExecution q qs st s))).agent.counters = { s.agent.counters with
      executed := ctrInc s.agent.counters.executed
      refused := if (perform r (countExecuted (atExecution q qs st s))).status = .ok then s.agent.counters.refused
        else ctrInc s.agent.counters.refused } := by
  obtain ⟨hst, -⟩ := performCounted_spec (d := d) hn (atExecution q qs st s)
  rw [answered_counters, performCounted_counters hn hc, hst]
  rfl

end

/-! ### The rows of the requests (log 6) -/

theorem clears_iff (r : Request) : r.clears = true ↔ r.len = 7 ∧ (byteAt r.params 0).getLsbD 0 = true := by
  simp [Request.clears]

/-- A request with no row is of no kind, of no table, or a FLUSH of no queue. -/
theorem row_eq_none_iff (r : Request) : r.row = none ↔ kindOf r.kind = none ∨
    (kindOf r.kind = some .write ∧ tableOf r.table = none) ∨
    (kindOf r.kind = some .flush ∧ byteAt r.params 0 ≠ 0x00 ∧ byteAt r.params 0 ≠ 0x01) := by
  unfold Request.row
  cases hk : kindOf r.kind with
  | none => simp
  | some x =>
    cases x with
    | write => simp
    | flush =>
      generalize byteAt r.params 0 = b
      by_cases h0 : b = 0x00
      · subst h0; simp
      · by_cases h1 : b = 0x01
        · subst h1; simp
        · simp [show ¬ b = 0#8 from h0, show ¬ b = 1#8 from h1]
    | _ => simp

/-- A request without a row performs nothing: it is refused. -/
theorem perform_of_no_row {r : Request} (h : r.row = none) (s : State) :
    perform r s = .refuse (if r.preCheck = .ok then .badValue else r.preCheck) s := by
  by_cases hp : r.preCheck = .ok
  · rw [if_pos hp]
    rcases (row_eq_none_iff r).1 h with hk | ⟨hk, ht⟩ | ⟨hk, h0, h1⟩
    · simp [Request.preCheck, hk] at hp
    · simp [Request.preCheck, hk, ht, ReqKind.usesTable] at hp
    · rw [perform_of_passed hp hk, performKind, performFlush, if_neg h0, if_neg h1]
  · rw [if_neg hp, perform_of_refused hp]

theorem noReset_of_no_row {r : Request} (h : r.row = none) : NoReset r := noReset_of_row (.inl (by rw [h]; nofun))

theorem not_readsCounters_of_no_row {r : Request} (h : r.row = none) : ¬ ReadsCounters r := fun ⟨hk, _⟩ => by
  simp [Request.row, hk] at h

theorem refuse_status_ne_ok (r : Request) : (if r.preCheck = .ok then Status.badValue else r.preCheck) ≠ .ok := by
  split
  · nofun
  · next h => exact h

/-- The row of a request, read from its kind, its table, its flag and its FLUSH byte. -/
theorem row_eq_some_iff (r : Request) (k : RequestRow) : r.row = some k ↔
    (kindOf r.kind, k) ∈ [(some .query, .query), (some .read, .read), (some .commit, .commit), (some .abandon, .abandon),
      (some .setAlign, .setAlign), (some .setGlobal, .setGlobal), (some ReqKind.trafficReset, RequestRow.trafficReset)] ∨
    (kindOf r.kind = some .write ∧ (tableOf r.table, k) ∈ [(some .classify, .writeClassify),
      (some .portDefault, .writePortDefault), (some .classPolicy, .writeClassPolicy), (some .route, .writeRoute),
      (some .portConfig, .writePortConfig), (some .scheduleStandby, .writeScheduleStandby),
      (some .scheduleActive, .writeReadOnlyTable), (some TableId.hits, RequestRow.writeReadOnlyTable)]) ∨
    (kindOf r.kind = some .readCounters ∧
      k = if r.len = 7 ∧ (byteAt r.params 0).getLsbD 0 = true then .readCountersClear else .readCounters) ∨
    (kindOf r.kind = some .flush ∧ ((byteAt r.params 0 = 0x00 ∧ k = .flushClassQueue) ∨
      (byteAt r.params 0 = 0x01 ∧ k = .flushDeliveryQueue))) := by
  unfold Request.row
  cases hk : kindOf r.kind with
  | none => simp
  | some x =>
    cases x with
    | write =>
      cases ht : tableOf r.table with
      | none => simp
      | some t => cases t <;> simp [TableId.writeRow, eq_comm (b := k)]
    | readCounters =>
      simp only [clears_iff]
      simp [eq_comm (b := k)]
    | flush =>
      generalize byteAt r.params 0 = b
      by_cases h0 : b = 0x00
      · subst h0; simp [eq_comm (b := k)]
      · by_cases h1 : b = 0x01
        · subst h1; simp [eq_comm (b := k)]
        · simp [show ¬ b = 0#8 from h0, show ¬ b = 1#8 from h1]
    | _ => simp [eq_comm (b := k)]

/-- Settles O42: a replay is answered from the table, a fresh request with its outcome (`answered_performCounted`), and a
request without a row is refused (`perform_of_no_row`). -/
theorem readyRequestIsAnswered : Obligations.ReadyRequestIsAnswered := by
  refine ⟨fun k q d qs r s h => ⟨?_, fun hcase => ?_⟩, row_eq_some_iff, fun q d qs r s h hrow => ?_⟩
  · rw [exec_of_ready h, exec_of_taken h.toRequestTaken (.inl rfl)]
  · obtain ⟨st, hc⟩ := h.toRequestTaken.agentClaim
    refine ⟨_, exec_of_ready h, ?_⟩
    cases he : replayEntry r s.agent.replay with
    | some e =>
      rw [builderChooseJob_of_replay h.toRequestTaken hc he]
      exact ⟨answerReplay_replied r e st s, fun hf => absurd (he.symm.trans hf) nofun⟩
    | none =>
      have hf : Fresh r s := he
      have hn : NoReset r := noReset_of_row (by
        rcases hcase with hk | hp | hf'
        · exact .inl fun ht => hk (Option.some.inj (h.row.symm.trans ht))
        · exact .inr hp
        · exact absurd hf hf')
      rw [builderChooseJob_of_noReset h.toRequestTaken hn hc hf]
      refine ⟨answered_performCounted hn st s, fun _ hk st' hc' => ?_⟩
      obtain rfl : st = st' := congrArg Prod.snd (Option.some.inj (hc.symm.trans hc'))
      refine answered_performCounted_counters hn (fun ⟨hr, _⟩ => ?_) st s
      have hrow := h.row
      rw [Request.row, hr] at hrow
      cases hcl : r.clears with
      | false => rfl
      | true => exact absurd (by simpa [hcl] using hrow.symm) hk
  · obtain ⟨st, hc⟩ := h.agentClaim
    refine ⟨_, exec_of_taken h (.inl rfl), ?_⟩
    cases he : replayEntry r s.agent.replay with
    | some e =>
      have hs := answerReplay_served (d := d) r e (atExecution q qs st s)
      rw [builderChooseJob_of_replay h hc he]
      exact ⟨answerReplay_replied r e st s, fun hf => absurd (he.symm.trans hf) nofun, fun _ => rfl,
        hs.blocks⟩
    | none =>
      have hn := noReset_of_no_row hrow
      have ho : performCounted r (atExecution q qs st s) =
          .refuse (if r.preCheck = .ok then .badValue else r.preCheck) (countExecuted (atExecution q qs st s)) := by
        rw [performCounted_of_other (not_readsCounters_of_no_row hrow), perform_of_no_row hrow]
      have hcounters := answered_performCounted_counters (d := d) (q := q) (qs := qs) hn
        (fun hr => absurd hr (not_readsCounters_of_no_row hrow)) st s
      have hs : Served (atExecution q qs st s) (answered d r (performCounted r (atExecution q qs st s))) := by
        rw [ho]
        exact (Served.countExecuted (atExecution q qs st s)).trans (answered_served d r
          (.refuse (if r.preCheck = .ok then .badValue else r.preCheck) (countExecuted (atExecution q qs st s))))
      rw [builderChooseJob_of_noReset h hn hc he]
      refine ⟨answered_performCounted hn st s, fun _ => ⟨fun u => by rw [perform_of_no_row hrow]; rfl, ?_⟩,
        fun hf => absurd he hf, ?_⟩
      · rw [perform_of_no_row hrow, Done.refuse, if_neg (refuse_status_ne_ok r)] at hcounters
        exact hcounters
      · exact hs.blocks

end Sys2Proof.Machine
end

section
/-! FLUSH (R123, R137, R168): the queue that it names is emptied, and no other. -/

namespace Sys2Proof.Machine

/-! ### The fields of a FLUSH (12.2) -/

theorem classOf_ofNat (c : Cls) : classOf (BitVec.ofNat 8 c.val) = some c := by
  revert c; decide

theorem portOf_ofNat (p : PortIx) : portOf (BitVec.ofNat 8 p.val) = some p := by
  revert p; decide

theorem flushByte_of_row {r : Request} {k : RequestRow} (h : r.row = some k) :
    (k = .flushClassQueue → byteAt r.params 0 = 0x00) ∧ (k = .flushDeliveryQueue → byteAt r.params 0 = 0x01) := by
  have hr := (row_eq_some_iff r k).1 h
  have hk := kindOf_of_row h
  constructor
  · rintro rfl
    simpa [hk, RequestRow.kind] using hr
  · rintro rfl
    simpa [hk, RequestRow.kind] using hr

theorem performFlush_class {r : Request} {c : Cls} (h : r.row = some .flushClassQueue)
    (hc : byteAt r.params 1 = BitVec.ofNat 8 c.val) (s : State) :
    performFlush r s = .ok (emptyClassQueue c .flushed s) := by
  rw [performFlush, if_pos ((flushByte_of_row h).1 rfl), hc, classOf_ofNat]
  rfl

theorem performFlush_delivery {r : Request} {p : PortIx} (h : r.row = some .flushDeliveryQueue)
    (hp : byteAt r.params 1 = BitVec.ofNat 8 p.val) (s : State) : performFlush r s = .ok (emptyDelivery p s) := by
  have h1 := (flushByte_of_row h).2 rfl
  rw [performFlush, if_neg (by rw [h1]; decide), if_pos h1, hp, portOf_ofNat]
  rfl

/-! ### A class queue emptied (R123) -/

/-- A frame stands in one class queue: the others stay as they are. -/
theorem queue_emptyClassQueue_eq {s : State} (h : QueuesAgree s) (c k : Cls) (r : FailReason) :
    (emptyClassQueue c r s).store.queue k = if k = c then [] else s.store.queue k := by
  split
  · next hk => exact h.queue_emptyClassQueue c k r (.inl hk)
  · next hk =>
    have hq : (emptyClassQueue c r s).store.queue k = (s.store.queue k).diff (s.store.queue c) := (h.discards _ r).2 k
    rw [hq, (h.filed.nodup k).sdiff_eq_filter]
    refine List.filter_eq_self.2 fun e he => decide_eq_true fun hm => hk ?_
    exact Option.some.inj ((h.filed.cls k e he).symm.trans (h.filed.cls c e hm))

/-- From s to t every port has kept its delivery queue and its frame in sending. -/
def SendsAlike (s t : State) : Prop :=
  ∀ p, (t.port p).delivery = (s.port p).delivery ∧ (t.port p).sending = (s.port p).sending

/-- A failure reaches a port's framer and counters alone (R134, R140). -/
theorem sendsAlike_failFrame (d : DescId) (r : FailReason) (s : State) : SendsAlike s (failFrame d r s) := by
  intro k
  unfold failFrame
  split
  · unfold failAtPort
    split
    · next p _ =>
      rw [framerLoses, countPort, updPort_updPort, port_updPort]
      split
      · split <;> exact ⟨rfl, rfl⟩
      · exact ⟨rfl, rfl⟩
    all_goals exact ⟨rfl, rfl⟩
  · exact ⟨rfl, rfl⟩

theorem sendsAlike_emptyClassQueue (c : Cls) (r : FailReason) (s : State) : SendsAlike s (emptyClassQueue c r s) := by
  unfold emptyClassQueue
  generalize s.store.queue c = l
  induction l generalizing s with
  | nil => exact fun _ => ⟨rfl, rfl⟩
  | cons d l ih =>
    intro p
    obtain ⟨hd, hs⟩ := ih (discardQueued d r s) p
    obtain ⟨hd', hs'⟩ := sendsAlike_failFrame d r s p
    exact ⟨hd.trans hd', hs.trans hs'⟩

/-- A reply joins the tail of the management class queue (R164). -/
theorem queue_answered (d : DescId) (r : Request) (o : Done) (c : Cls) : (answered d r o).store.queue c =
    o.state.store.queue c ++ if c = o.state.agent.mgmtClass then [d] else [] := by
  have hs := (Served.countRefused o.status o.state).trans (Served.recordOutcome r o.status _)
  have hstore : (recordOutcome r o.status (countRefused o.status o.state)).store = o.state.store := by simp
  obtain ⟨bs, hb⟩ := reply_store d r o.status false false o.data
    (recordOutcome r o.status (countRefused o.status o.state))
  have hq : ((recordOutcome r o.status (countRefused o.status o.state)).store.build d bs).queue c =
      o.state.store.queue c := by
    rw [hstore, FrameStore.queue, (o.state.store.build_frame d bs).1, FrameStore.queue]
  rw [answered, hb, FrameStore.admitTail_queue, hq, hs.mgmtClass]
  by_cases hc : c = o.state.agent.mgmtClass
  · rw [if_pos hc.symm, if_pos hc]
  · rw [if_neg (Ne.symm hc), if_neg hc, List.append_nil]

section
variable {q d : DescId} {qs : List DescId} {r : Request} {s : State}

/-- The class queues at the execution are those of before (R163). -/
theorem queue_performedIn {n : Nat} {st : FrameStore} (hc : s.store.agentClaim n = some (d, st)) (c : Cls) :
    (performedIn q qs st s).store.queue c = s.store.queue c := by
  obtain ⟨-, -, -, -, hq⟩ := agentClaim_some hc
  change (st.dropRef q).queue c = _
  rw [FrameStore.queue, (FrameStore.dropRef_frame _ _).2, hq, FrameStore.queue]

theorem flushClassQueue_empties (hs : StoreOk s) (h : RequestReady .flushClassQueue q d qs r s) (hf : Fresh r s)
    (hp : r.preCheck = .ok) {c : Cls} (hc : byteAt r.params 1 = BitVec.ofNat 8 c.val) :
    ∃ t, exec .flushClassQueue s = .next t ∧ Replied d qs s t ∧ t.il.stack = s.il.stack ∧
      (∀ c', t.store.queue c' = (if c' = c then [] else s.store.queue c') ++
        (if c' = s.agent.mgmtClass then [d] else [])) ∧
      ∀ p, (t.port p).delivery = (s.port p).delivery ∧ (t.port p).sending = (s.port p).sending := by
  obtain ⟨st, hst, hexec⟩ := exec_of_passed h hf hp nofun nofun
  have ho : performKind RequestRow.flushClassQueue.kind r (performedIn q qs st s) =
      .ok (emptyClassQueue c .flushed (performedIn q qs st s)) := performFlush_class h.row hc _
  rw [ho] at hexec
  have hserved := answered_served d r (.ok (emptyClassQueue c .flushed (performedIn q qs st s)))
  have hagree : QueuesAgree (performedIn q qs st s) := (queuesAgree_atExecution hs h.toRequestTaken hst).congr rfl rfl
  refine ⟨_, hexec, performedIn_replied (q := q) (st := st) (by simp [Done.ok]), ?_, fun c' => ?_, fun p => ?_⟩
  · rw [hserved.il]
    exact emptyClassQueue_stack c .flushed _
  · rw [queue_answered]
    simp only [Done.ok, queue_emptyClassQueue_eq hagree, queue_performedIn hst, emptyClassQueue_frame]
    rfl
  · have hport : (answered d r (.ok (emptyClassQueue c .flushed (performedIn q qs st s)))).port p =
        (emptyClassQueue c .flushed (performedIn q qs st s)).port p := by
      rw [State.port, hserved.ports]
      rfl
    rw [hport]
    exact sendsAlike_emptyClassQueue c .flushed (performedIn q qs st s) p

/-- The delivery queue of port p is emptied, and the rest of the ports is kept (R137). -/
theorem flushDeliveryQueue_empties (h : RequestReady .flushDeliveryQueue q d qs r s) (hf : Fresh r s)
    (hp : r.preCheck = .ok) {p : PortIx} (hb : byteAt r.params 1 = BitVec.ofNat 8 p.val) :
    ∃ t, exec .flushDeliveryQueue s = .next t ∧ Replied d qs s t ∧ t.il = s.il ∧
      ∀ p', (t.port p').delivery = (if p' = p then [] else (s.port p').delivery) ∧
        (t.port p').sending = (s.port p').sending ∧ (t.port p').counters = (s.port p').counters := by
  obtain ⟨st, hst, hexec⟩ := exec_of_passed h hf hp nofun nofun
  have ho : performKind RequestRow.flushDeliveryQueue.kind r (performedIn q qs st s) =
      .ok (emptyDelivery p (performedIn q qs st s)) := performFlush_delivery h.row hb _
  rw [ho] at hexec
  have hserved := answered_served d r (.ok (emptyDelivery p (performedIn q qs st s)))
  refine ⟨_, hexec, performedIn_replied (q := q) (st := st) (by simp [Done.ok]), ?_, fun k => ?_⟩
  · rw [hserved.il]
    simp [Done.ok]
    rfl
  · have hport : (answered d r (.ok (emptyDelivery p (performedIn q qs st s)))).port k =
        (emptyDelivery p (performedIn q qs st s)).port k := by
      rw [State.port, hserved.ports]
      rfl
    rw [hport]
    by_cases hk : k = p
    · rw [hk, port_emptyDelivery, if_pos rfl]
      exact ⟨rfl, rfl, rfl⟩
    · rw [port_emptyDelivery_of_ne (Ne.symm hk), if_neg hk]
      exact ⟨rfl, rfl, rfl⟩

end

/-- Settles O51, by the two queues that a FLUSH can name. -/
theorem flushEmptiesItsQueue : Obligations.FlushEmptiesItsQueue := by
  intro k q d qs r s hs h hf hp
  refine ⟨fun c hk hc => ?_, fun p hk hb => ?_⟩
  · subst hk
    exact flushClassQueue_empties hs h hf hp hc
  · subst hk
    exact flushDeliveryQueue_empties h hf hp hb

end Sys2Proof.Machine
end

section
/-! What keeps the ports sound: a receiver's runs below the lengths that report, nothing at a port that is not serving,
and no delivery queue above its limit (R127, R136, R138, R139, R185). -/

namespace Sys2Proof.Machine

/-! ### A sound port -/

/-- The port has no frame in reception, nothing to deliver, nothing in sending and no mark pending. -/
def Port.Quiet (q : Port) : Prop :=
  q.framer.state = .idle ∧ q.framer.desc = none ∧ q.framer.gap = 0 ∧ q.delivery = [] ∧ q.sending = none ∧
    q.markPending = false ∧ q.displaced = none

/-- What LinesOk and PortsOk say of one port. -/
def Port.Sound (q : Port) : Prop :=
  q.rx.ok = true ∧ (q.serving = false → q.Quiet) ∧ q.delivery.length ≤ Config.deliveryLimit

/-- LinesOk and PortsOk, port by port. -/
def LinesAndPortsOk (s : State) : Prop := s.trunkRx.ok = true ∧ ∀ p, (s.port p).Sound

theorem linesAndPortsOk_iff (s : State) : LinesAndPortsOk s ↔ LinesOk s ∧ PortsOk s :=
  ⟨fun ⟨ht, hp⟩ => ⟨⟨ht, fun p => (hp p).1⟩, fun p => (hp p).2⟩, fun ⟨⟨ht, hl⟩, hp⟩ => ⟨ht, fun p => ⟨hl p, hp p⟩⟩⟩

/-! #### The receiver's runs (R185) -/

theorem LineRx.ok_report (up : Bool) : (LineRx.report up).ok = true := by cases up <;> rfl

section
variable {r : LineRx}

theorem LineRx.ok_of_up (hu : r.up = true) : r.ok = true ↔ r.failedRun < Config.downRun ∧ r.decodedRun = 0 := by
  simp [ok, hu]

theorem LineRx.ok_of_down (hu : r.up = false) : r.ok = true ↔ r.failedRun = 0 ∧ r.decodedRun < Config.upRun := by
  simp [ok, hu]

/-- A handled word begins the run of failures again. -/
theorem LineRx.ok_heard (h : r.ok = true) : ({ r with failedRun := 0 } : LineRx).ok = true := by
  rcases Bool.eq_false_or_eq_true r.up with hu | hu
  · obtain ⟨-, hd⟩ := (ok_of_up hu).1 h
    exact (ok_of_up (by exact hu)).2 ⟨Nat.zero_lt_succ 15, hd⟩
  · obtain ⟨-, hd⟩ := (ok_of_down hu).1 h
    exact (ok_of_down (by exact hu)).2 ⟨rfl, hd⟩

/-- A failed word on a DOWN line begins the run of decoded words again. -/
theorem LineRx.ok_missed (hu : r.up = false) (h : r.ok = true) : ({ r with decodedRun := 0 } : LineRx).ok = true := by
  obtain ⟨hf, -⟩ := (ok_of_down hu).1 h
  exact (ok_of_down (by exact hu)).2 ⟨hf, Nat.zero_lt_succ 63⟩

/-- A failure below the 16th. -/
theorem LineRx.ok_failed (hu : r.up = true) (h : r.ok = true) (hf : ¬ 16 ≤ r.failedRun + 1) : r.failed.ok = true := by
  obtain ⟨-, hd⟩ := (ok_of_up hu).1 h
  exact (ok_of_up (by exact hu)).2 ⟨Nat.lt_of_not_le hf, hd⟩

/-- A decoded word below the 64th. -/
theorem LineRx.ok_decoded (hu : r.up = false) (h : r.ok = true) (hd : ¬ 64 ≤ r.decodedRun + 1) :
    ({ r with decodedRun := r.decodedRun + 1 } : LineRx).ok = true := by
  obtain ⟨hf, -⟩ := (ok_of_down hu).1 h
  exact (ok_of_down (by exact hu)).2 ⟨hf, Nat.lt_of_not_le hd⟩

end

namespace Port.Sound
variable {q q' : Port}

theorem line (h : q.Sound) : q.rx.ok = true := by
  obtain ⟨hx, -⟩ := h
  exact hx

theorem delivery (h : q.Sound) : q.delivery.length ≤ Config.deliveryLimit := by
  obtain ⟨-, -, hd⟩ := h
  exact hd

/-- A port with a frame in reception is serving. -/
theorem serving_of_desc (h : q.Sound) {d : DescId} (hd : q.framer.desc = some d) : q.serving = true := by
  obtain ⟨-, hq, -⟩ := h
  cases hs : q.serving with
  | true => rfl
  | false =>
    obtain ⟨-, hn, -⟩ := hq hs
    rw [hn] at hd
    cases hd

/-- At a serving port no more is asked than a sound line and a short queue. -/
theorem of_serving (hs : q.serving = true) (hx : q.rx.ok = true) (hd : q.delivery.length ≤ Config.deliveryLimit) :
    q.Sound := ⟨hx, fun hn => absurd (hs.symm.trans hn) nofun, hd⟩

/-- A receiver's runs change below a report. -/
theorem updRx (h : q.Sound) {r : LineRx} (hu : r.up = q.rx.up) (hr : r.ok = true) :
    ({ q with rx := r } : Port).Sound := by
  obtain ⟨-, hq, hd⟩ := h
  refine ⟨hr, fun hn => hq ?_, hd⟩
  rw [← hn, Port.serving, Port.serving, ← hu]

/-- A frame in reception is lost. -/
theorem loses (h : q.Sound) {d : DescId} (hd : q.framer.desc = some d) (y : FramerState) :
    ({ q with framer := q.framer.freed y } : Port).Sound := of_serving (h.serving_of_desc hd) h.line h.delivery

theorem markBoundary (h : q.Sound) : q.markBoundary.Sound := by
  unfold Port.markBoundary
  split
  · next hm => exact of_serving (Bool.and_eq_true_iff.1 hm).2 h.line h.delivery
  · exact h

/-- A delivery queue is emptied. -/
theorem emptied (h : q.Sound) : ({ q with delivery := [] } : Port).Sound := by
  obtain ⟨hx, hq, -⟩ := h
  refine ⟨hx, fun hn => ?_, Nat.zero_le _⟩
  obtain ⟨hy, hd, hg, -, hrest⟩ := hq hn
  exact ⟨hy, hd, hg, rfl, hrest⟩

theorem cleared (h : q.Sound) : q.cleared.Sound := by
  obtain ⟨hx, hq, -⟩ := h
  refine ⟨hx, fun hn => ?_, Nat.zero_le _⟩
  obtain ⟨hy, hd, hg, -⟩ := hq hn
  exact ⟨hy, hd, hg, rfl, rfl, rfl, rfl⟩

end Port.Sound

/-! ### Steps that keep every port sound -/

/-- Each port that is sound in s is sound in t. -/
def KeepsPorts (s t : State) : Prop := ∀ p, (s.port p).Sound → (t.port p).Sound

namespace KeepsPorts
variable {s t u : State}

theorem refl (s : State) : KeepsPorts s s := fun _ h => h

theorem trans (h : KeepsPorts s t) (h' : KeepsPorts t u) : KeepsPorts s u := fun p hp => h' p (h p hp)

theorem of_ports (h : t.ports = s.ports) : KeepsPorts s t := fun p hp => by rwa [State.port, h]

theorem updPort {f : Port → Port} {p : PortIx} (hf : (s.port p).Sound → (f (s.port p)).Sound) :
    KeepsPorts s (s.updPort p f) := fun k hk => by
  rw [port_updPort]
  split
  · next h =>
    subst h
    exact hf hk
  · exact hk

theorem foldl {α : Type} {f : State → α → State} (hf : ∀ s a, KeepsPorts s (f s a)) (l : List α) (s : State) :
    KeepsPorts s (l.foldl f s) := by
  induction l generalizing s with
  | nil => exact refl s
  | cons a l ih => exact (hf s a).trans (ih _)

theorem countPort (p : PortIx) (f : PortCounters → PortCounters) (s : State) : KeepsPorts s (countPort p f s) :=
  updPort fun h => h

theorem txSend (p : PortIx) (y : TribSymbol) (s : State) : KeepsPorts s (txSend p y s) := updPort fun h => h

/-- A failure takes its frame from a framer that has it, and so is at a serving port (R134). -/
theorem framerLoses (p : PortIx) (d : DescId) (s : State) : KeepsPorts s (framerLoses p d s) := by
  refine updPort fun h => ?_
  split
  · next hd => exact h.loses hd .discard
  · exact h

theorem failFrame (d : DescId) (r : FailReason) (s : State) : KeepsPorts s (failFrame d r s) := by
  have hs : KeepsPorts s (s.updStore (FrameStore.fail d r)) := of_ports rfl
  unfold Machine.failFrame
  split
  · unfold failAtPort
    split
    · exact hs.trans ((countPort _ _ _).trans (framerLoses _ _ _))
    all_goals exact hs
  · exact refl s

theorem discardQueued (r : FailReason) (s : State) (d : DescId) : KeepsPorts s (discardQueued d r s) :=
  (failFrame d r s).trans (of_ports rfl)

theorem emptyClassQueue (r : FailReason) (s : State) (c : Cls) : KeepsPorts s (emptyClassQueue c r s) :=
  foldl (discardQueued r) _ s

theorem emptyDelivery (p : PortIx) (s : State) : KeepsPorts s (emptyDelivery p s) := fun k hk => by
  by_cases h : p = k
  · subst h
    rw [port_emptyDelivery]
    exact hk.emptied
  · rwa [port_emptyDelivery_of_ne h]

theorem portTrafficReset (s : State) (p : PortIx) : KeepsPorts s (portTrafficReset p s) := fun k hk => by
  rw [port_portTrafficReset]
  split
  · exact hk.cleared
  · exact hk

/-- A frame is offered to a serving port with room alone (R136). -/
theorem offer (d : DescId) (s : State) (p : PortIx) : KeepsPorts s (offer d p s) := by
  unfold Machine.offer
  split
  · next hr =>
    obtain ⟨hs, hl⟩ := Bool.and_eq_true_iff.1 hr
    have hqueued : KeepsPorts s (s.updPort p fun q => { q with delivery := q.delivery ++ [d] }) := by
      refine updPort fun h => .of_serving hs h.line ?_
      rw [List.length_append]
      exact of_decide_eq_true hl
    exact hqueued.trans (of_ports rfl)
  · exact countPort p _ s

theorem offerAll (d : DescId) (m : PortSet) (s : State) : KeepsPorts s (offerAll d m s) :=
  (foldl (offer d) _ s).trans (of_ports rfl)

/-! #### Boundaries and marks (R54, R139) -/

theorem boundary (b : Bool) (s : State) : KeepsPorts s (boundary b s) := fun p hp => by
  have h : (Machine.boundary b s).port p = (s.port p).markBoundary := by
    rw [boundary_eq]
    exact vget_mapPorts ..
  rw [h]
  exact hp.markBoundary

theorem beginSlot (s : State) : KeepsPorts s (beginSlot s) := by
  unfold Machine.beginSlot
  split
  · exact refl s
  · split
    · exact boundary true (s.updSched _)
    · exact of_ports rfl

theorem restartWithBoundary (s : State) : KeepsPorts s (restartWithBoundary s) := by
  unfold Machine.restartWithBoundary
  split
  · exact refl s
  · exact boundary false s

theorem takeMark (s : State) : KeepsPorts s (takeMark s) := by
  have haccept : KeepsPorts s (acceptAnywhere s) := restartWithBoundary (countMark _ (s.updAlign Align.accepted))
  unfold Machine.takeMark
  split
  · exact refl s
  · exact haccept
  · unfold markLocked
    split
    · exact of_ports rfl
    · exact restartWithBoundary (countMark _ (s.updAlign Align.accepted))
    · exact of_ports rfl
    · exact of_ports (by simp)
  · exact haccept

theorem markArrives (s : State) : KeepsPorts s (markArrives s) := by
  unfold Machine.markArrives
  split
  · exact refl s
  · exact ((beginSlot s).trans (takeMark _)).trans (of_ports (by simp))

/-! #### The trunk slot (R20, R24, R67) -/

theorem examineQueue (c : Cls) (ds : List DescId) (s : State) : KeepsPorts s (examineQueue c ds s).1 := by
  induction ds generalizing s with
  | nil => exact refl s
  | cons d ds ih =>
    rcases examineQueue_cons c d ds s with ⟨y, e, -⟩ | e <;> rw [e]
    · exact refl s
    · exact ((discardQueued .unfit s d).trans (of_ports rfl)).trans (ih (unfitDiscard c d s))

theorem arbitrate (cs : List Cls) (s : State) : KeepsPorts s (arbitrate cs s).1 := by
  induction cs generalizing s with
  | nil => exact refl s
  | cons c cs ih =>
    have hx := examineQueue c (s.store.queue c) s
    rcases arbitrate_cons c cs s with e | ⟨t, us, x, he, e⟩ | ⟨t, us, he, e⟩ <;> rw [e]
    · exact ih s
    · rwa [he] at hx
    · rw [he] at hx
      exact hx.trans (ih t)

theorem arbiter {us : List Cls} {x : Option Candidate} (h : arbiter s = (t, us, x)) : KeepsPorts s t := by
  have ha := arbitrate [0, 1, 2, 3, 4, 5] s
  rw [← Machine.arbiter, h] at ha
  exact ha

theorem continueTop (e : StackEntry) (s : State) : KeepsPorts s (continueTop e s).1 := by
  unfold Machine.continueTop
  split
  · exact of_ports (by simp)
  · split
    · exact of_ports (by simp)
    · split
      · exact trans (of_ports (by simp)) (failFrame e.desc .trunkStall (fillTop e s))
      · exact of_ports (by simp)

theorem decideActive (e : StackEntry) (s : State) : KeepsPorts s (decideActive e s).1 := by
  unfold Machine.decideActive
  split
  · split
    · next hx => exact (arbiter hx).trans (of_ports (by simp))
    · next hx =>
      split
      · exact (arbiter hx).trans (continueTop e _)
      · exact (arbiter hx).trans (of_ports (by simp))
  · exact continueTop e s

theorem decideIdle (s : State) : KeepsPorts s (decideIdle s).1 := by
  have hg : KeepsPorts s (gateTop s) := of_ports (by simp)
  unfold Machine.decideIdle
  split
  · next hx => exact (hg.trans (arbiter hx)).trans (of_ports (by simp))
  · next hx => exact (hg.trans (arbiter hx)).trans (of_ports (by simp))

theorem decide20 (s : State) : KeepsPorts s (decide20 s).1 := by
  unfold Machine.decide20
  split
  · exact of_ports (by simp)
  · split
    · exact decideIdle s
    · split
      · split
        · exact of_ports (by simp)
        · exact decideActive _ s
      · split
        · exact of_ports (by simp)
        · exact decideIdle s

theorem decideSlot (s : State) : KeepsPorts s (decideSlot s).1 := by
  unfold Machine.decideSlot
  dsimp only
  split
  · exact (trans (of_ports (by simp)) (decide20 (countOverrun (overrunClass s) s))).trans (of_ports rfl)
  · exact of_ports rfl

/-! #### Trunk reception (R99, R100) -/

theorem judgeFrame {f : DescId → State → State} (hf : ∀ d s, KeepsPorts s (f d s)) (c : Cls) (s : State) :
    KeepsPorts s (judgeFrame c f s) := by
  unfold Machine.judgeFrame
  split
  · exact of_ports (by simp)
  · split
    · exact of_ports (by simp)
    · unfold acceptFrame
      split
      · exact of_ports rfl
      · exact hf _ (countRx _ (setContext c Context.closed (s.updStore _)))

theorem rxCloseFrame (c : Cls) (s : State) : KeepsPorts s (rxCloseFrame c s) := by
  unfold Machine.rxCloseFrame
  split
  · exact of_ports (by simp)
  · exact of_ports (by simp)
  · exact judgeFrame (fun d s => offerAll d _ s) c s
  · exact judgeFrame (fun d s => of_ports (by simp)) c s

theorem rxSymbol (y : TrunkSymbol) (s : State) : KeepsPorts s (rxSymbol y s) := by
  unfold Machine.rxSymbol
  split
  · unfold rxInResync
    split
    · exact of_ports (by simp)
    all_goals exact refl s
  · unfold rxInNormal
    split
    · exact of_ports (by simp)
    · unfold actOn
      split
      · exact of_ports (by simp)
      · exact of_ports (by simp)
      · exact rxCloseFrame _ (s.updRx _)
      · exact of_ports (by simp)
      all_goals exact of_ports rfl

end KeepsPorts

end Sys2Proof.Machine
end

section
/-! Every step keeps the receivers' runs short, the delivery queues within their limit, and a port that is not serving
quiet (R127, R136, R138, R139, R185). -/

namespace Sys2Proof.Machine

/-! ### Steps of one port (R128 to R134, R138) -/

/-- From s to t port p has kept its line and its configuration, its delivery queue has not grown, and the other ports
stay sound. -/
def ActsAt (p : PortIx) (s t : State) : Prop :=
  (t.port p).config = (s.port p).config ∧ (t.port p).rx = (s.port p).rx ∧
    (t.port p).delivery.length ≤ (s.port p).delivery.length ∧ ∀ k, p ≠ k → (s.port k).Sound → (t.port k).Sound

namespace ActsAt
variable {p : PortIx} {s t u : State}

theorem of_ports (h : t.ports = s.ports) : ActsAt p s t := by
  have hp : ∀ k, t.port k = s.port k := fun k => by rw [State.port, h, State.port]
  exact ⟨by rw [hp], by rw [hp], by rw [hp], fun k _ hk => by rwa [hp]⟩

theorem refl (s : State) : ActsAt p s s := of_ports rfl

theorem trans (h : ActsAt p s t) (h' : ActsAt p t u) : ActsAt p s u := by
  obtain ⟨hc, hx, hd, ho⟩ := h
  obtain ⟨hc', hx', hd', ho'⟩ := h'
  exact ⟨hc'.trans hc, hx'.trans hx, hd'.trans hd, fun k hk hs => ho' k hk (ho k hk hs)⟩

theorem raise (e : Notice) (s : State) : ActsAt p s (raise e s) := of_ports (by simp)

theorem updPort {f : Port → Port} (hc : (f (s.port p)).config = (s.port p).config)
    (hx : (f (s.port p)).rx = (s.port p).rx)
    (hd : (f (s.port p)).delivery.length ≤ (s.port p).delivery.length) : ActsAt p s (s.updPort p f) := by
  unfold ActsAt
  rw [port_updPort_self]
  exact ⟨hc, hx, hd, fun k hk hs => by rwa [port_updPort, if_neg hk]⟩

theorem updFramer (f : Framer → Framer) (s : State) : ActsAt p s (updFramer p f s) := updPort rfl rfl le_rfl

theorem countPort (f : PortCounters → PortCounters) (s : State) : ActsAt p s (countPort p f s) := updPort rfl rfl le_rfl

theorem txSend (y : TribSymbol) (s : State) : ActsAt p s (txSend p y s) := updPort rfl rfl le_rfl

theorem failFrame (d : DescId) (r : FailReason) (s : State) : ActsAt p s (failFrame d r s) := by
  obtain ⟨hc, hx⟩ := LinesKept.failFrame d r s p
  obtain ⟨hd, -⟩ := sendsAlike_failFrame d r s p
  exact ⟨hc, hx, by rw [hd], fun k _ hk => KeepsPorts.failFrame d r s k hk⟩

theorem others (h : ActsAt p s t) {k : PortIx} (hk : p ≠ k) (hs : (s.port k).Sound) : (t.port k).Sound := by
  obtain ⟨-, -, -, ho⟩ := h
  exact ho k hk hs

/-- The port itself is sound afterwards if it is serving. -/
theorem keeps_of_serving (h : ActsAt p s t) (hs : (s.port p).serving = true) : KeepsPorts s t := fun k hk => by
  by_cases hp : p = k
  · subst hp
    obtain ⟨hc, hx, hd, -⟩ := h
    refine .of_serving ?_ (hx ▸ hk.line) (hd.trans hk.delivery)
    rw [Port.serving, hc, hx]
    exact hs
  · exact h.others hp hk

/-! #### The receive framer -/

theorem framerFails (r : FailReason) (y : FramerState) (s : State) : ActsAt p s (framerFails p r y s) := by
  unfold Machine.framerFails
  split
  · exact refl s
  · exact (failFrame _ r s).trans (updFramer _ _)

theorem framerBegin (s : State) : ActsAt p s (framerBegin p s) := by
  unfold Machine.framerBegin
  split
  · exact updFramer _ (s.updStore _)
  · exact ((updFramer _ s).trans (countPort _ _)).trans (raise _ _)

theorem framerRelinquishes (d : DescId) (f : PortCounters → PortCounters) (s : State) :
    ActsAt p s (framerRelinquishes p d f s) := (updFramer _ (s.updStore _)).trans (countPort f _)

theorem framerAdmit (d : DescId) (c : Cls) (s : State) : ActsAt p s (framerAdmit p d c s) := by
  unfold Machine.framerAdmit
  split
  · exact framerRelinquishes d _ s
  · exact updFramer _ (s.updStore _)

theorem tribHeaderComplete (d : DescId) (s : State) : ActsAt p s (tribHeaderComplete p d s) := by
  unfold Machine.tribHeaderComplete
  dsimp only
  split
  · exact framerRelinquishes d _ (s.updStore _)
  · split
    · exact framerRelinquishes d _ (s.updStore _)
    · split
      · exact framerRelinquishes d _ ((s.updStore _).updClassifier _)
      · exact framerAdmit d _ ((s.updStore _).updClassifier _)

theorem framerByte (d : DescId) (b : Byte) (s : State) : ActsAt p s (framerByte p d b s) := by
  unfold Machine.framerByte
  split
  · exact framerFails .overlong .discard s
  · split
    · exact (framerFails .noStore .discard s).trans (raise _ _)
    · dsimp only
      split
      · exact (updFramer _ (s.updStore _)).trans (tribHeaderComplete d _)
      · exact updFramer _ (s.updStore _)

theorem framerEnd (d : DescId) (s : State) : ActsAt p s (framerEnd p d s) := by
  unfold Machine.framerEnd
  split
  · exact framerFails .short .idle s
  · split
    · exact framerFails .badCrc .idle s
    · exact (updFramer _ (s.updStore _)).trans (countPort _ _)

theorem idleSlot (s : State) : ActsAt p s (idleSlot p s) := by
  unfold Machine.idleSlot
  split
  · exact framerFails .stall .idle s
  · split
    · exact updFramer _ s
    · exact refl s

theorem framerSymbol (y : TribSymbol) (s : State) : ActsAt p s (framerSymbol p y s) := by
  unfold Machine.framerSymbol
  split
  · exact refl s
  · exact framerBegin s
  · exact (framerFails .short .discard s).trans (framerBegin _)
  · exact refl s
  · split
    · exact refl s
    · exact framerByte _ _ s
  · exact updFramer _ s
  · split
    · exact refl s
    · exact framerEnd _ s
  · exact updFramer _ s
  · exact framerFails .stationAbort .idle s
  · exact (idleSlot s).trans (of_ports (by simp))

/-! #### The transmitter -/

theorem txNext (p : PortIx) (s : State) : ActsAt p s (txNext p s).1 := by
  unfold Machine.txNext
  split
  · exact refl s
  · unfold txChoose
    split
    · exact refl s
    · exact refl s
    · next d ds _ hq => exact updPort rfl rfl (by rw [hq]; exact Nat.le_succ _)

theorem txSent (y : TribSymbol) (s : State) : ActsAt p s (txSent p y s) := by
  unfold Machine.txSent
  split
  · exact updPort rfl rfl le_rfl
  · next x _ =>
    have hends : ActsAt p s (s.updPort p fun q => { q with sending := none }) := updPort rfl rfl le_rfl
    exact (hends.trans (of_ports rfl)).trans (countPort _ (dropRefs [x.desc] (s.updPort p _)))
  all_goals exact refl s

theorem txServe (p : PortIx) (s : State) : ActsAt p s (txServe p s) := by
  have hn := txNext p s
  unfold Machine.txServe
  dsimp only
  split
  · have hmark : ∀ t : State, ActsAt p t (t.updPort p fun q =>
        { q with markPending := false, displaced := some (Machine.txNext p s).2 }) := fun t => updPort rfl rfl le_rfl
    exact (hn.trans (hmark _)).trans (txSend _ _)
  · have hfree : ∀ t : State, ActsAt p t (t.updPort p fun q => { q with displaced := none }) :=
      fun t => updPort rfl rfl le_rfl
    exact ((hn.trans (hfree _)).trans (txSent _ _)).trans (txSend _ _)

end ActsAt

/-! ### A port that starts or stops serving (R127) -/

theorem port_stopServing_other {p k : PortIx} (h : p ≠ k) (s : State) :
    (stopServing p s).port k = (receptionEnded p s).port k := by
  rw [stopServing_eq, port_abandonSending_of_ne h, port_emptyDelivery_of_ne h, updFramer, port_updPort, if_neg h]

/-- A port that has stopped is quiet, whatever it held (R127, R135, R137 to R139). -/
theorem sound_stopServing {p : PortIx} {s : State} (hx : (s.port p).rx.ok = true) :
    ((stopServing p s).port p).Sound := by
  obtain ⟨-, hrx⟩ := LinesKept.receptionEnded p s p
  rw [port_stopServing]
  exact ⟨(congrArg LineRx.ok hrx).trans hx, fun _ => ⟨rfl, rfl, rfl, rfl, rfl, rfl, rfl⟩, Nat.zero_le _⟩

namespace KeepsPorts
variable {s : State}

/-- A frame in reception stands at a serving port, which it leaves sound. -/
theorem framerFails (p : PortIx) (r : FailReason) (y : FramerState) (s : State) :
    KeepsPorts s (framerFails p r y s) := fun k hk => by
  by_cases hp : p = k
  · subst hp
    cases hd : (s.framer p).desc with
    | none => rwa [Machine.framerFails, hd]
    | some d => exact (ActsAt.framerFails r y s).keeps_of_serving (hk.serving_of_desc hd) p hk
  · exact (ActsAt.framerFails r y s).others hp hk

theorem stopServing_others {p k : PortIx} (h : p ≠ k) (hk : (s.port k).Sound) : ((stopServing p s).port k).Sound := by
  rw [port_stopServing_other h]
  unfold receptionEnded
  split
  · exact (ActsAt.framerFails .lineDown .idle s).others h hk
  · exact hk

theorem changePort_others {p k : PortIx} {f : Port → Port} (h : p ≠ k) (hk : (s.port k).Sound) :
    ((changePort p f s).port k).Sound := by
  have hstays : ((s.updPort p f).port k).Sound := by rwa [port_updPort, if_neg h]
  unfold Machine.changePort
  dsimp only
  split
  · exact stopServing_others h hstays
  · rw [startServing, updFramer, port_updPort, if_neg h]
    exact hstays
  · exact hstays
  · exact hstays

/-- A change of a port's line or configuration, with what it makes of its serving (R127). -/
theorem changePort {p : PortIx} {f : Port → Port} (hx : ∀ q, q.rx.ok = true → (f q).rx.ok = true)
    (hd : ∀ q, (f q).delivery = q.delivery) (hq : ∀ q, q.Quiet → (f q).Quiet) (s : State) :
    KeepsPorts s (changePort p f s) := fun k hk => by
  by_cases h : p = k
  · subst h
    have hself : (s.updPort p f).port p = f (s.port p) := port_updPort_self ..
    obtain ⟨hline, hquiet, hshort⟩ := hk
    have hok := hx _ hline
    rw [← hd] at hshort
    cases hb : (s.port p).serving <;> cases ha : (f (s.port p)).serving
    case false.false =>
      rw [changePort_stays (ha.trans hb.symm), hself]
      exact ⟨hok, fun _ => hq _ (hquiet hb), hshort⟩
    case false.true =>
      rw [changePort_starts hb ha, startServing, updFramer, port_updPort_self, hself]
      exact .of_serving ha hok hshort
    case true.false =>
      rw [changePort_stops hb ha]
      exact sound_stopServing (by rwa [hself])
    case true.true =>
      rw [changePort_stays (ha.trans hb.symm), hself]
      exact .of_serving ha hok hshort
  · exact changePort_others h hk

/-- A report of a line. -/
theorem report (p : PortIx) (up : Bool) (s : State) :
    KeepsPorts s (Machine.changePort p (fun q => { q with rx := LineRx.report up }) s) :=
  changePort (f := fun q => { q with rx := LineRx.report up }) (fun _ _ => LineRx.ok_report up) (fun _ => rfl)
    (fun _ h => h) s

theorem configurePort (p : PortIx) (c : PortConfig) (s : State) : KeepsPorts s (configurePort p c s) :=
  changePort (f := fun q => { q with config := c }) (fun _ h => h) (fun _ => rfl) (fun _ h => h) s

theorem raise (e : Notice) (s : State) : KeepsPorts s (raise e s) := of_ports (by simp)

theorem raiseAll (es : List Notice) (s : State) : KeepsPorts s (raiseAll es s) := of_ports (by simp)

theorem tributaryFalls (p : PortIx) (s : State) : KeepsPorts s (tributaryFalls p s) := report p false s

theorem tributaryDown (p : PortIx) (s : State) : KeepsPorts s (tributaryDown p s) := by
  unfold Machine.tributaryDown
  split
  · exact (tributaryFalls p s).trans (raise _ _)
  · exact refl s

theorem tributaryUp (p : PortIx) (s : State) : KeepsPorts s (tributaryUp p s) := by
  unfold Machine.tributaryUp
  split
  · exact refl s
  · exact (report p true s).trans (raise _ _)

/-! ### A slot of a tributary (R129 to R133, R138, R139, R185) -/

theorem tribSymbol (p : PortIx) (y : TribSymbol) (s : State) : KeepsPorts s (tribSymbol p y s) := by
  unfold Machine.tribSymbol
  split
  · next hs => exact (ActsAt.framerSymbol y s).keeps_of_serving hs
  · exact refl s

theorem idleSlot (p : PortIx) (s : State) : KeepsPorts s (idleSlot p s) := by
  cases hs : (s.port p).serving with
  | true => exact (ActsAt.idleSlot s).keeps_of_serving hs
  | false => exact of_ports (by simp [Machine.idleSlot, stallDueAt, hs])

theorem tribTxSlot (p : PortIx) (s : State) : KeepsPorts s (tribTxSlot p s) := by
  unfold Machine.tribTxSlot
  split
  · next hs => exact (ActsAt.txServe p s).keeps_of_serving hs
  · exact txSend p .idle s

/-- A receiver's runs change below a report. -/
theorem updPortRx {p : PortIx} {f : LineRx → LineRx} (hu : (f (s.port p).rx).up = (s.port p).rx.up)
    (hf : (s.port p).rx.ok = true → (f (s.port p).rx).ok = true) : KeepsPorts s (updPortRx p f s) :=
  updPort fun h => h.updRx hu (hf h.line)

theorem tribDecoded (p : PortIx) (y : TribSymbol) (s : State) : KeepsPorts s (tribDecoded p y s) := by
  cases hu : (s.port p).rx.up with
  | true =>
    rw [Machine.tribDecoded, if_pos hu]
    exact (tribSymbol p y s).trans (updPortRx (f := fun r => { r with failedRun := 0 }) rfl LineRx.ok_heard)
  | false =>
    rw [tribDecoded_of_down hu]
    split
    · rw [← tributaryUp_of_down hu]
      exact tributaryUp p s
    · next hd => exact updPort fun h => h.updRx rfl (LineRx.ok_decoded hu h.line hd)

theorem tribFailed (p : PortIx) (s : State) : KeepsPorts s (tribFailed p s) := by
  cases hu : (s.port p).rx.up with
  | true =>
    rw [tribFailed_of_up hu]
    split
    · exact ((idleSlot p s).trans (tributaryFalls p _)).trans (raiseAll _ _)
    · next hf =>
      obtain ⟨-, hx⟩ := LinesKept.idleSlot p s p
      have hcounted : KeepsPorts (Machine.idleSlot p s) (Machine.updPortRx p LineRx.failed (Machine.idleSlot p s)) :=
        updPortRx rfl fun h => LineRx.ok_failed (by rw [hx]; exact hu) h (by rw [hx]; exact hf)
      exact ((idleSlot p s).trans hcounted).trans (raiseAll _ _)
  | false =>
    rw [Machine.tribFailed, if_neg (by simp [hu])]
    exact updPortRx (f := fun r => { r with decodedRun := 0 }) rfl (LineRx.ok_missed hu)

/-! ### The execution of a request (R126, R135, R137, R166 to R173) -/

theorem framerTrafficReset (s : State) (p : PortIx) : KeepsPorts s (framerTrafficReset p s) := by
  unfold Machine.framerTrafficReset
  split
  · exact framerFails p .reset .discard s
  · exact refl s

theorem performTrafficReset (s : State) : KeepsPorts s (performTrafficReset s).state := by
  refine (((foldl framerTrafficReset [0, 1, 2, 3] s).trans (foldl (emptyClassQueue .reset) [0, 1, 2, 3, 4, 5] _)).trans
    (foldl portTrafficReset [0, 1, 2, 3] _)).trans (of_ports ?_)
  simp [Machine.performTrafficReset, Done.ok]

theorem applyConfigs (es : List PortConfig) (i : Nat) (s : State) : KeepsPorts s (applyConfigs i es s) := by
  induction es generalizing i s with
  | nil => exact refl s
  | cons c es ih =>
    rw [applyConfigs_cons]
    split
    · exact (configurePort _ c s).trans (ih _ _)
    · exact ih _ s

theorem performWrite (t : TableId) (r : Request) (s : State) : KeepsPorts s (performWrite t r s).state := by
  cases t with
  | portConfig =>
    unfold Machine.performWrite performWritePortConfig
    dsimp only
    split
    · exact refl s
    · exact applyConfigs _ _ s
  | scheduleActive => exact refl s
  | hits => exact refl s
  | _ => exact of_ports (by simp [Machine.performWrite])

theorem performFlush (r : Request) (s : State) : KeepsPorts s (performFlush r s).state := by
  unfold Machine.performFlush
  split
  · split
    · exact refl s
    · exact emptyClassQueue .flushed s _
  · split
    · split
      · exact refl s
      · exact emptyDelivery _ s
    · exact refl s

/-- A READ_COUNTERS clears a port's counters at most (R170). -/
theorem clearCounters (s : State) : KeepsPorts s (clearCounters s) := fun p hp => by
  have h : (Machine.clearCounters s).port p = { s.port p with counters := PortCounters.zero } :=
    vget_mapPorts (fun q => { q with counters := PortCounters.zero }) s.ports p
  rw [h]
  exact hp

theorem performKind (k : ReqKind) (r : Request) (s : State) : KeepsPorts s (performKind k r s).state := by
  unfold Machine.performKind
  cases k with
  | write =>
    dsimp only
    split
    · exact refl s
    · exact performWrite _ r s
  | flush => exact performFlush r s
  | trafficReset => exact performTrafficReset s
  | readCounters =>
    unfold performReadCounters
    dsimp only
    split
    · exact clearCounters s
    · exact refl s
  | read => dsimp only; split <;> exact refl s
  | _ => exact of_ports (by simp)

theorem perform (r : Request) (s : State) : KeepsPorts s (perform r s).state := by
  unfold Machine.perform
  split
  · exact performKind _ r s
  · exact refl s
  · exact refl s

end KeepsPorts

/-! ### Every step keeps lines and ports -/

namespace LinesAndPortsOk
variable {s t : State}

theorem of_keeps (h : LinesAndPortsOk s) (hx : t.trunkRx = s.trunkRx) (hp : KeepsPorts s t) : LinesAndPortsOk t := by
  obtain ⟨ht, hs⟩ := h
  exact ⟨hx ▸ ht, fun p => hp p (hs p)⟩

theorem congr (h : LinesAndPortsOk s) (hx : t.trunkRx = s.trunkRx) (hp : t.ports = s.ports) : LinesAndPortsOk t :=
  h.of_keeps hx (.of_ports hp)

theorem raiseAll (h : LinesAndPortsOk s) (es : List Notice) : LinesAndPortsOk (raiseAll es s) :=
  h.congr (by simp) (by simp)

/-- The trunk's receiver has changed. -/
theorem of_line (h : LinesAndPortsOk s) (hx : t.trunkRx.ok = true) (hp : KeepsPorts s t) : LinesAndPortsOk t := by
  obtain ⟨-, hs⟩ := h
  exact ⟨hx, fun p => hp p (hs p)⟩

theorem trunkFalls (h : LinesAndPortsOk s) : LinesAndPortsOk (trunkFalls s) := by
  obtain ⟨hx, -⟩ := trunkFalls_parts s
  exact h.of_line (hx ▸ LineRx.ok_report false) (.of_ports (by simp))

theorem trunkUp (h : LinesAndPortsOk s) : LinesAndPortsOk (trunkUp s) := by
  have hup : LinesAndPortsOk (s.updTrunkRx fun _ => LineRx.report true) :=
    h.of_line (LineRx.ok_report true) (.of_ports rfl)
  unfold Machine.trunkUp
  split
  · exact h
  · exact hup.congr (by simp) (by simp)

theorem trunkDecoded {f : State → State} (hx : (f s).trunkRx = s.trunkRx) (hp : KeepsPorts s (f s))
    (h : LinesAndPortsOk s) : LinesAndPortsOk (trunkDecoded f s) := by
  have ⟨hline, _⟩ := h
  cases hu : s.trunkRx.up with
  | true =>
    rw [Machine.trunkDecoded, if_pos hu]
    refine h.of_line ?_ (hp.trans (.of_ports rfl))
    rw [State.updTrunkRx_trunkRx, hx]
    exact LineRx.ok_heard hline
  | false =>
    rw [trunkDecoded_of_down hu]
    split
    · have hup : LinesAndPortsOk { s with trunkRx := { up := true, failedRun := 0, decodedRun := 0 } } :=
        h.of_line (LineRx.ok_report true) (.of_ports rfl)
      exact hup.congr (by simp) (by simp)
    · next hd => exact h.of_line (LineRx.ok_decoded hu hline hd) (.of_ports rfl)

theorem trunkFailed (h : LinesAndPortsOk s) : LinesAndPortsOk (trunkFailed s) := by
  have ⟨hline, _⟩ := h
  have hword : LinesAndPortsOk (undecodedWord s) := h.congr (by simp) (by simp)
  cases hu : s.trunkRx.up with
  | true =>
    rw [trunkFailed_of_up hu]
    split
    · exact hword.trunkFalls.raiseAll _
    · next hf =>
      have hx : (undecodedWord s).trunkRx = s.trunkRx := by simp
      have hcounted : LinesAndPortsOk ((undecodedWord s).updTrunkRx LineRx.failed) :=
        hword.of_line (by rw [State.updTrunkRx_trunkRx, hx]; exact LineRx.ok_failed hu hline hf) (.of_ports rfl)
      exact hcounted.raiseAll _
  | false =>
    rw [Machine.trunkFailed, if_neg (by simp [hu])]
    exact h.of_line (LineRx.ok_missed hu hline) (.of_ports rfl)

theorem serve (h : LinesAndPortsOk s) (d : DescId) (r : Request) : LinesAndPortsOk (serve d r s) :=
  serve_keeps (fun _ h => h.congr (by simp) (by simp)) (fun _ _ _ _ h => h.congr (by simp) (by simp))
    (fun _ h => h.congr rfl rfl) (fun _ h => h.congr (by simp) (by simp))
    (fun r s h => h.of_keeps (by simp) (.perform r s)) (fun _ _ _ h => h.congr (by simp) (by simp))
    (fun _ _ _ h => h.congr (by simp) (by simp)) (fun _ _ _ _ _ _ _ h => h.congr (by simp) (by simp)) d r s h

theorem claimReply (h : LinesAndPortsOk s) : LinesAndPortsOk (claimReply s) :=
  claimReply_keeps (fun _ h => h.congr (by simp) (by simp)) (fun _ _ h => h.congr rfl rfl)
    (fun d r _ h => h.serve d r) s h

end LinesAndPortsOk

theorem linesAndPortsOk_kept : Kept LinesAndPortsOk where
  reset held k l n := by
    refine ⟨rfl, fun p => ?_⟩
    rw [blocksReset_port]
    exact ⟨rfl, fun _ => ⟨rfl, rfl, rfl, rfl, rfl, rfl, rfl⟩, Nat.zero_le _⟩
  raise _ _ h := h.congr (by simp) (by simp)
  setDraws _ _ h := h.congr rfl rfl
  beginSlot s h := h.of_keeps (by simp) (.beginSlot s)
  missedCheck _ h := h.congr (by simp) (by simp)
  decideSlot s h := h.of_keeps (by simp) (.decideSlot s)
  endDrain _ _ _ h := h.congr (by simp) (by simp)
  trunkDown s h := by
    unfold trunkDown
    split
    · exact h.trunkFalls.congr (by simp) (by simp)
    · exact h
  trunkUp _ h := h.trunkUp
  tributaryDown p s h := h.of_keeps (by simp) (.tributaryDown p s)
  tributaryUp p s h := h.of_keeps (by simp) (.tributaryUp p s)
  symbolReceived y s h := h.trunkDecoded (by simp) (.rxSymbol y s)
  undecodable s h := h.trunkDecoded (by simp) (.of_ports (by simp))
  trunkFailed _ h := h.trunkFailed
  mark s h := h.trunkDecoded (by simp) ((KeepsPorts.rxSymbol .mark s).trans (.markArrives _))
  tribDecoded p y s h := h.of_keeps (by simp) (.tribDecoded p y s)
  tribFailed p s h := h.of_keeps (by simp) (.tribFailed p s)
  tribTxSlot p s h := h.of_keeps (by simp) (.tribTxSlot p s)
  builderChooseJob s h := builderChooseJob_keeps (fun _ h => h.congr (by simp) (by simp))
    (fun _ h => h.congr (by simp) (by simp)) (fun _ h => h.congr (by simp) (by simp)) (fun _ h => h.claimReply) s h
  storeClaimGranted s h := storeClaimGranted_keeps (fun _ h => h.congr (by simp) (by simp))
    (fun _ h => h.claimReply) s h

/-- Settles O56: port by port (`Port.Sound`). A port loses a frame in reception only while it is serving
(`KeepsPorts.failFrame`), is quiet when it has stopped (`sound_stopServing`), and takes frames (`KeepsPorts.offer`) and
symbols (`KeepsPorts.tribSymbol`) only while it is serving; a run that reaches a report begins again with it
(`KeepsPorts.tribFailed`, `LinesAndPortsOk.trunkFailed`). -/
theorem idlePortsAndLineRunsAreKept : Obligations.IdlePortsAndLineRunsAreKept := fun s t h e =>
  (linesAndPortsOk_iff t).1
    (linesAndPortsOk_kept.step (fun _ _ h => h.congr rfl rfl) s t ((linesAndPortsOk_iff s).2 h) e)

end Sys2Proof.Machine
end

section
/-! The framer outside a frame (R129), and a station's byte in a frame, but for the seventh (R130). -/

namespace Sys2Proof.Machine

section
variable {p : PortIx} {s : State}

/-! ### A new frame (R129) -/

theorem framerBegin_of_taken {d : DescId} {st : FrameStore} (h : s.store.lineTakeDesc (.tributary p) = some (d, st)) :
    framerBegin p s = { s with store := st }.updPort p fun q =>
      { q with framer := { state := .header, desc := some d, check := 0xFFFF, gap := 0 } } := by
  simp only [framerBegin, h]
  rfl

theorem framerBegin_of_refused (h : s.store.lineTakeDesc (.tributary p) = none) :
    framerBegin p s = raise .storeExhausted (s.updPort p fun q =>
      { q with framer := { q.framer with state := .discard, desc := none, gap := 0 }
               counters := { q.counters with discarded := ctrInc q.counters.discarded } }) := by
  simp only [framerBegin, h, countPort, updFramer, updPort_updPort]
  rfl

/-! ### Outside a frame (R129) -/

theorem receiving_of_outside (h : (s.framer p).state = .idle ∨ (s.framer p).state = .discard) :
    (s.framer p).receiving = false := by
  rcases h with h | h <;> rw [Framer.receiving, h]

theorem framerSymbol_data_outside (h : (s.framer p).receiving = false) (b : Byte) : framerSymbol p (.data b) s = s := by
  simp [framerSymbol, h]

theorem idleSlot_outside (h : (s.framer p).receiving = false) : idleSlot p s = s ∧ idleRaises p s = [] := by
  have hd : stallDueAt p s = false := by simp [stallDueAt, h]
  simp [idleSlot, idleRaises, hd, h]

/-! ### A byte in a frame (R130) -/

section
variable {d : DescId} {b : Byte}

theorem framerByte_of_full (hd : (s.framer p).desc = some d) (hf : (s.store.desc d).isFull = true) :
    framerByte p d b s = updFramer p (Framer.freed .discard) (failFrame d .overlong s) := by
  rw [framerByte, if_pos hf, framerFails_of_desc hd]

theorem framerByte_of_refused (hd : (s.framer p).desc = some d) (hf : (s.store.desc d).isFull = false)
    (hb : s.store.lineByte d b = none) : framerByte p d b s =
      raise .storeExhausted (updFramer p (Framer.freed .discard) (failFrame d .noStore s)) := by
  simp only [framerByte, hf, Bool.false_eq_true, if_false, hb, framerFails_of_desc hd]

theorem framerByte_of_stored {st : FrameStore} (hf : (s.store.desc d).isFull = false)
    (hb : s.store.lineByte d b = some st) (h6 : (s.store.desc d).stored ≠ 6) :
    framerByte p d b s = byteKept p b st s := by
  have h7 : ¬ (s.store.desc d).stored + 1 = 7 := by omega
  simp only [framerByte, hf, Bool.false_eq_true, if_false, hb, h7]
  rfl

end

end

/-- Settles O34: a START outside a frame is the new frame's take, by the store's reserve (`lineTakeDesc_of_reserve`,
`lineTakeDesc_refused`); the other symbols by the framer's equations outside a frame. -/
theorem startTakesADescriptor : Obligations.StartTakesADescriptor := by
  intro p s hs hy
  have ho := receiving_of_outside hy
  have hstart : exec (.tribRxStart p) s = .next (heardAt p (framerBegin p s)) := by
    rw [exec_tribRxStart hs, framerSymbol_start_outside ho]
  refine ⟨fun d ds hd h3 h34 => ?_, fun hr => ⟨0, ?_⟩, fun b => ?_, ?_, ?_, fun w hw => ?_⟩
  · rw [hstart, framerBegin_of_taken (FrameStore.lineTakeDesc_of_reserve _ hd h3 h34)]
  · rw [hstart, framerBegin_of_refused (FrameStore.lineTakeDesc_refused _ hr)]
    rfl
  · rw [exec_tribRxData hs, framerSymbol_data_outside ho]
  · rw [exec_tribRxEnd hs, framerSymbol_end_outside ho (.inl rfl)]
  · rw [exec_tribRxAbort hs, framerSymbol_end_outside ho (.inr rfl)]
  · obtain ⟨hidle, hraises⟩ := idleSlot_outside ho
    rw [exec_tribRxIdle hs (.inl hw), hw, hidle, hraises]
    rfl

/-- Settles O35: outside a frame by `framerSymbol_data_outside`, and in one by what R130 says of the byte. -/
theorem tributaryByteIsStored : Obligations.TributaryByteIsStored := by
  intro p b s hs
  refine ⟨fun ho => ?_, fun d hi hd => ⟨fun hf => ?_, fun hf hb => ?_, fun st hf hb h6 => ?_⟩⟩
  · rw [exec_tribRxData hs, framerSymbol_data_outside ho]
  · rw [exec_tribRxData hs, framerSymbol_data_inside hi hd, framerByte_of_full hd hf]
  · rw [exec_tribRxData hs, framerSymbol_data_inside hi hd, framerByte_of_refused hd hf hb]
    rfl
  · rw [exec_tribRxData hs, framerSymbol_data_inside hi hd, framerByte_of_stored hf hb h6]
    rfl

end Sys2Proof.Machine
end

section
/-! The lookups of the Route Table (R152) and of the Classifier (R142 to R145). -/

namespace Sys2Proof.Machine

/-! ### Routes (R151, R152) -/

theorem mem_iff_vget {α : Type} {n : Nat} {v : Vector α n} {x : α} : x ∈ v ↔ ∃ i, vget v i = x := by
  simp [vget, Vector.mem_iff_getElem, Fin.exists_iff]

section
variable {v : Vector Route 64} {a : Addr}

theorem routeLookup_eq_none_iff :
    routeLookup a v = none ↔ ∀ i, (vget v i).valid = true → (vget v i).address ≠ a := by
  simp [routeLookup, mem_iff_vget]

theorem holder_of_routeLookup {p : PortIx} (h : routeLookup a v = some p) :
    ∃ i, (vget v i).valid = true ∧ (vget v i).address = a ∧ (vget v i).port = p := by
  obtain ⟨e, he, hp⟩ := Option.map_eq_some_iff.1 h
  obtain ⟨i, rfl⟩ := mem_iff_vget.1 (Vector.mem_toList_iff.1 (List.mem_of_find?_eq_some he))
  have hholds : (vget v i).valid = true ∧ (vget v i).address = a := by simpa using List.find?_some he
  exact ⟨i, hholds.left, hholds.right, hp⟩

/-- Whichever valid entry of the address the search finds, it is the only one (R151). -/
theorem routeLookup_of_holder (hu : (routeAddresses v).Nodup) {i : Fin 64} (hv : (vget v i).valid = true)
    (ha : (vget v i).address = a) : routeLookup a v = some (vget v i).port := by
  cases hl : routeLookup a v with
  | none => exact absurd ha (routeLookup_eq_none_iff.1 hl i hv)
  | some p =>
    obtain ⟨j, hjv, hja, rfl⟩ := holder_of_routeLookup hl
    have hij : i = j := by_contra fun hne => (routeAddresses_nodup v).1 hu i j hne hv hjv (ha.trans hja.symm)
    rw [hij]

theorem routeLookup_eq_some_iff (hu : (routeAddresses v).Nodup) {p : PortIx} :
    routeLookup a v = some p ↔ ∃ i, (vget v i).valid = true ∧ (vget v i).address = a ∧ (vget v i).port = p := by
  refine ⟨holder_of_routeLookup, ?_⟩
  rintro ⟨i, hv, ha, rfl⟩
  exact routeLookup_of_holder hu hv ha

end

/-! ### The Classifier (R142 to R145) -/

theorem ClassEntry.matchesFrame_iff (e : ClassEntry) (p : PortIx) (t : Byte) (a : Addr) :
    e.matchesFrame p t a = true ↔ e.valid = true ∧ portIn p e.ports = true ∧
      t &&& e.tagMask = e.tagValue &&& e.tagMask ∧ (e.srcMatch = true → e.srcValue = a) := by
  have hsrc : (!e.srcMatch || decide (e.srcValue = a)) = true ↔ (e.srcMatch = true → e.srcValue = a) := by
    cases e.srcMatch <;> simp
  simp only [ClassEntry.matchesFrame, Bool.and_eq_true, hsrc, decide_eq_true_eq, and_assoc]

namespace Classifier
variable {k : Classifier} {p : PortIx} {t : Byte} {a : Addr}

theorem decidingEntry_eq_some_iff {i : Fin 32} : k.decidingEntry p t a = some i ↔
    (vget k.entries i).matchesFrame p t a = true ∧ ∀ j, j < i → (vget k.entries j).matchesFrame p t a = false := by
  rw [decidingEntry, ← Fin.find?_eq_find?_finRange, Fin.find?_eq_some_iff]

theorem decidingEntry_eq_none_iff :
    k.decidingEntry p t a = none ↔ ∀ i, (vget k.entries i).matchesFrame p t a = false := by
  rw [decidingEntry, ← Fin.find?_eq_find?_finRange, Fin.find?_eq_none_iff]

theorem lookup_of_entry {i : Fin 32} (h : k.decidingEntry p t a = some i) : k.lookup p t a =
    ((vget k.entries i).action, { k with entries := vset k.entries i { vget k.entries i with
      hits := ctrInc (vget k.entries i).hits } }) := by
  rw [lookup, h]
  rfl

theorem lookup_of_default (h : k.decidingEntry p t a = none) : k.lookup p t a = (vget k.defaults p, k) := by
  rw [lookup, h]

end Classifier

/-- Settles O28: the route by the entry that holds the address (`routeLookup_eq_some_iff`), the class decision by the
entry that decides (`Classifier.decidingEntry_eq_some_iff`), or by the Port Default where none does. -/
theorem tablesAreLookedUp : Obligations.TablesAreLookedUp :=
  ⟨fun _ _ hu => ⟨fun _ => routeLookup_eq_some_iff hu, routeLookup_eq_none_iff⟩, fun _ p t a =>
    ⟨fun _ hm hfirst => Classifier.lookup_of_entry (Classifier.decidingEntry_eq_some_iff.2 ⟨hm, hfirst⟩),
      fun hnone => Classifier.lookup_of_default (Classifier.decidingEntry_eq_none_iff.2 hnone),
      fun e => e.matchesFrame_iff p t a⟩⟩

end Sys2Proof.Machine
end

section
/-! READ_COUNTERS with the clear flag (R170, R181). -/

namespace Sys2Proof.Machine

/-! ### The clearing (R181) -/

/-- From s to t every counter but the Agent's and every hit count has become 0; the entries of the tables, the notices
and what else the blocks of the counters hold are kept. -/
structure CountersZeroed (s t : State) : Prop where
  il : t.il = { s.il with counters := IlCounters.zero }
  sched : t.sched = { s.sched with unfit := Vector.replicate 6 0 }
  align : t.align = { s.align with counters := AlignCounters.zero }
  rx : t.rx = { s.rx with counters := RxCounters.zero }
  ports : ∀ p, t.port p = { s.port p with counters := PortCounters.zero }
  entries : ∀ i, vget t.classifier.entries i = { vget s.classifier.entries i with hits := 0 }
  policy : t.policy = s.policy
  routes : t.routes = s.routes
  notices : t.agent.notices = s.agent.notices

namespace CountersZeroed
variable {s t u : State}

theorem clearCounters (s : State) : CountersZeroed s (clearCounters s) where
  il := by simp [Machine.clearCounters]
  sched := by simp [Machine.clearCounters]
  align := by simp [Machine.clearCounters]
  rx := by simp [Machine.clearCounters]
  ports p := vget_mapPorts (fun q => { q with counters := PortCounters.zero }) s.ports p
  entries i := by simp [Machine.clearCounters, vget]
  policy := by simp
  routes := by simp
  notices := by simp [Machine.clearCounters]

/-- A clearing stands in whatever state its counting, recording and answer lead to. -/
theorem served (h : CountersZeroed s t) (hs : Served t u) : CountersZeroed s u where
  il := hs.il.trans h.il
  sched := hs.sched.trans h.sched
  align := hs.align.trans h.align
  rx := hs.rx.trans h.rx
  ports p := (congrArg (vget · p) hs.ports).trans (h.ports p)
  entries i := (congrArg (fun k : Classifier => vget k.entries i) hs.classifier).trans (h.entries i)
  policy := hs.policy.trans h.policy
  routes := hs.routes.trans h.routes
  notices := hs.notices.trans h.notices

/-- A clearing clears the same, whatever was counted and drawn before it. -/
theorem of_served (h : CountersZeroed t u) (hs : Served s t) : CountersZeroed s u where
  il := by rw [h.il, hs.il]
  sched := by rw [h.sched, hs.sched]
  align := by rw [h.align, hs.align]
  rx := by rw [h.rx, hs.rx]
  ports p := by rw [h.ports, State.port, hs.ports, State.port]
  entries i := by rw [h.entries, hs.classifier]
  policy := h.policy.trans hs.policy
  routes := h.routes.trans hs.routes
  notices := h.notices.trans hs.notices

/-- A clearing in the state at the execution is a clearing in the state before the claim. -/
theorem of_atExecution {q : DescId} {qs : List DescId} {st : FrameStore}
    (h : CountersZeroed (atExecution q qs st s) t) : CountersZeroed s t :=
  ⟨h.il, h.sched, h.align, h.rx, h.ports, h.entries, h.policy, h.routes, h.notices⟩

end CountersZeroed

/-! ### The execution (R164; log 9) -/

section
variable {r : Request}

theorem clears_of_row (h : r.row = some .readCountersClear) : r.clears = true := by
  have hk := kindOf_of_row h
  rw [Request.row, hk] at h
  dsimp only [RequestRow.kind] at h
  cases hc : r.clears with
  | true => rfl
  | false => simp [hc] at h

/-- The clear flag stands only in a request of the right length, which passes the checks 1 to 5 (R165). -/
theorem readsCounters_of_row (h : r.row = some .readCountersClear) : ReadsCounters r := by
  have hk : kindOf r.kind = some .readCounters := kindOf_of_row h
  obtain ⟨hlen, -⟩ := (clears_iff r).1 (clears_of_row h)
  refine ⟨hk, ?_⟩
  rw [preCheck_of_no_table hk rfl, hlen]
  rfl

theorem performReadCounters_of_clears (h : r.clears = true) (s : State) :
    performReadCounters r s = { status := .ok, data := counterBytes s, state := clearCounters s } := by
  rw [performReadCounters, if_pos h]

/-- The own count comes after the clearing, and stands, or before it, and is cleared. -/
theorem performCounted_clearing (h : r.row = some .readCountersClear) (s : State) :
    (performCounted r s).status = .ok ∧ CountersZeroed s (performCounted r s).state ∧
      ((performCounted r s).state.agent.counters = AgentCounters.zero ∨
        (performCounted r s).state.agent.counters = { AgentCounters.zero with executed := 1 }) := by
  have hclear := fun s => performReadCounters_of_clears (clears_of_row h) s
  rcases performCounted_of_readsCounters (readsCounters_of_row h) s with he | he <;> rw [he, hclear]
  · exact ⟨rfl, ((CountersZeroed.clearCounters s.drawFree).of_served (Served.drawFree s)).served
      (Served.countExecuted _), .inr rfl⟩
  · exact ⟨rfl, (CountersZeroed.clearCounters (countExecuted s.drawFree)).of_served
      ((Served.drawFree s).trans (Served.countExecuted _)), .inl rfl⟩

end

/-- Settles O50: the execution clears (`performCounted_clearing`), and the answer keeps what it has cleared
(`CountersZeroed.served`), since a status OK counts nothing as refused. -/
theorem clearingReadZeroesTheCounters : Obligations.ClearingReadZeroesTheCounters := by
  intro q d qs r s h hf
  obtain ⟨st, hc⟩ := h.toRequestTaken.agentClaim
  obtain ⟨hok, hzero, hagent⟩ := performCounted_clearing h.row (atExecution q qs st s)
  have hn : NoReset r := NoReset.of_kind (kindOf_of_row h.row) nofun
  have hz := (hzero.served (answered_served d r _)).of_atExecution
  have hcounters := answered_counters d r (performCounted r (atExecution q qs st s))
  rw [if_pos hok] at hcounters
  refine ⟨_, (exec_of_ready h).trans (congrArg _ (builderChooseJob_answers h nofun hc hf)),
    answered_performCounted hn st s, by rw [hz.il], by rw [hz.sched], by rw [hz.align], by rw [hz.rx],
    fun p => by rw [hz.ports], ?_, hz.entries, by rw [hz.il], by rw [hz.rx], by rw [hz.sched], hz.routes, hz.policy,
    hz.notices⟩
  rw [hcounters]
  exact hagent

end Sys2Proof.Machine
end

section
/-! SET_GLOBAL (R169, R184): all its present fields together, or none. -/

namespace Sys2Proof.Machine

/-! ### A field (R169, R184) -/

/-- A field with a good flag: absent, or its value x. -/
theorem globalField_of_good {α : Type} {b : Byte} {v : Option α} {x : α} (hb : b = 0x00 ∨ b = 0x01)
    (hv : b = 0x01 → v = some x) : globalField b v = some (if b = 0x01 then some x else none) := by
  rcases hb with rfl | rfl
  · rfl
  · rw [hv rfl]
    rfl

theorem when_of_pos {α : Type} {x : α} {b : Bool} (h : b = true) : when x b = some x := if_pos h

theorem classOf_of_le {b : Byte} (h : b.toNat ≤ 5) : classOf b = some (Fin.ofNat 6 b.toNat) := by
  have hlt : b.toNat < 6 := Nat.lt_succ_of_le h
  rw [classOf, dif_pos hlt]
  exact congrArg some (Fin.ext (Nat.mod_eq_of_lt hlt).symm)

/-- A field takes its value where it is present, and is kept where it is absent. -/
theorem getD_field {α : Type} (b : Byte) (x y : α) :
    (if b = 0x01 then some x else none).getD y = if b = 0x01 then x else y := by
  split <;> rfl

/-! ### The request (R169) -/

/-- The Agent's registers as the present fields of a SET_GLOBAL set them. -/
def Agent.setGlobals (r : Request) (a : Agent) : Agent :=
  { a with
    address := if byteAt r.params 0 = 0x01 then wordAt r.params 1 else a.address
    mgmtClass := if byteAt r.params 3 = 0x01 then Fin.ofNat 6 (byteAt r.params 4).toNat else a.mgmtClass
    noticeDest := if byteAt r.params 5 = 0x01 then wordAt r.params 6 else a.noticeDest
    stallLimit := if byteAt r.params 8 = 0x01 then (wordAt r.params 9).toNat else a.stallLimit
    noticeMask := if byteAt r.params 11 = 0x01 then (wordAt r.params 12).setWidth 9 else a.noticeMask }

section
variable {r : Request} {s : State}

theorem performSetGlobal_of_good (h : GlobalsGood r s) :
    performSetGlobal r s = .ok (s.updAgent (Agent.setGlobals r)) := by
  obtain ⟨hflags, haddress, hclass, hlimit, hmask⟩ := h
  simp only [List.forall_mem_cons, List.not_mem_nil, false_imp_iff, implies_true, and_true] at hflags
  obtain ⟨h0, h3, h5, h8, h11⟩ := hflags
  unfold performSetGlobal
  dsimp only
  rw [globalField_of_good h0 fun h => when_of_pos (by simpa [and_assoc] using haddress h),
    globalField_of_good h3 fun h => classOf_of_le (hclass h), globalField_of_good h5 fun _ => rfl,
    globalField_of_good h8 fun h => when_of_pos (decide_eq_true (hlimit h)),
    globalField_of_good h11 fun h => when_of_pos (decide_eq_true ((mask_low_iff _).2 (hmask h)))]
  simp only [getD_field]
  rfl

theorem performSetGlobal_of_bad (h : ¬ GlobalsGood r s) : (performSetGlobal r s).state = s := by
  obtain ⟨⟨hgood, -⟩, -⟩ := performSetGlobal_status r s
  obtain ⟨hstate, -⟩ := RefusesWhole.performSetGlobal r s (mt hgood h)
  exact hstate

end

/-- Settles O49: the row's command answers what its kind performs (`exec_of_passed`), which sets all present fields
(`performSetGlobal_of_good`) or none (`performSetGlobal_of_bad`). -/
theorem setGlobalAppliesItsFieldsTogether : Obligations.SetGlobalAppliesItsFieldsTogether := by
  intro q d qs r s h hf hp b w flagsOk addressOk classOk limitOk maskOk accepted
  obtain ⟨st, -, hexec⟩ := exec_of_passed h hf hp nofun nofun
  have hexec : exec .setGlobal s = .next (answered d r (performSetGlobal r (performedIn q qs st s))) := hexec
  have hserved := answered_served d r (performSetGlobal r (performedIn q qs st s))
  have hinbox := (performKind_agent (x := .setGlobal) nofun r (performedIn q qs st s)).1
  have hinHand := (HandKept.performSetGlobal r (performedIn q qs st s)).inHand
  refine ⟨_, hexec, answered_replied hinbox hinHand r s, hserved.routes.trans (by simp; rfl),
    hserved.ports.trans (by simp; rfl), fun hbad => ?_, fun hgood => ?_⟩
  · have hbad : ¬ GlobalsGood r (performedIn q qs st s) := hbad
    rw [performSetGlobal_of_bad hbad] at hserved
    exact ⟨hserved.address, hserved.mgmtClass, hserved.noticeDest, hserved.stallLimit, hserved.noticeMask⟩
  · have hgood : GlobalsGood r (performedIn q qs st s) := hgood
    obtain ⟨-, -, hclass, -⟩ := id hgood
    rw [performSetGlobal_of_good hgood] at hserved ⊢
    refine ⟨hserved.address, ?_, hserved.noticeDest, hserved.stallLimit, hserved.noticeMask⟩
    calc _ = (if b 3 = 0x01 then Fin.ofNat 6 (b 4).toNat else s.agent.mgmtClass).val :=
          congrArg Fin.val hserved.mgmtClass
      _ = if b 3 = 0x01 then (b 4).toNat % 6 else s.agent.mgmtClass.val := apply_ite Fin.val ..
      _ = if b 3 = 0x01 then (b 4).toNat else s.agent.mgmtClass.val :=
          if_ctx_congr Iff.rfl (fun h => Nat.mod_eq_of_lt (Nat.lt_succ_of_le (hclass h))) fun _ => rfl

end Sys2Proof.Machine
end

section
/-! Every step keeps the routes unique and apart from the agent address, the Notice List to one record of each kind, and
the Replay Table and the inbox to their sizes (R151, R153, R159, R160, R169, R171, R172, R176): what a step can do to
these tables, said once, and each invariant kept change by change. -/

namespace Sys2Proof.Machine

/-! ### The tables that a step may change -/

/-- The Route Table, the agent address, the Notice List, the Replay Table and the inbox. -/
structure Tables where
  routes : Vector Route 64
  address : Addr
  notices : List NoticeRecord
  replay : List ReplayEntry
  inbox : List DescId

def State.tables (s : State) : Tables :=
  { routes := s.routes, address := s.agent.address, notices := s.agent.notices, replay := s.agent.replay,
    inbox := s.agent.inbox }

/-- The address is neither 0x0000 nor 0xFFFF (R151, R159). -/
def Addressable (a : Addr) : Prop := a ≠ 0x0000 ∧ a ≠ 0xFFFF

/-- One change of the tables. -/
inductive TableChange : Tables → Tables → Prop where
  | reset (x : Tables) (straps : BitVec 4) : TableChange x
      { routes := routesReset, address := strapAddress straps, notices := [], replay := [], inbox := [] }
  | raised (x : Tables) (e : Notice) (counter : Nat) : TableChange x { x with notices := noteRaise e counter x.notices }
  | sent (x : Tables) : TableChange x { x with notices := x.notices.tail }
  | recorded (x : Tables) (e : ReplayEntry) : TableChange x { x with replay := replayPut e x.replay }
  | joined (x : Tables) (d : DescId) (room : x.inbox.length < Config.inboxLimit) :
      TableChange x { x with inbox := x.inbox ++ [d] }
  | taken (x : Tables) : TableChange x { x with inbox := x.inbox.tail }
  | emptied (x : Tables) : TableChange x { x with inbox := [] }
  | readdressed (x : Tables) (g : Addr) (good : Addressable g) (free : g ∉ routeAddresses x.routes) :
      TableChange x { x with address := g }
  | rerouted (x : Tables) (v : Vector Route 64) (unique : (routeAddresses v).Nodup)
      (good : ∀ a ∈ routeAddresses v, a ∈ routeAddresses x.routes ∨ Addressable a ∧ a ≠ x.address) :
      TableChange x { x with routes := v }

/-- From s to t the tables have seen changes of these kinds, and nothing else. -/
def TablesReach (s t : State) : Prop := Relation.ReflTransGen TableChange s.tables t.tables

theorem mem_routeAddresses {v : Vector Route 64} {a : Addr} :
    a ∈ routeAddresses v ↔ ∃ i, (vget v i).valid = true ∧ (vget v i).address = a := by
  simp [routeAddresses, mem_iff_vget, and_assoc]

/-- A valid entry of a ROUTE write holds no forbidden address (R153). -/
theorem routeOf_good {g : Addr} {bs : List Byte} {e : Route} (h : routeOf g bs = some e) (hv : e.valid = true) :
    Addressable e.address ∧ e.address ≠ g := by
  unfold routeOf at h
  split at h
  · split at h
    · cases h
    · next hallowed =>
      obtain rfl := Option.some.inj h
      dsimp only at hv
      simpa [hv, Addressable, and_assoc] using hallowed
  · cases h

/-- An entry of a table after a WRITE is an entry written, or stands as it was. -/
theorem vget_writeFrom_cases {α : Type} {n : Nat} (v : Vector α n) (k : Nat) (es : List α) (i : Fin n) :
    (∃ j : Nat, es[j]? = some (vget (writeFrom v k es) i)) ∨ vget (writeFrom v k es) i = vget v i := by
  rw [vget_writeFrom]
  split
  · next hin =>
    obtain ⟨hlow, hhigh⟩ := hin
    have hlt : i.val - k < es.length := by omega
    exact .inl ⟨i.val - k, by rw [List.getD_eq_getElem _ _ hlt, List.getElem?_eq_getElem hlt]⟩
  · exact .inr rfl

/-- A ROUTE write brings no forbidden address into the table (R153). -/
theorem routeAddresses_writeFrom_good {r : Request} {g a : Addr} {v : Vector Route 64} {es : List Route}
    (he : EntriesAre r 4 (fun _ bs => routeOf g bs) es) (ha : a ∈ routeAddresses (writeFrom v r.index es)) :
    a ∈ routeAddresses v ∨ Addressable a ∧ a ≠ g := by
  obtain ⟨-, hdecoded⟩ := he
  obtain ⟨i, hv, rfl⟩ := mem_routeAddresses.1 ha
  rcases vget_writeFrom_cases v r.index es i with ⟨j, hj⟩ | hkept
  · exact .inr (routeOf_good (hdecoded j _ hj) hv)
  · rw [hkept] at hv ⊢
    exact .inl (mem_routeAddresses.2 ⟨i, hv, rfl⟩)

theorem stackFallen_routes (s : State) : (stackFallen s).routes = s.routes := by
  simp [stackFallen, entriesDropped, stackCleared]

namespace TablesReach
variable {s t u : State}

theorem of_eq (h : t.tables = s.tables) : TablesReach s t := by
  rw [TablesReach, h]

theorem of_agent (ha : t.agent = s.agent) (hr : t.routes = s.routes) : TablesReach s t :=
  of_eq (by rw [State.tables, State.tables, ha, hr])

theorem refl (s : State) : TablesReach s s := of_eq rfl

theorem trans (a : TablesReach s t) (b : TablesReach t u) : TablesReach s u := Relation.ReflTransGen.trans a b

theorem single (h : TableChange s.tables t.tables) : TablesReach s t := Relation.ReflTransGen.single h

theorem raise (e : Notice) (s : State) : TablesReach s (raise e s) := by
  unfold Machine.raise
  simp only [State.updAgent, TablesReach, State.tables]
  split
  · exact .single (.raised s.tables e s.sched.counter)
  · exact .refl

theorem inboxOffer (d : DescId) (s : State) : TablesReach s (inboxOffer d s) := by
  unfold Machine.inboxOffer
  split
  · next h => exact single (.joined s.tables d h)
  · exact of_eq rfl

/-- The other blocks change the tables by raises and offers alone. -/
theorem of_kept (h : AgentKept s t) (hr : t.routes = s.routes) : TablesReach s t := by
  have hclosed : AgentClosed fun u => TablesReach s (u.setRoutes s.routes) := by
    refine ⟨fun u v e hu => hu.trans (of_agent e rfl), fun e u hu => hu.trans (raise e _), fun d u hu => ?_⟩
    have hoffer : (Machine.inboxOffer d u).setRoutes s.routes = Machine.inboxOffer d (u.setRoutes s.routes) :=
      apply_ite (State.setRoutes s.routes) ..
    rw [hoffer]
    exact hu.trans (inboxOffer d _)
  have hkept : TablesReach s (t.setRoutes s.routes) := h _ hclosed (refl s)
  exact hkept.trans (of_agent rfl hr)

/-! ### The trunk (R20, R43, R46) -/

theorem endDrain (s : State) : TablesReach s (endDrain s) := by
  cases h : s.agent.owed with
  | none => exact of_eq (by rw [Machine.endDrain]; dsimp only [State.updIl_agent]; rw [h]; rfl)
  | some r => exact of_eq (by rw [endDrain_of_owed h]; rfl)

theorem drainStep (s : State) : TablesReach s (drainStep s) := by
  unfold Machine.drainStep
  split
  · exact of_eq rfl
  · split
    · split
      · exact (of_agent (by simp) (by simp) : TablesReach s (abortTop _ s)).trans (endDrain _)
      · exact of_agent (by simp) (by simp)
    · exact of_agent (by simp) (by simp)

theorem decide20 (s : State) : TablesReach s (decide20 s).1 := by
  cases hd : s.il.drain with
  | false => exact of_kept (decide20_kept s hd) (by simp)
  | true =>
    rw [Machine.decide20, if_pos hd]
    exact drainStep s

theorem decideSlot (s : State) : TablesReach s (decideSlot s).1 := by
  unfold Machine.decideSlot
  dsimp only
  split
  · exact (of_agent (by simp) (by simp) : TablesReach s (countOverrun (overrunClass s) s)).trans
      ((decide20 _).trans (of_eq rfl))
  · exact of_agent (by simp) (by simp)

theorem stackFallen (s : State) : TablesReach s (stackFallen s) := by
  obtain ⟨hagent, -⟩ := stackFallen_frame s
  exact of_agent hagent (stackFallen_routes s)

theorem trunkFalls (s : State) : TablesReach s (trunkFalls s) := by
  have hroutes : (Machine.trunkFalls s).routes = s.routes := by simp
  obtain ⟨-, -, hagent, -⟩ := trunkFalls_parts s
  obtain ⟨hstack, -⟩ := stackFallen_frame s
  cases hd : s.il.drain with
  | false =>
    rw [interleaverFallen_of_no_drain hd] at hagent
    exact of_agent (hagent.trans hstack) hroutes
  | true =>
    rw [interleaverFallen_of_drain hd] at hagent
    exact ((stackFallen s).trans (endDrain _)).trans (of_agent hagent (by simp [stackFallen_routes]))

/-! ### Requests (R153, R154, R164, R169) -/

theorem performWriteRoute (r : Request) (s : State) : TablesReach s (performWriteRoute r s).state := by
  unfold Machine.performWriteRoute
  split
  · exact refl s
  · next es he =>
    split
    · next hunique =>
      have he := (entriesAre_iff ..).2 he
      exact single (.rerouted s.tables _ hunique fun _ ha => routeAddresses_writeFrom_good he ha)
    · exact refl s

theorem performWrite (t : TableId) (r : Request) (s : State) : TablesReach s (performWrite t r s).state := by
  cases t with
  | route => exact performWriteRoute r s
  | classify => exact of_agent (by simp) (by simp [Machine.performWrite])
  | portDefault => exact of_agent (by simp) (by simp [Machine.performWrite])
  | classPolicy => exact of_agent (by simp) (by simp [Machine.performWrite])
  | portConfig => exact of_agent (by simp) (by simp [Machine.performWrite])
  | scheduleStandby => exact of_agent (by simp) (by simp [Machine.performWrite])
  | scheduleActive => exact refl s
  | hits => exact refl s

theorem performSetGlobal (r : Request) (s : State) : TablesReach s (performSetGlobal r s).state := by
  by_cases h : GlobalsGood r s
  · have htables : (Machine.performSetGlobal r s).state.tables = { s.tables with
        address := if byteAt r.params 0 = 0x01 then wordAt r.params 1 else s.agent.address } := by
      rw [performSetGlobal_of_good h]
      rfl
    obtain ⟨-, haddress, -⟩ := h
    by_cases hp : byteAt r.params 0 = 0x01
    · obtain ⟨hzero, hones, hlookup⟩ := haddress hp
      have hfree : wordAt r.params 1 ∉ routeAddresses s.routes := fun hmem => by
        obtain ⟨i, hv, ha⟩ := mem_routeAddresses.1 hmem
        exact routeLookup_eq_none_iff.1 hlookup i hv ha
      rw [if_pos hp] at htables
      exact single (htables ▸ .readdressed s.tables _ ⟨hzero, hones⟩ hfree)
    · rw [if_neg hp] at htables
      exact of_eq htables
  · exact of_eq (by rw [performSetGlobal_of_bad h])

theorem dropInbox (s : State) : TablesReach s (dropInbox s) := single (.emptied s.tables)

theorem performTrafficReset (s : State) : TablesReach s (performTrafficReset s).state := by
  rw [performTrafficReset_eq]
  exact (of_agent (by simp [resetBeforeReception]) (by simp [resetBeforeReception])).trans (dropInbox _)

theorem performReadCounters (r : Request) (s : State) : TablesReach s (performReadCounters r s).state := by
  unfold Machine.performReadCounters
  dsimp only
  split
  · exact of_eq (by simp [State.tables, clearCounters])
  · exact refl s

theorem performKind (k : ReqKind) (r : Request) (s : State) : TablesReach s (performKind k r s).state := by
  cases k with
  | query => exact refl s
  | read => unfold Machine.performKind; dsimp only; split <;> exact refl s
  | write =>
    unfold Machine.performKind
    dsimp only
    split
    · exact refl s
    · exact performWrite _ r s
  | commit => exact of_agent (by simp [Machine.performKind]) (by simp [Machine.performKind])
  | abandon => exact of_agent (by simp [Machine.performKind]) (by simp [Machine.performKind])
  | setAlign => exact of_agent (by simp [Machine.performKind]) (by simp [Machine.performKind])
  | setGlobal => exact performSetGlobal r s
  | readCounters => exact performReadCounters r s
  | flush => exact of_agent (by simp [Machine.performKind]) (by simp [Machine.performKind])
  | trafficReset => exact performTrafficReset s

theorem perform (r : Request) (s : State) : TablesReach s (perform r s).state := by
  unfold Machine.perform
  split
  · exact performKind _ r s
  · exact refl s
  · exact refl s

theorem replayPut (e : ReplayEntry) (s : State) : TablesReach s (updReplay (replayPut e) s) :=
  single (.recorded s.tables e)

theorem recordOutcome_countRefused (r : Request) (x : Status) (s : State) :
    TablesReach s (recordOutcome r x (countRefused x s)) := by
  have hcount : TablesReach s (countRefused x s) := of_eq (by unfold countRefused; split <;> rfl)
  unfold recordOutcome
  split
  · exact hcount.trans (replayPut _ _)
  · exact hcount

theorem beginDrain (s : State) : TablesReach s (beginDrain s) := by
  unfold Machine.beginDrain
  split
  · exact endDrain s
  · exact of_eq rfl

theorem dropRequest (s : State) : TablesReach s (dropRequest s) := by
  unfold Machine.dropRequest
  split <;> exact of_eq rfl

theorem admitBuilt (k : Job) (b : Bool) (d : DescId) (bs : List Byte) (s : State) :
    TablesReach s (admitBuilt k b d bs s) := of_eq rfl

theorem reply (d : DescId) (r : Request) (x : Status) (a b : Bool) (data : List Byte) (s : State) :
    TablesReach s (reply d r x a b data s) := admitBuilt ..

theorem answerReplay (d : DescId) (r : Request) (e : ReplayEntry) (s : State) :
    TablesReach s (answerReplay d r e s) := by
  have hcount : TablesReach (updReplay (Machine.replayPut { e with replayed := true }) s) (replayNoted e s) := of_eq rfl
  rw [answerReplay_eq]
  exact ((replayPut _ s).trans hcount).trans (reply ..)

theorem countExecuted (s : State) : TablesReach s (countExecuted s) := of_eq rfl

theorem drawFree (s : State) : TablesReach s s.drawFree := of_eq rfl

theorem oweReply (d : DescId) (r : Request) (s : State) : TablesReach s (oweReply d r s) := of_eq rfl

theorem serve (d : DescId) (r : Request) (s : State) : TablesReach s (serve d r s) :=
  serve_keeps (P := TablesReach s) (fun _ h => h.trans (dropRequest _))
    (fun d r e _ h => h.trans (answerReplay d r e _))
    (fun _ h => h.trans (drawFree _)) (fun _ h => h.trans (countExecuted _)) (fun r _ h => h.trans (perform r _))
    (fun r x _ h => h.trans (recordOutcome_countRefused r x _)) (fun d r _ h => h.trans ((oweReply d r _).trans (beginDrain _)))
    (fun _ _ _ _ _ _ _ h => h.trans (reply ..)) d r s (refl s)

/-! ### The builder's turns (R160 to R163, R179) -/

theorem waitForStore (s : State) : TablesReach s (waitForStore s) := of_eq rfl

theorem updStore (f : FrameStore → FrameStore) (s : State) : TablesReach s (s.updStore f) := of_agent rfl rfl

theorem claimReply (s : State) : TablesReach s (claimReply s) :=
  claimReply_keeps (P := TablesReach s) (fun _ h => h.trans (waitForStore _)) (fun _ _ h => h.trans (updStore _ _))
    (fun d r _ h => h.trans (serve d r _)) s (refl s)

theorem buildNotice (d : DescId) (x : NoticeRecord) (s : State) : TablesReach s (buildNotice d x s) :=
  (admitBuilt .notice false d (frameOf s.agent.noticeDest s.agent.address 0x00 x.payload) s).trans
    (single (.sent (Machine.admitBuilt ..).tables))

theorem claimNotice (s : State) : TablesReach s (claimNotice s) := by
  unfold Machine.claimNotice
  split
  · exact refl s
  · split
    · exact waitForStore s
    · exact (updStore _ s).trans (buildNotice ..)

theorem takeRequest (s : State) : TablesReach s (takeRequest s) := by
  unfold Machine.takeRequest
  split
  · exact refl s
  · next q qs h =>
    have htail : TableChange s.tables { s.tables with inbox := qs } := by
      have ht := TableChange.taken s.tables
      rwa [show s.tables.inbox = q :: qs from h] at ht
    exact single htail

theorem dropUnanswerable (s : State) : TablesReach s (dropUnanswerable s) := (dropRequest s).trans (of_eq rfl)

theorem chooseNotice (s : State) : TablesReach s (chooseNotice s) := by
  have hjob : TablesReach s (s.updAgent fun a => { a with job := some .notice }) := of_eq rfl
  exact hjob.trans (claimNotice _)

theorem builderChooseJob (s : State) : TablesReach s (builderChooseJob s) :=
  builderChooseJob_keeps (P := TablesReach s) (fun _ h => h.trans (takeRequest _))
    (fun _ h => h.trans (dropUnanswerable _))
    (fun _ h => h.trans (chooseNotice _))
    (fun _ h => h.trans (claimReply _)) s (refl s)

theorem storeClaimGranted (s : State) : TablesReach s (storeClaimGranted s) :=
  storeClaimGranted_keeps (P := TablesReach s) (fun _ h => h.trans (claimNotice _))
    (fun _ h => h.trans (claimReply _)) s (refl s)

/-! ### Every command -/

theorem trunkFailed (s : State) : TablesReach s (trunkFailed s) :=
  trunkFailed_keeps (P := TablesReach s) (fun _ _ h => h.trans (of_eq rfl)) (fun _ h => h.trans (trunkFalls _))
    (fun _ h => h.trans (of_agent (by simp) (by simp))) (fun es _ h => h.trans (of_kept (raiseAll_kept es _) (by simp)))
    s (refl s)

theorem trunkDecoded {f : State → State} (hf : ∀ s, AgentKept s (f s)) (hr : ∀ s, (f s).routes = s.routes) (s : State) :
    TablesReach s (trunkDecoded f s) :=
  trunkDecoded_keeps (P := TablesReach s) (fun _ _ h => h.trans (of_eq rfl))
    (fun _ h => h.trans (of_kept (trunkUp_kept _) (by simp))) (fun _ h => h.trans (of_kept (hf _) (hr _))) s (refl s)

theorem kept (s : State) : Kept (TablesReach s) where
  reset _ straps _ _ := single (.reset s.tables straps)
  raise e _ h := h.trans (raise e _)
  setDraws _ _ h := h.trans (of_eq rfl)
  beginSlot _ h := h.trans (of_kept (beginSlot_kept _) (by simp))
  missedCheck _ h := h.trans (of_kept (missedCheck_kept _) (by simp))
  decideSlot _ h := h.trans (decideSlot _)
  endDrain _ _ _ h := h.trans (endDrain _)
  trunkDown t h := by
    unfold trunkDown
    split
    · exact (h.trans (trunkFalls t)).trans (raise _ _)
    · exact h
  trunkUp _ h := h.trans (of_kept (trunkUp_kept _) (by simp))
  tributaryDown p _ h := h.trans (of_kept (tributaryDown_kept p _) (by simp))
  tributaryUp p _ h := h.trans (of_kept (tributaryUp_kept p _) (by simp))
  symbolReceived y _ h := h.trans (trunkDecoded (rxSymbol_kept y) (by simp) _)
  undecodable _ h := h.trans (trunkDecoded rxUndecodable_kept (by simp) _)
  trunkFailed _ h := h.trans (trunkFailed _)
  mark _ h := h.trans (trunkDecoded (fun s => (rxSymbol_kept .mark s).trans (markArrives_kept _)) (by simp) _)
  tribDecoded p y _ h := h.trans (of_kept (tribDecoded_kept p y _) (by simp))
  tribFailed p _ h := h.trans (of_kept (tribFailed_kept p _) (by simp))
  tribTxSlot p _ h := h.trans (of_agent (by simp) (by simp))
  builderChooseJob _ h := h.trans (builderChooseJob _)
  storeClaimGranted _ h := h.trans (storeClaimGranted _)

/-- What a step can do to the tables. -/
theorem of_step (h : step s = .next t) : TablesReach s t :=
  (kept s).step (fun _ _ h => h.trans (of_eq rfl)) s t (refl s) h

/-- A property of the tables that every change keeps is kept by every step. -/
theorem keeps {P : Tables → Prop} (hP : ∀ x y, TableChange x y → P x → P y) (h : TablesReach s t) (hs : P s.tables) :
    P t.tables := by
  unfold TablesReach at h
  generalize s.tables = x at h hs
  generalize t.tables = y at h
  induction h with
  | refl => exact hs
  | tail _ hc ih => exact hP _ _ hc ih

end TablesReach

/-! ### The Route Table and the agent address (R151, R153, R159, R169) -/

/-- What RoutesOk says of the tables. -/
def RoutesSound (x : Tables) : Prop :=
  (routeAddresses x.routes).Nodup ∧ (∀ a ∈ routeAddresses x.routes, Addressable a ∧ a ≠ x.address) ∧
    Addressable x.address

theorem routesOk_iff (s : State) : RoutesOk s ↔ RoutesSound s.tables := by
  simp only [RoutesOk, RoutesSound, Addressable, and_assoc]
  rfl

theorem strapAddress_addressable (straps : BitVec 4) : Addressable (strapAddress straps) := by
  unfold Addressable
  revert straps
  decide

theorem routeAddresses_routesReset : routeAddresses routesReset = [] := by decide

theorem routesSound_change (x y : Tables) (h : TableChange x y) (hx : RoutesSound x) : RoutesSound y := by
  obtain ⟨hunique, hroutes, haddress⟩ := hx
  cases h with
  | reset straps =>
    rw [RoutesSound, routeAddresses_routesReset]
    exact ⟨List.nodup_nil, nofun, strapAddress_addressable straps⟩
  | readdressed g good free =>
    exact ⟨hunique, fun a ha => ⟨(hroutes a ha).1, fun hg : a = g => free (hg ▸ ha)⟩, good⟩
  | rerouted v unique good =>
    exact ⟨unique, fun a ha => (good a ha).elim (hroutes a) id, haddress⟩
  | raised => exact ⟨hunique, hroutes, haddress⟩
  | sent => exact ⟨hunique, hroutes, haddress⟩
  | recorded => exact ⟨hunique, hroutes, haddress⟩
  | joined => exact ⟨hunique, hroutes, haddress⟩
  | taken => exact ⟨hunique, hroutes, haddress⟩
  | emptied => exact ⟨hunique, hroutes, haddress⟩

/-! ### The Notice List, the Replay Table and the inbox (R160, R171, R172, R176) -/

/-- A raise counts in the record of its kind, or joins the list as the first record of it (R177). -/
theorem map_kind_noteRaise (e : Notice) (n : Nat) (l : List NoticeRecord) :
    (noteRaise e n l).map (fun r => r.first.kind) =
      if e.kind ∈ l.map fun r => r.first.kind then l.map fun r => r.first.kind
      else (l.map fun r => r.first.kind) ++ [e.kind] := by
  induction l with
  | nil => rfl
  | cons r l ih =>
    unfold noteRaise
    by_cases hr : r.first.kind = e.kind
    · simp [hr]
    · rw [if_neg hr, List.map_cons, ih]
      have hmem : e.kind ∈ (r :: l).map (fun r => r.first.kind) ↔ e.kind ∈ l.map fun r => r.first.kind := by
        simp [Ne.symm hr]
      simp only [hmem]
      split <;> rfl

theorem nodup_noteRaise {e : Notice} {n : Nat} {l : List NoticeRecord} (h : (l.map fun r => r.first.kind).Nodup) :
    ((noteRaise e n l).map fun r => r.first.kind).Nodup := by
  rw [map_kind_noteRaise]
  split
  · exact h
  · next hnew => exact List.nodup_append.2 ⟨h, List.nodup_singleton _, by simpa using hnew⟩

/-- The entry put is the only one of its requester. -/
theorem nodup_replayPut {e : ReplayEntry} {l : List ReplayEntry} (h : (l.map ReplayEntry.requester).Nodup) :
    ((replayPut e l).map ReplayEntry.requester).Nodup := by
  have hothers : ((l.filter fun x => decide (x.requester ≠ e.requester)).map ReplayEntry.requester).Nodup :=
    h.sublist (List.filter_sublist.map _)
  have hput : ((e :: l.filter fun x => decide (x.requester ≠ e.requester)).map ReplayEntry.requester).Nodup :=
    List.nodup_cons.2 ⟨by simp, hothers⟩
  exact hput.sublist ((List.take_sublist _ _).map _)

/-- What NoticesOk and ReplayOk say of the tables. -/
def ListsSound (x : Tables) : Prop :=
  (x.notices.map fun r => r.first.kind).Nodup ∧ (x.replay.map ReplayEntry.requester).Nodup ∧
    x.replay.length ≤ Config.replayLimit ∧ x.inbox.length ≤ Config.inboxLimit

theorem listsSound_change (x y : Tables) (h : TableChange x y) (hx : ListsSound x) : ListsSound y := by
  obtain ⟨hnotices, hreplay, hentries, hinbox⟩ := hx
  cases h with
  | reset straps => exact ⟨List.nodup_nil, List.nodup_nil, Nat.zero_le _, Nat.zero_le _⟩
  | raised e counter => exact ⟨nodup_noteRaise hnotices, hreplay, hentries, hinbox⟩
  | sent => exact ⟨hnotices.sublist ((List.tail_sublist _).map _), hreplay, hentries, hinbox⟩
  | recorded e => exact ⟨hnotices, nodup_replayPut hreplay, List.length_take_le _ _, hinbox⟩
  | joined d room => exact ⟨hnotices, hreplay, hentries, by simpa using room⟩
  | taken => exact ⟨hnotices, hreplay, hentries, (List.tail_sublist _).length_le.trans hinbox⟩
  | emptied => exact ⟨hnotices, hreplay, hentries, Nat.zero_le _⟩
  | readdressed => exact ⟨hnotices, hreplay, hentries, hinbox⟩
  | rerouted => exact ⟨hnotices, hreplay, hentries, hinbox⟩

/-- Settles O58: a step does to these tables what `TableChange` lists (`TablesReach.of_step`), and each change keeps
both invariants (`routesSound_change`, `listsSound_change`). -/
theorem routesNoticesAndReplaysAreKept : Obligations.RoutesNoticesAndReplaysAreKept := by
  refine ⟨fun s t h e => ?_, fun s t h e => ?_⟩
  · rw [routesOk_iff] at h ⊢
    exact (TablesReach.of_step e).keeps routesSound_change h
  · exact (TablesReach.of_step e).keeps (P := ListsSound) listsSound_change h

end Sys2Proof.Machine
end

section
/-! The builder's choice of a job (R162) and the notice job it builds or waits with (R163, R179). -/

namespace Sys2Proof.Machine

/-! ### The jobs that wait (R162) -/

section
variable {s : State}

theorem replyWaits_iff : replyWaits s = true ↔ s.agent.inbox ≠ [] := by simp [replyWaits]

theorem noticeWaits_iff : noticeWaits s = true ↔ s.agent.notices ≠ [] ∧ s.agent.noticeDest ≠ 0x0000 := by
  simp [noticeWaits]

theorem replyWaits_eq_false_iff : replyWaits s = false ↔ s.agent.inbox = [] := by simp [replyWaits]

theorem noticeWaits_eq_false_iff :
    noticeWaits s = false ↔ s.agent.notices = [] ∨ s.agent.noticeDest = 0x0000 := by
  rw [← Bool.not_eq_true, noticeWaits_iff, not_and_or, not_not, not_not]

/-- The choice of an IDLE builder: what waits alone, or the kind not built last (R162). -/
theorem chosenJob_cases :
    (replyWaits s = false → noticeWaits s = false → chosenJob s = none) ∧
    (replyWaits s = true → noticeWaits s = false → chosenJob s = some .reply) ∧
    (replyWaits s = false → noticeWaits s = true → chosenJob s = some .notice) ∧
    (replyWaits s = true → noticeWaits s = true →
      chosenJob s = some (if s.agent.lastBuilt = .notice then .reply else .notice)) := by
  refine ⟨fun hr hn => ?_, fun hr hn => ?_, fun hr hn => ?_, fun hr hn => ?_⟩ <;> rw [chosenJob, hr, hn]
  cases s.agent.lastBuilt <;> rfl

theorem chosenJob_eq_none_iff : chosenJob s = none ↔ replyWaits s = false ∧ noticeWaits s = false := by
  obtain ⟨hnone, hreply, hnotice, hboth⟩ := chosenJob_cases (s := s)
  cases hr : replyWaits s <;> cases hn : noticeWaits s <;> simp_all

theorem chosenJob_eq_reply_iff : chosenJob s = some .reply ↔
    replyWaits s = true ∧ (noticeWaits s = false ∨ s.agent.lastBuilt = .notice) := by
  obtain ⟨hnone, hreply, hnotice, hboth⟩ := chosenJob_cases (s := s)
  cases hr : replyWaits s <;> cases hn : noticeWaits s <;> simp_all

theorem chosenJob_eq_notice_iff : chosenJob s = some .notice ↔
    noticeWaits s = true ∧ (replyWaits s = false ∨ s.agent.lastBuilt = .reply) := by
  obtain ⟨hnone, hreply, hnotice, hboth⟩ := chosenJob_cases (s := s)
  cases hl : s.agent.lastBuilt <;> cases hr : replyWaits s <;> cases hn : noticeWaits s <;> simp_all

/-! ### The builder's two commands -/

theorem exec_builderChooseJob (h : s.resetHeld = false) : exec .builderChooseJob s = .next (builderChooseJob s) := by
  simp [exec, execBuilderChooseJob, whenRunning, h]

theorem exec_storeClaimGranted (h : s.resetHeld = false) : exec .storeClaimGranted s = .next (storeClaimGranted s) := by
  simp [exec, execStoreClaimGranted, whenRunning, h]

theorem builderChooseJob_of_busy (h : s.agent.builder ≠ .idle) : builderChooseJob s = s := by
  unfold builderChooseJob
  split
  · contradiction
  · rfl
  · rfl

theorem builderChooseJob_of_notice (hb : s.agent.builder = .idle) (hc : chosenJob s = some .notice) :
    builderChooseJob s = claimNotice (s.updAgent fun a => { a with job := some .notice }) := by
  rw [builderChooseJob, hb]
  dsimp only
  rw [chooseJob, hc]
  rfl

theorem builderChooseJob_of_reply (hb : s.agent.builder = .idle) (hc : chosenJob s = some .reply) :
    builderChooseJob s = chooseReply s := by
  rw [builderChooseJob, hb]
  dsimp only
  rw [chooseJob, hc]

theorem storeClaimGranted_of_notice (hb : s.agent.builder = .waitingStore) (hj : s.agent.job = some .notice) :
    storeClaimGranted s = claimNotice s := by
  rw [storeClaimGranted, hb]
  dsimp only
  rw [claimJob, hj]

theorem storeClaimGranted_of_reply (hb : s.agent.builder = .waitingStore) (hj : s.agent.job = some .reply) :
    storeClaimGranted s = claimReply s := by
  rw [storeClaimGranted, hb]
  dsimp only
  rw [claimJob, hj]

end

/-- Settles O39: the choice is made by what waits (`chosenJob_eq_none_iff`, `chosenJob_eq_reply_iff`,
`chosenJob_eq_notice_iff`), and a busy builder makes none. -/
theorem builderAlternates : Obligations.BuilderAlternates := by
  intro s
  refine ⟨?_, ?_, ?_, fun hr hb => ?_⟩
  · rw [chosenJob_eq_none_iff, replyWaits_eq_false_iff, noticeWaits_eq_false_iff]
  · rw [chosenJob_eq_reply_iff, replyWaits_iff, noticeWaits_eq_false_iff, or_assoc]
  · rw [chosenJob_eq_notice_iff, noticeWaits_iff, replyWaits_eq_false_iff, and_assoc]
  · rw [exec_builderChooseJob hr, builderChooseJob_of_busy hb]

/-! ### The notice frame (R179, 12.3) -/

theorem natBytes_three (n : Nat) : natBytes 3 n = bytesOf 3 n := by
  simp [natBytes, bytesOf, List.range_succ, Nat.div_div_eq_div_mul]

/-- A report of a tributary carries its number, with bit 7 set where the line comes UP (12.3). -/
theorem detail_lineEvent (p : PortIx) (up : Bool) :
    (Notice.lineEvent (.tributary p) up).detail = BitVec.ofNat 8 (if up then 0x80 + p.val else p.val) := by
  fin_cases p <;> cases up <;> rfl

/-- The payload the Agent writes, its fields of bytes as 12.3 writes them. -/
theorem payload_eq (x : NoticeRecord) : x.payload = [0x00, 0x00, 0xFF, BitVec.ofNat 8 x.first.kind.code,
    BitVec.ofNat 8 (x.count.toNat / 256), BitVec.ofNat 8 x.count.toNat, x.first.detail] ++ bytesOf 3 x.counter := by
  rw [NoticeRecord.payload, natBytes_three, hiByte_eq, loByte_eq]

/-- The payload the Agent writes is the one that 12.3 lays out. -/
theorem payload_eq_noticePayload (x : NoticeRecord) : x.payload = noticePayload x := by
  obtain ⟨first, count, counter⟩ := x
  rw [payload_eq]
  cases first with
  | stallAbort l => cases l <;> rfl
  | commitDone k => cases k <;> rfl
  | lineEvent l up =>
    cases l with
    | trunk => cases up <;> rfl
    | tributary p =>
      rw [detail_lineEvent]
      cases up <;> rfl
  | _ => rfl

/-- A notice built: its frame joins the management class queue, the record leaves the list, the builder is IDLE (R179). -/
theorem buildNotice_eq (d : DescId) (x : NoticeRecord) (st : FrameStore) (s : State) :
    buildNotice d x (s.updStore fun _ => st) = { s with
      agent := { s.agent with notices := s.agent.notices.tail, builder := .idle, job := none, lastBuilt := .notice }
      store := (st.build d (frameOf s.agent.noticeDest s.agent.address 0x00 (noticePayload x))).admitTail s.agent.mgmtClass
        (vget s.policy s.agent.mgmtClass).cutThrough d } := by
  unfold buildNotice admitBuilt
  simp only [State.updStore, State.updAgent, payload_eq_noticePayload, Bool.false_eq_true, if_false]

section
variable {x : NoticeRecord} {xs : List NoticeRecord} {s : State} (hn : s.agent.notices = x :: xs)
include hn

theorem claimNotice_of_refused (hc : s.store.agentClaim 1 = none) : claimNotice s = waitForStore s := by
  rw [claimNotice, hn]
  dsimp only
  rw [hc]

/-- A claim granted builds the head record's frame and takes the record off the list (R179). -/
theorem claimNotice_of_granted {d : DescId} {st : FrameStore} (hc : s.store.agentClaim 1 = some (d, st)) :
    claimNotice s = { s with
      agent := { s.agent with notices := xs, builder := .idle, job := none, lastBuilt := .notice }
      store := (st.build d (frameOf s.agent.noticeDest s.agent.address 0x00 (noticePayload x))).admitTail s.agent.mgmtClass
        (vget s.policy s.agent.mgmtClass).cutThrough d } := by
  rw [claimNotice, hn]
  dsimp only
  rw [hc]
  dsimp only
  rw [buildNotice_eq, hn, List.tail_cons]

end

/-- Settles O40: the claim is refused (`claimNotice_of_refused`) or granted (`claimNotice_of_granted`), at the choice or
when it is made again. -/
theorem noticeIsBuiltFromTheHeadRecord : Obligations.NoticeIsBuiltFromTheHeadRecord := by
  intro x xs s hr hn
  have hn' : (s.updAgent fun a => { a with job := some .notice }).agent.notices = x :: xs := hn
  refine ⟨fun hc hb hj => ?_, fun i d st hc hi => ?_⟩
  · rw [exec_builderChooseJob hr, builderChooseJob_of_notice hb hj, claimNotice_of_refused hn' hc]
    rfl
  · rcases hi with ⟨rfl, hb, hj⟩ | ⟨rfl, hb, hj⟩
    · rw [exec_builderChooseJob hr, builderChooseJob_of_notice hb hj, claimNotice_of_granted hn' hc]
      rfl
    · rw [exec_storeClaimGranted hr, storeClaimGranted_of_notice hb hj, claimNotice_of_granted hn hc]

/-! ### A replay (R171, R172) -/

/-- The entry that answers a replay becomes the most recently used, and is marked (R172). -/
theorem answerReplay_replay (d : DescId) (r : Request) (e : ReplayEntry) (s : State) :
    (answerReplay d r e s).agent.replay = replayPut { e with replayed := true } s.agent.replay := rfl

theorem answerReplay_counters (d : DescId) (r : Request) (e : ReplayEntry) (s : State) :
    (answerReplay d r e s).agent.counters = { s.agent.counters with replays := ctrInc s.agent.counters.replays } := rfl

theorem head?_replayPut (e : ReplayEntry) (l : List ReplayEntry) : (replayPut e l).head? = some e := rfl

/-- Settles O44: the row's command answers from the table (`builderChooseJob_of_replay`), which changes the store, the
builder and the table alone (`answerReplay_served`). -/
theorem replayIsAnsweredWithoutExecution : Obligations.ReplayIsAnsweredWithoutExecution := by
  intro k q d qs r e s h he
  obtain ⟨st, hc⟩ := h.toRequestTaken.agentClaim
  refine ⟨answerReplay d r e (atExecution q qs st s), ?_, answerReplay_replied r e st s, answerReplay_counters .., ?_,
    (answerReplay_served r e (atExecution q qs st s)).blocks⟩
  · rw [exec_of_ready h, builderChooseJob_of_replay h.toRequestTaken hc he]
  · rw [answerReplay_replay, head?_replayPut]

end Sys2Proof.Machine
end

section
/-! What an execution does not look at: the builder's state and the job it built last (R162, R164). -/

namespace Sys2Proof.Machine

/-! ### What does not look at the builder -/

/-- The state with the builder in another state, after another last job. -/
def withBuilder (b : BuilderState) (k : Job) (s : State) : State :=
  s.updAgent fun a => { a with builder := b, lastBuilt := k }

/-- An operation that neither reads nor writes the builder's state and its last job. -/
def BuilderBlind (f : State → State) : Prop := ∀ b k s, f (withBuilder b k s) = withBuilder b k (f s)

/-- An execution that answers the same whatever the builder's state and its last job, and does not write them. -/
def AnswersBlind (f : State → Done) : Prop :=
  ∀ b k s, f (withBuilder b k s) = { f s with state := withBuilder b k (f s).state }

theorem besideReception_withBuilder (b : BuilderState) (k : Job) : BesideReception (withBuilder b k) :=
  ⟨fun _ => rfl, fun _ => rfl, fun _ _ => rfl, fun _ _ => rfl⟩

theorem besideFramers_withBuilder (b : BuilderState) (k : Job) : BesideFramers (withBuilder b k) :=
  ⟨fun _ => rfl, fun _ _ => rfl, fun _ _ => rfl, fun _ _ => rfl, fun _ _ => rfl, fun _ _ _ _ => rfl⟩

theorem BesideReception.discardContext {g : State → State} (h : BesideReception g) (c : Cls) (r : DiscardReason)
    (s : State) : discardContext c r (g s) = g (discardContext c r s) := by
  have hc : ∀ s, (g s).context c = s.context c := fun s => context_congr (h.rx s) c
  have hr : releaseStorage c (g s) = g (releaseStorage c s) := by
    unfold releaseStorage
    rw [hc]
    split
    · rfl
    · rw [h.updStore, h.setContext]
  rw [Machine.discardContext, hr]
  dsimp only
  rw [hc, h.setContext]
  rfl

namespace BuilderBlind

/-- What does not look at the last job keeps it: the state may be taken for one given the last job it has. -/
theorem lastBuilt {f : State → State} (h : BuilderBlind f) (s : State) : (f s).agent.lastBuilt = s.agent.lastBuilt := by
  have hs : f s = withBuilder s.agent.builder s.agent.lastBuilt (f s) := h s.agent.builder s.agent.lastBuilt s
  have hl := congrArg (fun t : State => t.agent.lastBuilt) hs
  exact hl

theorem comp {f g : State → State} (hf : BuilderBlind f) (hg : BuilderBlind g) : BuilderBlind fun s => f (g s) :=
  fun b k s => (congrArg f (hg b k s)).trans (hf b k (g s))

theorem foldl {α : Type} {f : State → α → State} (hf : ∀ a, BuilderBlind fun s => f s a) (l : List α) :
    BuilderBlind fun s => l.foldl f s := fun b k s => by
  induction l generalizing s with
  | nil => rfl
  | cons a l ih =>
    have ha : f (withBuilder b k s) a = withBuilder b k (f s a) := hf a b k s
    exact (congrArg (List.foldl f · l) ha).trans (ih (f s a))

theorem failFrame (d : DescId) (r : FailReason) : BuilderBlind (failFrame d r) :=
  fun b k => (besideFramers_withBuilder b k).failFrame d r

theorem framerFails (p : PortIx) (r : FailReason) (y : FramerState) : BuilderBlind (framerFails p r y) :=
  fun b k => (besideFramers_withBuilder b k).framerFails p r y

theorem updFramer (p : PortIx) (f : Framer → Framer) : BuilderBlind (updFramer p f) := fun _ _ _ => rfl

theorem discardQueued (d : DescId) (r : FailReason) : BuilderBlind (discardQueued d r) := fun b k s => by
  unfold Machine.discardQueued
  rw [failFrame d r b k s]
  rfl

theorem emptyClassQueue (c : Cls) (r : FailReason) : BuilderBlind (emptyClassQueue c r) := fun b k s =>
  foldl (f := fun s d => Machine.discardQueued d r s) (fun d => discardQueued d r) (s.store.queue c) b k s

theorem emptyDelivery (p : PortIx) : BuilderBlind (emptyDelivery p) := fun _ _ _ => rfl

theorem abandonSending (p : PortIx) : BuilderBlind (abandonSending p) := fun b k s => by
  have h : (withBuilder b k s).port p = s.port p := rfl
  unfold Machine.abandonSending
  rw [h]
  split <;> rfl

theorem receptionEnded (p : PortIx) : BuilderBlind (receptionEnded p) := fun b k s => by
  unfold Machine.receptionEnded
  rw [(besideFramers_withBuilder b k).framer, framerFails p .lineDown .idle b k s]
  split <;> rfl

theorem stopServing (p : PortIx) : BuilderBlind (stopServing p) :=
  (abandonSending p).comp ((emptyDelivery p).comp ((updFramer p (Framer.freed .idle)).comp (receptionEnded p)))

theorem changePort (p : PortIx) (f : Port → Port) : BuilderBlind (changePort p f) := fun b k s => by
  have h : (withBuilder b k s).port p = s.port p := rfl
  have hu : (withBuilder b k s).updPort p f = withBuilder b k (s.updPort p f) := rfl
  have h' : (withBuilder b k (s.updPort p f)).port p = (s.updPort p f).port p := rfl
  unfold Machine.changePort
  dsimp only
  rw [hu, h, h']
  split
  · exact stopServing p b k _
  · rfl
  · rfl
  · rfl

theorem applyConfigs (l : List PortConfig) (i : Nat) : BuilderBlind (applyConfigs i l) := fun b k s => by
  induction l generalizing i s with
  | nil => rfl
  | cons x l ih =>
    rw [applyConfigs_cons, applyConfigs_cons]
    split
    · next hi => rw [configurePort, changePort ⟨i, hi⟩ _ b k s, ih]; rfl
    · exact ih (i + 1) s

theorem framerTrafficReset (p : PortIx) : BuilderBlind (framerTrafficReset p) := fun b k s => by
  unfold Machine.framerTrafficReset
  rw [(besideFramers_withBuilder b k).framer, framerFails p .reset .discard b k s]
  split <;> rfl

theorem portTrafficReset (p : PortIx) : BuilderBlind (portTrafficReset p) := (abandonSending p).comp (emptyDelivery p)

theorem resetBeforeReception : BuilderBlind resetBeforeReception := by
  have hframers := foldl (f := fun s p => Machine.framerTrafficReset p s) framerTrafficReset [0, 1, 2, 3]
  have hqueues := foldl (f := fun s c => Machine.emptyClassQueue c .reset s) (fun c => emptyClassQueue c .reset)
    [0, 1, 2, 3, 4, 5]
  have hports := foldl (f := fun s p => Machine.portTrafficReset p s) portTrafficReset [0, 1, 2, 3]
  have hall := hports.comp (hqueues.comp hframers)
  exact hall

theorem deinterleaverTrafficReset : BuilderBlind deinterleaverTrafficReset := fun b k s =>
  foldl (f := fun s c => discardContext c .reset s)
    (fun c b k => (besideReception_withBuilder b k).discardContext c .reset) (s.rx.stack.map OpenFrame.cls) b k s

theorem dropInbox : BuilderBlind dropInbox := fun _ _ _ => rfl

theorem countExecuted : BuilderBlind countExecuted := fun _ _ _ => rfl

theorem countRefused (x : Status) : BuilderBlind (countRefused x) := fun b k s => by
  unfold Machine.countRefused
  split <;> rfl

theorem recordOutcome (r : Request) (x : Status) : BuilderBlind (recordOutcome r x) := fun b k s => by
  unfold Machine.recordOutcome
  split <;> rfl

end BuilderBlind

namespace AnswersBlind

theorem ok {f : State → State} (h : BuilderBlind f) : AnswersBlind fun s => .ok (f s) :=
  fun b k s => congrArg Done.ok (h b k s)

theorem refuse (x : Status) : AnswersBlind (.refuse x) := fun _ _ _ => rfl

/-- A WRITE of whole entries, each decoded alike in both states. -/
theorem writeAll {α : Type} {r : Request} {size : Nat} {f : Nat → List Byte → Option α} {g : State → List α → Done}
    (hg : ∀ es, AnswersBlind fun s => g s es) : AnswersBlind fun s => writeAll r size f (g s) s := fun b k s => by
  dsimp only
  unfold Machine.writeAll
  split
  · rfl
  · exact hg _ b k s

theorem performWriteRoute (r : Request) : AnswersBlind (performWriteRoute r) := fun b k s => by
  have ha : (withBuilder b k s).agent.address = s.agent.address := rfl
  rw [performWriteRoute_eq, performWriteRoute_eq, ha]
  refine writeAll (g := fun s es => if (routeAddresses (writeFrom s.routes r.index es)).Nodup then
    .ok (s.setRoutes (writeFrom s.routes r.index es)) else .refuse .duplicate s) (fun es b k s => ?_) b k s
  have hr : (withBuilder b k s).routes = s.routes := rfl
  dsimp only
  rw [hr]
  split <;> rfl

theorem performWriteStandby (r : Request) : AnswersBlind (performWriteStandby r) := fun b k s => by
  have hs : (withBuilder b k s).sched = s.sched := rfl
  cases hc : s.sched.commit with
  | pending =>
    rw [performWriteStandby_of_pending r s hc, performWriteStandby_of_pending r _ (hs ▸ hc)]
    rfl
  | idle =>
    rw [performWriteStandby_of_idle r s hc, performWriteStandby_of_idle r _ (hs ▸ hc)]
    exact writeAll (g := fun s es =>
      .ok (s.updSched fun k => k.setStandby (k.standbyBank.writeEntries r.index es))) (fun _ _ _ _ => rfl) b k s

theorem performWrite (t : TableId) (r : Request) : AnswersBlind (performWrite t r) := fun b k s => by
  cases t with
  | classify =>
    rw [Machine.performWrite, Machine.performWrite, performWriteClassify_eq, performWriteClassify_eq]
    exact writeAll (g := fun s es => .ok (s.updClassifier fun k => { k with entries := writeFrom k.entries r.index es }))
      (fun _ _ _ _ => rfl) b k s
  | portDefault =>
    rw [Machine.performWrite, Machine.performWrite, performWritePortDefault_eq, performWritePortDefault_eq]
    exact writeAll (g := fun s es => .ok (s.updClassifier fun k => { k with defaults := writeFrom k.defaults r.index es }))
      (fun _ _ _ _ => rfl) b k s
  | classPolicy =>
    rw [Machine.performWrite, Machine.performWrite, performWriteClassPolicy_eq, performWriteClassPolicy_eq]
    exact writeAll (g := fun s es => .ok (s.setPolicy (writeFrom s.policy r.index es))) (fun _ _ _ _ => rfl) b k s
  | portConfig =>
    rw [Machine.performWrite, Machine.performWrite, performWritePortConfig_eq, performWritePortConfig_eq]
    exact writeAll (g := fun s es => .ok (applyConfigs r.index es s))
      (fun es => ok (BuilderBlind.applyConfigs es r.index)) b k s
  | route => exact performWriteRoute r b k s
  | scheduleStandby => exact performWriteStandby r b k s
  | scheduleActive => rfl
  | hits => rfl

theorem performCommit : AnswersBlind performCommit := fun b k s => by
  have hs : (withBuilder b k s).sched = s.sched := rfl
  unfold Machine.performCommit
  rw [hs]
  split
  · rfl
  · split <;> rfl

theorem performAbandon : AnswersBlind performAbandon := fun b k s => by
  have hs : (withBuilder b k s).sched = s.sched := rfl
  unfold Machine.performAbandon
  rw [hs]
  split <;> rfl

theorem performSetAlign (r : Request) : AnswersBlind (performSetAlign r) := fun b k s => by
  by_cases hr : BadAlign r
  · rw [performSetAlign_of_bad r s hr, performSetAlign_of_bad r _ hr]
    rfl
  · cases hm : (byteAt r.params 0).getLsbD 0 with
    | false =>
      rw [performSetAlign_of_width r s hr hm, performSetAlign_of_width r _ hr hm]
      rfl
    | true =>
      rcases alignMode_of_good r hr hm with ⟨-, hv⟩ | ⟨-, hv⟩ <;>
        rw [performSetAlign_of_mode r s hr hm hv, performSetAlign_of_mode r _ hr hm hv] <;> rfl

theorem performSetGlobal (r : Request) : AnswersBlind (performSetGlobal r) := fun b k s => by
  have hr : (withBuilder b k s).routes = s.routes := rfl
  unfold Machine.performSetGlobal
  dsimp only
  rw [hr]
  split <;> rfl

theorem performReadCounters (r : Request) : AnswersBlind (performReadCounters r) := fun b k s => by
  unfold Machine.performReadCounters
  cases r.clears <;> rfl

theorem performFlush (r : Request) : AnswersBlind (performFlush r) := fun b k s => by
  unfold Machine.performFlush
  split
  · split
    · rfl
    · exact ok (BuilderBlind.emptyClassQueue _ .flushed) b k s
  · split
    · split
      · rfl
      · exact ok (BuilderBlind.emptyDelivery _) b k s
    · rfl

theorem performTrafficReset : AnswersBlind performTrafficReset :=
  ok (BuilderBlind.dropInbox.comp (BuilderBlind.deinterleaverTrafficReset.comp BuilderBlind.resetBeforeReception))

theorem performKind (x : ReqKind) (r : Request) : AnswersBlind (performKind x r) := fun b k s => by
  cases x with
  | query => rfl
  | read =>
    unfold Machine.performKind
    dsimp only
    split <;> rfl
  | write =>
    unfold Machine.performKind
    dsimp only
    split
    · rfl
    · exact performWrite _ r b k s
  | commit => exact performCommit b k s
  | abandon => exact performAbandon b k s
  | setAlign => exact performSetAlign r b k s
  | setGlobal => exact performSetGlobal r b k s
  | readCounters => exact performReadCounters r b k s
  | flush => exact performFlush r b k s
  | trafficReset => exact performTrafficReset b k s

theorem perform (r : Request) : AnswersBlind (perform r) := fun b k s => by
  by_cases hp : r.preCheck = .ok
  · obtain ⟨x, hx⟩ := kind_of_passed hp
    rw [perform_of_passed hp hx, perform_of_passed hp hx]
    exact performKind x r b k s
  · rw [perform_of_refused hp, perform_of_refused hp]
    rfl

theorem performCounted (r : Request) : AnswersBlind (performCounted r) := fun b k s => by
  have hd : (withBuilder b k s).freeDraws = s.freeDraws := rfl
  have hdraw : (withBuilder b k s).drawFree = withBuilder b k s.drawFree := rfl
  unfold Machine.performCounted
  rw [hd, hdraw, BuilderBlind.countExecuted b k, BuilderBlind.countExecuted b k, perform r b k, perform r b k,
    perform r b k]
  split
  · rfl
  · split <;> rfl

end AnswersBlind

theorem executed_blind (r : Request) : BuilderBlind (executed r) := fun b k s => by
  unfold executed
  rw [AnswersBlind.performCounted r b k s]
  dsimp only
  rw [BuilderBlind.countRefused, BuilderBlind.recordOutcome]

end Sys2Proof.Machine
end

section
/-! A reply job: its request dropped as unanswerable, waiting in hand for store, or executed at the grant as one at the
head of the inbox is (R161 to R164). -/

namespace Sys2Proof.Machine

/-! ### The execution step looks neither at the builder's state nor at its last job -/

/-- The state with the last job that an execution step leaves: a REPLY where it has built one, k where its reply is owed
through a drain (R162, R174). -/
def lastBuiltAfter (k : Job) (t : State) : State :=
  { t with agent := { t.agent with lastBuilt := if t.agent.builder = .idle then .reply else k } }

theorem lastBuiltAfter_of_built {t : State} (hb : t.agent.builder = .idle) (hl : t.agent.lastBuilt = .reply) (k : Job) :
    lastBuiltAfter k t = t := by
  rw [lastBuiltAfter, if_pos hb, ← hl]

section
variable (b : BuilderState) (k : Job) (d : DescId) (r : Request) (s : State)

theorem dropRequest_withBuilder : dropRequest (withBuilder b k s) = withBuilder b k (dropRequest s) := by
  have h : (withBuilder b k s).agent.inHand = s.agent.inHand := rfl
  unfold dropRequest
  rw [h]
  split <;> rfl

theorem reply_withBuilder (x : Status) (m n : Bool) (data : List Byte) :
    reply d r x m n data (withBuilder b k s) = reply d r x m n data s := rfl

theorem reply_lastBuiltAfter (j : Job) (x : Status) (m n : Bool) (data : List Byte) :
    lastBuiltAfter j (reply d r x m n data s) = reply d r x m n data s := lastBuiltAfter_of_built rfl rfl j

theorem answerReplay_withBuilder (e : ReplayEntry) :
    answerReplay d r e (withBuilder b k s) = answerReplay d r e s := rfl

/-- The owed reply of a TRAFFIC_RESET is built at once over an empty stack, and waits for the drain otherwise (R173, R174). -/
theorem beginDrain_withBuilder : beginDrain (oweReply d r s) =
    lastBuiltAfter s.agent.lastBuilt (beginDrain (oweReply d r (withBuilder b k s))) := by
  have hstack : (oweReply d r (withBuilder b k s)).il.stack = (oweReply d r s).il.stack := rfl
  unfold beginDrain
  rw [hstack]
  split
  · exact (lastBuiltAfter_of_built rfl rfl _).symm
  · rfl

theorem execute_withBuilder : execute d r s = lastBuiltAfter s.agent.lastBuilt (execute d r (withBuilder b k s)) := by
  have hlast := (executed_blind r).lastBuilt s
  rw [execute, ← executed, execute, ← executed, executed_blind r b k s, AnswersBlind.performCounted r b k s]
  dsimp only
  split
  · rw [beginDrain_withBuilder b k, hlast]
  · rw [reply_withBuilder, reply_lastBuiltAfter]

/-- An execution step is the same but for the last job, which a drain still running keeps (R162, R164, R174). -/
theorem serve_withBuilder : serve d r s = lastBuiltAfter s.agent.lastBuilt (serve d r (withBuilder b k s)) := by
  have hreplay : (withBuilder b k (dropRequest s)).agent.replay = (dropRequest s).agent.replay := rfl
  have hlast : (dropRequest s).agent.lastBuilt = s.agent.lastBuilt := by
    unfold dropRequest
    split <;> rfl
  rw [serve, serve, dropRequest_withBuilder, hreplay]
  split
  · rw [answerReplay_withBuilder, answerReplay_eq, reply_lastBuiltAfter]
  · rw [← hlast]
    exact execute_withBuilder b k d r _

end

/-! ### The claim of a reply job (R161 to R163) -/

theorem answerable_iff (r : Request) : r.answerable = true ↔
    6 ≤ r.len ∧ r.src ≠ 0x0000 ∧ r.src ≠ 0xFFFF ∧ r.kind.getLsbD 7 = false := by
  simp [Request.answerable, and_assoc]

section
variable {q d : DescId} {qs : List DescId} {s : State} {st : FrameStore}

theorem claimReply_of_refused (hh : s.agent.inHand = some q)
    (hc : s.store.agentClaim (replyCells (s.store.request q) s.agent.replay) = none) : claimReply s = waitForStore s := by
  rw [claimReply, hh]
  dsimp only
  rw [hc]

theorem claimReply_of_granted (hh : s.agent.inHand = some q)
    (hc : s.store.agentClaim (replyCells (s.store.request q) s.agent.replay) = some (d, st)) :
    claimReply s = serve d (s.store.request q) (s.updStore fun _ => st) := by
  rw [claimReply, hh]
  dsimp only
  rw [hc]

theorem waitForStore_of_waiting (hb : s.agent.builder = .waitingStore) : waitForStore s = s := by
  rw [waitForStore, ← hb]
  rfl

/-- The head of the inbox in the Agent's hand, its claim not yet made (R160). -/
def headInHand (q : DescId) (qs : List DescId) (s : State) : State :=
  s.updAgent fun a => { a with inbox := qs, inHand := some q, job := some .reply }

/-- A reply job chosen: its request is answerable and claims store, or is dropped (R161). -/
theorem chooseReply_of_inbox (hi : s.agent.inbox = q :: qs) : chooseReply s =
    if (s.store.request q).answerable then claimReply (headInHand q qs s) else dropUnanswerable (headInHand q qs s) := by
  have ht : takeRequest s = headInHand q qs s := by
    rw [takeRequest, hi]
    rfl
  rw [chooseReply, ht]
  rfl

end

/-! ### The grant of a request in hand (R163, R164) -/

/-- A request in hand put back at the head of the inbox of an IDLE builder whose next job is a REPLY. -/
def putBack (q : DescId) (s : State) : State :=
  { s with agent := { s.agent with
    inbox := q :: s.agent.inbox, inHand := none, builder := .idle, job := none, lastBuilt := .notice } }

theorem chosenJob_putBack (q : DescId) (s : State) : chosenJob (putBack q s) = some .reply :=
  chosenJob_eq_reply_iff.2 ⟨replyWaits_iff.2 (List.cons_ne_nil _ _), .inr rfl⟩

/-- The builder waits with the answerable request q in hand, and the claim of its reply is granted (R163). -/
structure HandGranted (q d : DescId) (st : FrameStore) (s : State) : Prop where
  running : s.resetHeld = false
  answerable : (s.store.request q).answerable = true
  waiting : s.agent.builder = .waitingStore
  job : s.agent.job = some .reply
  inHand : s.agent.inHand = some q
  claim : s.store.agentClaim (replyCells (s.store.request q) s.agent.replay) = some (d, st)

namespace HandGranted
variable {q d : DescId} {s : State} {st : FrameStore} (h : HandGranted q d st s)
include h

theorem taken_putBack : RequestTaken q d s.agent.inbox (s.store.request q) (putBack q s) where
  running := h.running
  idle := rfl
  chosen := chosenJob_putBack q s
  inbox := rfl
  request := rfl
  answerable := h.answerable
  claim := congrArg (Option.map Prod.fst) h.claim

/-- Taken again, the request is in hand as it was, the builder IDLE. -/
theorem requestInHand_putBack :
    requestInHand q s.agent.inbox st (putBack q s) = withBuilder .idle .notice (s.updStore fun _ => st) := by
  rw [requestInHand, putBack, ← h.job, ← h.inHand]
  rfl

/-- The grant is the execution of the request put back (R164). -/
theorem storeClaimGranted_eq :
    storeClaimGranted s = lastBuiltAfter s.agent.lastBuilt (builderChooseJob (putBack q s)) := by
  rw [storeClaimGranted_of_reply h.waiting h.job, claimReply_of_granted h.inHand h.claim,
    builderChooseJob_of_taken h.taken_putBack h.claim, h.requestInHand_putBack, serve_withBuilder .idle .notice]
  rfl

theorem requestDue {k : RequestRow} (hk : (s.store.request q).row = some k) : requestDue k s = true := by
  simp [Machine.requestDue, nextRequest, h.waiting, h.job, h.inHand, h.answerable, hk, h.claim]

/-- The request's own row and STORE_CLAIM_GRANTED are the same step (log 6). -/
theorem exec_row {k : RequestRow} (hk : (s.store.request q).row = some k) :
    exec .storeClaimGranted s = exec k.command s := by
  rw [exec_storeClaimGranted h.running, exec_requestRow, whenRunning, h.running, requestStep, if_pos (h.requestDue hk),
    builderTurn, h.waiting]
  rfl

/-- At the grant a request other than a TRAFFIC_RESET is answered (R164). -/
theorem answers {k : RequestRow} (hk : (s.store.request q).row = some k) (hn : k ≠ .trafficReset) :
    (storeClaimGranted s).agent.builder = .idle ∧ (storeClaimGranted s).agent.inHand = none ∧
      (storeClaimGranted s).agent.inbox = s.agent.inbox ∧ (storeClaimGranted s).agent.lastBuilt = .reply := by
  have hready : RequestReady k q d s.agent.inbox (s.store.request q) (putBack q s) := ⟨h.taken_putBack, hk⟩
  obtain ⟨t, ht, hreplied, -⟩ := (readyRequestIsAnswered.1 k q d _ _ _ hready).2 (.inl hn)
  have hu : builderChooseJob (putBack q s) = t := Host.Outcome.next.inj ((exec_of_ready hready).symm.trans ht)
  rw [h.storeClaimGranted_eq, hu, lastBuiltAfter_of_built hreplied.idle hreplied.lastBuilt]
  exact ⟨hreplied.idle, hreplied.inHand, hreplied.inbox, hreplied.lastBuilt⟩

end HandGranted

/-- Settles O41: a reply job chosen drops its request or claims store (`chooseReply_of_inbox`), and the grant
executes the request in hand as one put back at the head of the inbox (`HandGranted.storeClaimGranted_eq`). -/
theorem unservedRequests : Obligations.UnservedRequests := by
  refine ⟨fun q qs s hr hb hj hi => ⟨answerable_iff _, fun ha => ?_⟩, fun q qs s hr ha => ⟨fun hb hj hi hc => ?_,
    fun hb hj hh => ⟨fun hc => ?_, fun hc => ?_⟩⟩⟩
  · rw [exec_builderChooseJob hr, builderChooseJob_of_reply hb hj, chooseReply_of_inbox hi, ha]
    rfl
  · have hc' : (headInHand q qs s).store.agentClaim
        (replyCells ((headInHand q qs s).store.request q) (headInHand q qs s).agent.replay) = none := hc
    rw [exec_builderChooseJob hr, builderChooseJob_of_reply hb hj, chooseReply_of_inbox hi, if_pos ha,
      claimReply_of_refused rfl hc']
    rfl
  · rw [exec_storeClaimGranted hr, storeClaimGranted_of_reply hb hj, claimReply_of_refused hh hc,
      waitForStore_of_waiting hb]
  · obtain ⟨⟨d, st⟩, hc⟩ := Option.isSome_iff_exists.1 hc
    have h : HandGranted q d st s := ⟨hr, ha, hb, hj, hh, hc⟩
    refine ⟨fun k hk => h.exec_row hk, ?_, fun k hk hn => ⟨_, exec_storeClaimGranted hr, h.answers hk hn⟩⟩
    exact ⟨builderChooseJob (putBack q s), exec_builderChooseJob hr,
      (exec_storeClaimGranted hr).trans (congrArg _ h.storeClaimGranted_eq)⟩

end Sys2Proof.Machine
end

section
/-! A raise as the Notice List takes it (R177): where the record of its kind stands, or at the tail; and the raises of one
step, one after another in a free order (log 8). -/

namespace Sys2Proof.Machine

/-! ### The Notice List under a raise -/

/-- The records before the first of the raise's kind stay; without one, the whole list does. -/
theorem noteRaise_append_of_other {e : Notice} {n : Nat} {l : List NoticeRecord}
    (h : ∀ x ∈ l, x.first.kind ≠ e.kind) (l' : List NoticeRecord) :
    noteRaise e n (l ++ l') = l ++ noteRaise e n l' := by
  induction l with
  | nil => rfl
  | cons x xs ih =>
    obtain ⟨hx, hxs⟩ := List.forall_mem_cons.1 h
    rw [List.cons_append, noteRaise, if_neg hx, ih hxs, List.cons_append]

/-- A kind with no record joins the tail (R177). -/
theorem noteRaise_of_no_record {e : Notice} {n : Nat} {l : List NoticeRecord}
    (h : ∀ x ∈ l, x.first.kind ≠ e.kind) :
    noteRaise e n l = l ++ [{ first := e, count := 1, counter := n }] := by
  simpa [noteRaise] using noteRaise_append_of_other (n := n) h []

/-- A record of the raise's kind counts it where it stands (R177). -/
theorem noteRaise_of_record {e : Notice} {n : Nat} {l l' : List NoticeRecord} {r : NoticeRecord}
    (h : ∀ x ∈ l, x.first.kind ≠ e.kind) (hr : r.first.kind = e.kind) :
    noteRaise e n (l ++ r :: l') = l ++ { r with count := countInc r.count } :: l' := by
  rw [noteRaise_append_of_other h, noteRaise, if_pos hr]

theorem countInc_eq (n : BitVec 16) : countInc n = if n = 0xFFFF then 0xFFFF else n + 1 := by
  have hmax : BitVec.allOnes 16 = 0xFFFF := by decide
  rw [countInc, hmax]
  split
  · assumption
  · rfl

/-! ### A raise, by the notice mask -/

theorem raise_of_disabled {e : Notice} {s : State} (h : maskAllows s.agent.noticeMask e.kind = false) :
    raise e s = s := by
  simp [raise, State.updAgent, h]

theorem raise_of_enabled {e : Notice} {s : State} (h : maskAllows s.agent.noticeMask e.kind = true) :
    raise e s = { s with agent := { s.agent with notices := noteRaise e s.sched.counter s.agent.notices } } := by
  rw [raise, State.updAgent, if_pos h]

/-! ### The raises of one step -/

/-- Two raises go in either order, by the next free choice (log 8). -/
theorem freeOrder_pair (e e' : Notice) (n : Nat) :
    freeOrder [e, e'] n = (if Config.eitherOrder n then [e, e'] else [e', e], n + 1) := by
  cases h : Config.eitherOrder n <;> simp [freeOrder, placeFree, h]

theorem raiseAll_pair (e e' : Notice) (s : State) :
    raiseAll [e, e'] s = if Config.eitherOrder s.freeDraws then raise e' (raise e { s with freeDraws := s.freeDraws + 1 })
      else raise e (raise e' { s with freeDraws := s.freeDraws + 1 }) := by
  rw [raiseAll, freeOrder_pair]
  cases Config.eitherOrder s.freeDraws <;> rfl

/-- Settles O19: the mask decides whether the raise is seen; an enabled one meets the list's first record of its kind, or
none; and the raises of a step go in the order that `freeOrder` draws. -/
theorem raiseIsTakenByTheNoticeList : Obligations.RaiseIsTakenByTheNoticeList := by
  refine ⟨fun e s => ⟨raise_of_disabled, fun hm => ⟨fun hnone => ?_, fun l l' r hs hr hl => ?_⟩⟩, fun es s => ?_,
    fun e e' s => ⟨raiseAll_nil s, raiseAll_singleton e s, raiseAll_pair e e' s⟩⟩
  · rw [raise_of_enabled hm, noteRaise_of_no_record hnone]
  · rw [raise_of_enabled hm, hs, noteRaise_of_record hl hr, countInc_eq]
  · exact ⟨(freeOrder es s.freeDraws).1, (freeOrder es s.freeDraws).2, freeOrder_perm es _, freeOrder_draws es _, rfl⟩

end Sys2Proof.Machine
end

section
/-! The queue of commands and the idle step (log 1): every command answers a next state, leaves the queue to the step, and
never takes a free choice back (log 23). -/

namespace Sys2Proof.Machine

/-- Settles O1: the front command leaves the queue and runs, by the definition of a step. -/
theorem stepRunsFrontCommand : Obligations.StepRunsFrontCommand := fun _ _ _ => rfl

/-! ### What an operation does to the queue and to the count of free choices -/

/-- From s to t the queue stands as it was, and no free choice is taken back. -/
structure KeepsQueue (s t : State) : Prop where
  pending : t.pending = s.pending
  draws : s.freeDraws ≤ t.freeDraws

namespace KeepsQueue
variable {s t u : State}

theorem refl (s : State) : KeepsQueue s s := ⟨rfl, Nat.le_refl _⟩

theorem trans (h : KeepsQueue s t) (h' : KeepsQueue t u) : KeepsQueue s u :=
  ⟨h'.pending.trans h.pending, h.draws.trans h'.draws⟩

/-- An operation that its frame lemma says to leave both fields. -/
theorem of_frame (hp : t.pending = s.pending := by simp) (hd : t.freeDraws = s.freeDraws := by simp) : KeepsQueue s t :=
  ⟨hp, hd.ge⟩

/-- The raises of a step only take free choices (log 8). -/
theorem raiseAll (h : KeepsQueue s t) (es : List Notice) : KeepsQueue s (raiseAll es t) :=
  h.trans ⟨(raiseAll_frame es t).1, raiseAll_draws es t⟩

theorem drawFree (h : KeepsQueue s t) : KeepsQueue s t.drawFree := h.trans ⟨rfl, Nat.le_succ _⟩

end KeepsQueue

/-! ### The clock, the marks and the trunk's slots -/

theorem trunkSlot_keepsQueue (s : State) : KeepsQueue s (trunkSlot s) := KeepsQueue.raiseAll .of_frame _

theorem trunkStallLimit_keepsQueue (s : State) : KeepsQueue s (trunkStallLimit s) := by
  unfold trunkStallLimit
  split
  · exact trunkSlot_keepsQueue s
  · exact .refl s

theorem windowEdge_keepsQueue (s : State) : KeepsQueue s (windowEdge s) := .of_frame

theorem cycleWrap_keepsQueue (s : State) : KeepsQueue s (cycleWrap s) := by
  unfold cycleWrap
  split
  · exact KeepsQueue.raiseAll .of_frame _
  · exact .refl s

theorem missedMarkCheck_keepsQueue (s : State) : KeepsQueue s (missedMarkCheck s) := by
  unfold missedMarkCheck
  split
  · exact KeepsQueue.raiseAll .of_frame _
  · exact .refl s

theorem markArrives_keepsQueue (s : State) : KeepsQueue s (markArrives s) := by
  unfold markArrives
  split
  · exact .refl s
  · exact KeepsQueue.raiseAll .of_frame _

theorem drainEnd_keepsQueue (s : State) : KeepsQueue s (drainEnd s) := by
  unfold drainEnd
  split
  · exact .of_frame
  · split
    · exact trunkSlot_keepsQueue s
    · exact .refl s

/-! ### The lines' reports and slots (R2, R138, R185) -/

theorem trunkDown_keepsQueue (s : State) : KeepsQueue s (trunkDown s) := .of_frame

theorem trunkUp_keepsQueue (s : State) : KeepsQueue s (trunkUp s) := .of_frame

theorem trunkDecoded_keepsQueue {f : State → State} (hf : ∀ s, KeepsQueue s (f s)) (s : State) :
    KeepsQueue s (trunkDecoded f s) :=
  trunkDecoded_keeps (fun _ _ h => h.trans (.of_frame rfl rfl)) (fun t h => h.trans (trunkUp_keepsQueue t))
    (fun t h => h.trans (hf t)) s (.refl s)

theorem rxSymbol_keepsQueue (y : TrunkSymbol) (s : State) : KeepsQueue s (rxSymbol y s) := .of_frame

theorem trunkSymbol_keepsQueue (y : TrunkSymbol) (s : State) : KeepsQueue s (trunkSymbol y s) :=
  trunkDecoded_keepsQueue (rxSymbol_keepsQueue y) s

theorem trunkFailed_keepsQueue (s : State) : KeepsQueue s (trunkFailed s) :=
  trunkFailed_keeps (fun _ _ h => h.trans (.of_frame rfl rfl)) (fun _ h => h.trans .of_frame) (fun _ h => h.trans .of_frame)
    (fun es _ h => h.raiseAll es) s (.refl s)

/-- The slot of a word that is no trunk symbol, whether or not it counts as decoded. -/
theorem undecodableSlot_keepsQueue (w : LineWord) (s : State) :
    KeepsQueue s ((if countsAsDecoded w then trunkDecoded rxUndecodable else trunkFailed) s) := by
  split
  · exact trunkDecoded_keepsQueue (fun t => .of_frame) s
  · exact trunkFailed_keepsQueue s

/-- The slot of a MARK: the Deinterleaver passes it over, and the Alignment Unit receives it. -/
theorem markSlot_keepsQueue (s : State) : KeepsQueue s (trunkDecoded (fun s => markArrives (rxSymbol .mark s)) s) :=
  trunkDecoded_keepsQueue (fun t => (rxSymbol_keepsQueue .mark t).trans (markArrives_keepsQueue _)) s

theorem tributaryDown_keepsQueue (p : PortIx) (s : State) : KeepsQueue s (tributaryDown p s) := .of_frame

theorem tributaryUp_keepsQueue (p : PortIx) (s : State) : KeepsQueue s (tributaryUp p s) := .of_frame

theorem tribDecoded_keepsQueue (p : PortIx) (y : TribSymbol) (s : State) : KeepsQueue s (tribDecoded p y s) := .of_frame

theorem tribFailed_keepsQueue (p : PortIx) (s : State) : KeepsQueue s (tribFailed p s) :=
  tribFailed_keeps (fun _ _ h => h.trans .of_frame) (fun _ h => h.trans .of_frame) (fun _ h => h.trans .of_frame)
    (fun es _ h => h.raiseAll es) s (.refl s)

theorem tribIdle_keepsQueue (p : PortIx) (w : LineWord) (s : State) : KeepsQueue s (tribIdle p w s) := by
  unfold tribIdle
  split
  · exact tribDecoded_keepsQueue p .idle s
  · exact tribFailed_keepsQueue p s

theorem tributaryStall_keepsQueue (p : PortIx) (w : LineWord) (s : State) : KeepsQueue s (tributaryStall p w s) := by
  unfold tributaryStall
  split
  · exact tribIdle_keepsQueue p w s
  · exact .refl s

theorem tribTxSlot_keepsQueue (p : PortIx) (s : State) : KeepsQueue s (tribTxSlot p s) := .of_frame

/-! ### The builder's turns (R160 to R164) -/

theorem serve_keepsQueue (d : DescId) (r : Request) (s : State) : KeepsQueue s (serve d r s) :=
  serve_keeps (fun _ h => h.trans .of_frame) (fun _ _ _ _ h => h.trans .of_frame) (fun _ h => h.drawFree)
    (fun _ h => h.trans .of_frame) (fun _ _ h => h.trans .of_frame) (fun _ _ _ h => h.trans .of_frame)
    (fun _ _ _ h => h.trans .of_frame) (fun _ _ _ _ _ _ _ h => h.trans .of_frame) d r s (.refl s)

theorem claimReply_keepsQueue (s : State) : KeepsQueue s (claimReply s) :=
  claimReply_keeps (fun _ h => h.trans (.of_frame rfl rfl)) (fun _ _ h => h.trans (.of_frame rfl rfl))
    (fun d r t h => h.trans (serve_keepsQueue d r t)) s (.refl s)

theorem builderChooseJob_keepsQueue (s : State) : KeepsQueue s (builderChooseJob s) :=
  builderChooseJob_keeps (fun _ h => h.trans .of_frame) (fun _ h => h.trans .of_frame) (fun _ h => h.trans .of_frame)
    (fun t h => h.trans (claimReply_keepsQueue t)) s (.refl s)

theorem storeClaimGranted_keepsQueue (s : State) : KeepsQueue s (storeClaimGranted s) :=
  storeClaimGranted_keeps (fun _ h => h.trans .of_frame) (fun t h => h.trans (claimReply_keepsQueue t)) s (.refl s)

theorem requestStep_keepsQueue (k : RequestRow) (s : State) : KeepsQueue s (requestStep k s) := by
  unfold requestStep builderTurn
  split
  · split
    · exact builderChooseJob_keepsQueue s
    · exact storeClaimGranted_keepsQueue s
    · exact .refl s
  · exact .refl s

/-! ### Every command -/

/-- The command answers a next state, and keeps the queue on the way. -/
def AnswersKeepingQueue (c : Instr) (s : State) : Prop := ∃ t, exec c s = .next t ∧ KeepsQueue s t

/-- A command guarded by the RESET pin answers, and keeps the queue if its operation does. -/
theorem AnswersKeepingQueue.of_whenRunning {c : Instr} {s : State} {f : State → State} (hf : ∀ s, KeepsQueue s (f s))
    (e : exec c s = .next (whenRunning f s) := by rfl) : AnswersKeepingQueue c s :=
  ⟨_, e, whenRunning_keeps (P := KeepsQueue s) (fun t h => h.trans (hf t)) s (.refl s)⟩

/-- The two resets carry the queue and the count over; every other command is its operation under the pin's guard, that of
a request's row the execution step of that row. -/
theorem exec_answersKeepingQueue (c : Instr) (s : State) : AnswersKeepingQueue c s := by
  cases c with
  | deviceReset => exact ⟨_, rfl, .of_frame rfl rfl⟩
  | resetRelease straps => exact ⟨_, rfl, by split <;> exact .of_frame rfl rfl⟩
  | trunkSlot => exact .of_whenRunning trunkSlot_keepsQueue
  | trunkStallLimit => exact .of_whenRunning trunkStallLimit_keepsQueue
  | windowEdge => exact .of_whenRunning windowEdge_keepsQueue
  | cycleWrap => exact .of_whenRunning cycleWrap_keepsQueue
  | missedMarkCheck => exact .of_whenRunning missedMarkCheck_keepsQueue
  | drainEnd => exact .of_whenRunning drainEnd_keepsQueue
  | trunkDown => exact .of_whenRunning trunkDown_keepsQueue
  | trunkUp => exact .of_whenRunning trunkUp_keepsQueue
  | tributaryDown p => exact .of_whenRunning (tributaryDown_keepsQueue p)
  | tributaryUp p => exact .of_whenRunning (tributaryUp_keepsQueue p)
  | rxUndecodable w => exact .of_whenRunning (undecodableSlot_keepsQueue w)
  | rxMark => exact .of_whenRunning markSlot_keepsQueue
  | rxOpen | rxResume | rxPause | rxData | rxFill | rxClose | rxAbort | rxIdle =>
    exact .of_whenRunning (trunkSymbol_keepsQueue _)
  | tribRxStart p | tribRxData p | tribRxEnd p | tribRxAbort p | tribRxMark p =>
    exact .of_whenRunning (tribDecoded_keepsQueue p _)
  | tribRxIdle p w => exact .of_whenRunning (tribIdle_keepsQueue p w)
  | tributaryStall p w => exact .of_whenRunning (tributaryStall_keepsQueue p w)
  | tribTxSlot p => exact .of_whenRunning (tribTxSlot_keepsQueue p)
  | builderChooseJob => exact .of_whenRunning builderChooseJob_keepsQueue
  | storeClaimGranted => exact .of_whenRunning storeClaimGranted_keepsQueue
  | _ => exact .of_whenRunning (requestStep_keepsQueue _)

/-- Settles O2: an empty queue idles by the definition of a step; the commands by what each one's operation does to the
queue (`exec_answersKeepingQueue`). -/
theorem idleOrOneCommand : Obligations.IdleOrOneCommand := by
  refine ⟨fun s h => by rw [step, h], fun c s => ?_⟩
  obtain ⟨t, e, h⟩ := exec_answersKeepingQueue c s
  exact ⟨t, e, h.pending, h.draws⟩

end Sys2Proof.Machine
end

section
/-! The symbol code table of 12.4 read back, and the command that the slot of a code word is (R185). -/

namespace Sys2Proof

/-! ### The table in both directions -/

/-- The code word of a data symbol lies below every control symbol's. -/
theorem dataCode_lt (b : Byte) : (b.setWidth 10).toNat < 256 := by
  rw [BitVec.toNat_setWidth_of_le (by decide)]
  exact b.isLt

theorem dataCode_truncate (b : Byte) : (b.setWidth 10).setWidth 8 = b := by
  rw [BitVec.setWidth_setWidth_of_le b (by decide), BitVec.setWidth_eq]

theorem trunkSymbolOf_trunkCode (y : TrunkSymbol) : trunkSymbolOf (trunkCode y) = some y := by
  cases y with
  | data b => rw [trunkCode, trunkSymbolOf, if_pos (dataCode_lt b), dataCode_truncate]
  | opened c => revert c; decide
  | resume c => revert c; decide
  | _ => rfl

theorem tribSymbolOf_tribCode (y : TribSymbol) : tribSymbolOf (tribCode y) = some y := by
  cases y with
  | data b => rw [tribCode, tribSymbolOf, if_pos (dataCode_lt b), dataCode_truncate]
  | _ => rfl

/-! ### The slots of the receivers -/

theorem trunkCommandOf_trunkCode (y : TrunkSymbol) : trunkCommandOf (some (trunkCode y)) = rxCommand y := by
  rw [trunkCommandOf, Option.bind_some, trunkSymbolOf_trunkCode]

theorem trunkCommandOf_of_undecodable {w : LineWord} (h : undecodableOnTrunk w = true) :
    trunkCommandOf w = .rxUndecodable w := by
  rw [trunkCommandOf, Option.isNone_iff_eq_none.1 h]

/-- The command of a tributary symbol received with its own code word, beside `rxCommand`. -/
def tribRxCommand (p : PortIx) : TribSymbol → Instr
  | .start => .tribRxStart p
  | .ended => .tribRxEnd p
  | .abort => .tribRxAbort p
  | .mark => .tribRxMark p
  | .data b => .tribRxData p b
  | .idle => .tribRxIdle p (some (tribCode .idle))

theorem tribCommandOf_tribCode (p : PortIx) (y : TribSymbol) :
    tribCommandOf p (some (tribCode y)) = tribRxCommand p y := by
  rw [tribCommandOf, Option.bind_some, tribSymbolOf_tribCode]
  cases y <;> rfl

theorem tribCommandOf_of_idle {w : LineWord} (h : handedOnAsIdle w = true) (p : PortIx) :
    tribCommandOf p w = .tribRxIdle p w := by
  unfold handedOnAsIdle at h
  split at h
  · next hw => rw [tribCommandOf, hw]
  · next hw => rw [tribCommandOf, hw, beq_iff_eq.1 h]

/-- A symbol's command is read back from the symbol's code word; a command that carries its word is well formed only where
the word spells it. -/
theorem commandOfSlot_of_receivedSlot {i : Instr} {w : Option PortIx × LineWord} (hi : WellFormed i = true)
    (hw : receivedSlot i = some w) : commandOfSlot w = i := by
  cases i with
  | rxOpen c => cases hw; exact trunkCommandOf_trunkCode (.opened c)
  | rxResume c => cases hw; exact trunkCommandOf_trunkCode (.resume c)
  | rxPause => cases hw; exact trunkCommandOf_trunkCode .pause
  | rxData b => cases hw; exact trunkCommandOf_trunkCode (.data b)
  | rxFill => cases hw; exact trunkCommandOf_trunkCode .fill
  | rxClose => cases hw; exact trunkCommandOf_trunkCode .close
  | rxAbort => cases hw; exact trunkCommandOf_trunkCode .abort
  | rxIdle => cases hw; exact trunkCommandOf_trunkCode .idle
  | rxMark => cases hw; exact trunkCommandOf_trunkCode .mark
  | rxUndecodable x => cases hw; exact trunkCommandOf_of_undecodable hi
  | tribRxStart p => cases hw; exact tribCommandOf_tribCode p .start
  | tribRxEnd p => cases hw; exact tribCommandOf_tribCode p .ended
  | tribRxAbort p => cases hw; exact tribCommandOf_tribCode p .abort
  | tribRxMark p => cases hw; exact tribCommandOf_tribCode p .mark
  | tribRxData p b => cases hw; exact tribCommandOf_tribCode p (.data b)
  | tribRxIdle p x => cases hw; exact tribCommandOf_of_idle hi p
  | _ => cases hw

/-- Settles O3: the table read back symbol by symbol, and the slots of the commands by their code words. -/
theorem codeWordsSpellTheirCommands : Obligations.CodeWordsSpellTheirCommands :=
  ⟨trunkSymbolOf_trunkCode, tribSymbolOf_tribCode, fun _ _ => commandOfSlot_of_receivedSlot⟩

end Sys2Proof
end
